-- ==== Sys2Proof/Word.lean ====
section
/-!
DEFINITION. The word types of the module: a register is 32 bits wide (R17), a byte 8, a hit word or lane unit 64.
-/
namespace Sys2Proof

/-- One 32-bit register or memory word (R17). -/
abbrev Word := BitVec 32

/-- One byte of memory (R14). -/
abbrev Byte := BitVec 8

/-- One 64-bit hit word, block payload or engine word (R245). -/
abbrev DWord := BitVec 64

end Sys2Proof
end

