-- ==== Sys2Proof/Syntax.lean ====
section
/-!
DEFINITION. The commands and events of the module: the rows of the opcode table, with the operands that come from
outside the module (who writes, what is written, when and where an edge falls, what a received block carries).
-/
namespace Sys2Proof

/-- An ownership domain: the tag that every write carries (R98). -/
inductive Dom where
  /-- Domain 0: the stewards. -/
  | stw
  /-- Domain 1: BAR0 writes through PCIE0. -/
  | pcie0
  /-- Domain 2: BAR0 writes through PCIE1. -/
  | pcie1
  /-- Domain 3: the downlink command channel. -/
  | dl
  deriving DecidableEq, Repr

/-- A requester of register reads, each with its own HI latch (R21). -/
inductive Requester where
  | port (p : Fin 2)
  | queue (q : Fin 16)
  | downlink
  | steward (b : Fin 2)
  deriving DecidableEq, Repr

/-- A change of a function's MSI-X masking: Enable and Function Mask of its Message Control register, or one vector's mask bit
(R115). -/
inductive MsixChange where
  | control (enable funcMask : Bool)
  | vector (v : Fin 64) (masked : Bool)
  deriving DecidableEq, Repr

/-- The contents of the external flash: its six regions from their first byte on; a byte beyond a list reads 0xFF, as
erased (R636, R637). -/
structure FlashImage where
  cfg0 : List Byte := []
  cfg1 : List Byte := []
  fw0 : List Byte := []
  fw1 : List Byte := []
  boot0 : List Byte := []
  boot1 : List Byte := []
  deriving DecidableEq, Repr

/-- What a start-up sequence meets outside the module (R639, R650, R628, R716). -/
structure StartupData where
  /-- The flash identification bytes, first byte lowest, and whether the reads of copies 0 and 1 complete. -/
  flashId : BitVec 24
  readOk0 : Bool
  readOk1 : Bool
  /-- Identity records: tile, outcome (2 no answer, 4 bus error, otherwise bytes were read) and the 64 bytes. -/
  idm : List (Fin 16 × Fin 5 × List Byte)
  /-- READ_VOUT of the VDD_CORE regulator in mV. -/
  vout : Nat
  /-- Ticks the sequence takes beside the WAIT records. -/
  ticks : Nat
  deriving DecidableEq, Repr

/-- What an ageing campaign measures (R704 to R711). -/
structure AgeMeas where
  /-- Counts of the 24 ring oscillators, for each measurement of step 1 in order. -/
  osc : List (List Nat)
  /-- For each rail step in order: VOUT_MODE reports LINEAR16, its exponent, and READ_VOUT in mV; none where the
  transaction fails. -/
  rail : List (Option (Bool × Int × Nat))
  /-- DLY of each tile, the eye widths of lanes 0 to 3 of each tile, and the eye width of each DRX lane. -/
  dly : List Nat
  eyes : List (List Nat)
  drx : List Nat
  /-- Ticks that each of the six steps takes. -/
  ticks : List Nat
  deriving DecidableEq, Repr

/-- How a STARTING steward fails: its self-checks fail, or 100 ms elapse without passing (R608). -/
structure StartFail where
  stw : Fin 2
  checks : Bool
  deriving DecidableEq, Repr

/-- What a converter measures (R537): V_POS − V_NEG as its filter has taken it, and the voltage sensed at the land of the
excitation output that REF selects, in nV. -/
structure ConvIn where
  diff : Int
  ref : Nat
  deriving DecidableEq, Repr

/-- The form of a measured spread of REF (R149, R152): its modulation frequency in Hz, the steepest slope of its profile in ppm
per µs, and whether it is downspread only. -/
structure SpreadForm where
  fmod : Nat
  slope : Nat
  down : Bool
  deriving DecidableEq, Repr

/-- A tile-link lane that gains block lock, and how many blocks late its blocks arrive (R275, R277). -/
structure LaneLock where
  lane : Fin 4
  skew : Int
  deriving DecidableEq, Repr

/-- A block received from a tile: the lane it came on, and what is wrong with it: 0 nothing, 1 its sync header, 2 its kind
(R273, R278). -/
structure BlockRx where
  tile : Fin 16
  lane : Fin 4
  err : Fin 3
  deriving DecidableEq, Repr

/-- A command or event of the module: one constructor per row of the opcode table (spec/opcode_table.json). -/
inductive Instr where
  /-- REGISTER_WRITE (R98): A write to a register that has no row of its own is checked for ownership and then performed. -/
  | registerWrite (r : Requester) (addr : Nat) (v : Word)
  /-- READ_LO_LATCH_HI (R21): A read of the LO half of a 64-bit register latches the HI half into the reading requester's own latch. -/
  | readLoLatchHi (r : Requester) (addr : Nat)
  /-- STOPPED_ISLAND_READ (R23): A read aimed at a stopped or reset island completes after 8 us with 0xFFFF_FFFF and sets the reader's ISLAND_STOPPED bit. -/
  | stoppedIslandRead (r : Requester) (addr : Nat)
  /-- CROSSING_CLOCK_RETURN (R40): When a stopped clock returns, the crossing delivers the transfer it held and any writes held for that island. -/
  | crossingClockReturn (isl : Fin 28)
  /-- CROSSING_REOPEN (R38): A sealed crossing reopens once both sides have left reset and have completed the re-open handshake. -/
  | crossingReopen (isl : Fin 28)
  /-- PAGE_RESET (R94): A write of PAGE_CTL.SRST starts a page reset, and accesses to the block's island registers are held until it ends. -/
  | pageReset (d : Dom) (page : Nat)
  /-- PAGE_RESET_COMPLETE (R94): The page reset completes within 2 us, SRST reads 0 and the held accesses are performed in order on the reset state. -/
  | pageResetComplete (page : Nat)
  /-- PAGE_LOCK (R18): A write of PAGE_CTL.LOCK locks the page's RWL fields until the next warm or power-on reset. -/
  | pageLock (d : Dom) (page : Nat)
  /-- INT_FORCE (R93): A write of 1 to a bit of INT_FORCE sets the same bit of INT_STAT, which may assert the page's interrupt source. -/
  | intForce (d : Dom) (page : Nat) (v : Word)
  /-- POWER_ON_RESET (R95): PORST_N low resets everything, RWS fields included, and poisons every memory cell. -/
  | powerOnReset
  /-- WRST_N_RESET (R95): WRST_N held low starts a warm reset of every register except RWS fields and restarts the start-up sequence. -/
  | wrstNReset
  /-- SYS_RESET_WRITE (R96): An accepted write to SYS.RESET with KEY 0x5752 starts a warm reset within 1 us. -/
  | sysResetWrite (d : Dom) (v : Word)
  /-- BROWNOUT (R681): VDD_AUX or VDD_CORE falling below its brown-out level for more than 1 us acts as PORST_N low until 1 ms after both rails recover. -/
  | brownout
  /-- ISLAND_RESET (R719): An accepted write to SYS.ISLAND_RESET holds the named island in reset for 10 us and seals its crossings. -/
  | islandReset (d : Dom) (v : Word)
  /-- CLOCK_CHECK_FAIL (R719): The hardware reset controller finds a failed clock check and places the island in an island reset. -/
  | clockCheckFail (isl : Fin 28)
  /-- ISLAND_RESET_END (R719): After 10 us the island leaves reset, its crossings reopen and ISLAND_LIVE shows it live again within 20 us of the cause. -/
  | islandResetEnd (isl : Fin 28)
  /-- PCIE_HOT_RESET (R76): A hot reset, a link-down reset or PERST_N low resets only that port's configuration space, MSI-X table and PCIE page. -/
  | pcieHotReset (p : Fin 2)
  /-- PCIE_LINK_DOWN (R108): A port's link goes down and, with REVOKE_ON_LINKDOWN = 1, every page HELD by that port's domain returns to FREE. -/
  | pcieLinkDown (p : Fin 2)
  /-- PCIE_LINK_RETURN (R721): On return to L0 with the function in D0, the port judges again every vector that is active and not in service and sends its message. -/
  | pcieLinkReturn (p : Fin 2) (width : Nat) (speed : Nat) (reversed : Bool)
  /-- PCIE_POWER_STATE (R75): A port enters or leaves D3hot, stops or resumes answering memory requests, and leaves the module running. -/
  | pciePowerState (p : Fin 2) (d3 : Bool)
  /-- BAR0_MALFORMED_ACCESS (R78): A BAR0 access that is not an aligned 32-bit access with all byte enables completes or is reported as an Unsupported Request. -/
  | bar0MalformedAccess (p : Fin 2) (isWrite : Bool) (off : Nat)
  /-- BAR_MEMORY_READ (R81): A BAR2 or BAR4 read returns memory data, and an uncorrectable error poisons the completion and is logged. -/
  | barMemoryRead (p : Fin 2) (bar4 : Bool) (addr : Nat) (len : Nat)
  /-- BAR_MEMORY_WRITE (R82): A BAR2 or BAR4 write is performed only inside the port's write window and is otherwise discarded and counted in WIN_DENY. -/
  | barMemoryWrite (p : Fin 2) (bar4 : Bool) (addr : Nat) (data : List (Option Byte))
  /-- CLAIM (R102): A write to OWN.CLAIM claims a range of pages for the writing domain, all or none, and reports the outcome in its OWN.RESULT. -/
  | claim (d : Dom) (v : Word)
  /-- RELEASE (R103): A write to OWN.RELEASE returns a range of pages HELD by the writer to FREE, all or none. -/
  | release (d : Dom) (v : Word)
  /-- REVOKE (R109): Domain 0 writes OWN.REVOKE with the right KEY and every page HELD by the named domain returns to FREE. -/
  | revoke (d : Dom) (v : Word)
  /-- DOWNLINK_ABSENCE_REVOKE (R108): When no downlink lane has been ALIGNED for 1 s, every page HELD by domain 3 returns to FREE. -/
  | downlinkAbsenceRevoke
  /-- SNAP (R190): A write of TIME.SNAP.GO captures MTIME, WTIME and XTIME in one TIME-island clock period into the writer's snapshot block. -/
  | snap (d : Dom) (v : Word)
  /-- MSIX_SEND (R113): A vector becomes active while not in service, so the port sends its MSI-X message and the vector enters service. -/
  | msixSend (p : Fin 2) (vec : Fin 64)
  /-- EOI (R114): A write of a vector to IRQ.EOIp takes the vector out of service and sends a new message when it is still active. -/
  | eoi (d : Dom) (p : Fin 2) (v : Word)
  /-- MSIX_UNMASK (R115): Unmasking an MSI-X function or vector sends a message held back by the mask and clears its pending bit. -/
  | msixUnmask (p : Fin 2) (ch : MsixChange)
  /-- MODE_REQ (R726): A write to MODE.REQ is judged against the refusal conditions and either becomes the pending request or is refused with a code. -/
  | modeReq (d : Dom) (v : Word)
  /-- MODE_CANCEL (R133): A write to MODE.CANCEL with the right KEY withdraws the pending request before its frame starts. -/
  | modeCancel (d : Dom) (v : Word)
  /-- MODE_CHANGE (R127): The pending request takes effect at the start of frame F, with the state kept and flushed as R139 lays down. -/
  | modeChange
  /-- UMBRA_IDLE_PREP_COMPLETE (R223): The preparation completes when every tile with DISABLE = 0 is LIVE or FAULT, and Idle takes effect at F or at the next frame start, with SLIPPED set. -/
  | umbraIdlePrepComplete
  /-- FATAL_CAUSE_END (R140): The last lasting fatal condition ends and MODE.CAUSE.PRESENT falls to 0. -/
  | fatalCauseEnd (cause : Fin 16)
  /-- FRAME_START (R8): MTIME reaches a multiple of 65,536 ticks and a new frame begins. -/
  | frameStart (hubVotes : List (Nat × Bool)) (tileVotes : List (Fin 16 × Nat × Bool))
  /-- PLL_FIRST_LOCK (R156): The master PLL first locks after power-on, MTIME and WTIME start at 0 and the straps are latched. -/
  | pllFirstLock (slot : Fin 16) (fuseEn : Bool) (flash : Option FlashImage)
  /-- XTAL_START (R723): The crystal starts oscillating within 5 ms of VDD_AUX reaching 90 % and XTIME starts counting from 0. -/
  | xtalStart
  /-- XTAL_FAIL (R176): The crystal stops, XTAL_OK falls to 0, XTIME stops and XTAL_FAIL is set. -/
  | xtalFail
  /-- REF_LOST (R173): A loss of REF is detected, the PLL switches to the crystal without a phase step and holdover begins. -/
  | refLost
  /-- REF_RETURN (R174): REF has been present and in range for 10 ms, so the PLL re-locks, HOLDOVER and SYNCED clear and CLK.HOLD_LEN is written. -/
  | refReturn
  /-- REF_QUALIFY_TIMEOUT (R641): When REF has not qualified within 50 ms of PORST_N release, the PLL starts from the crystal and fatal cause 4 is present. -/
  | refQualifyTimeout
  /-- SPREAD_REPORT (R152): Once per second the spread monitor reports depth and modulation frequency and flags a spread outside the limits. -/
  | spreadReport (depth : Nat) (form : SpreadForm) (offset : Word)
  /-- XRATIO_WINDOW (R171): At the end of each window of 2^25 crystal periods the module writes the measured ticks per crystal period to CLK.XRATIO. -/
  | xratioWindow (ratio : Nat) (refInRange : Bool)
  /-- XADJ_WRITE (R154): A write to CLK.XADJ sets a new rounded XTIME increment from the next crystal period. -/
  | xadjWrite (d : Dom) (v : Word)
  /-- WINC_LO_WRITE (R167): A write of TIME.WINC_LO is held in a staging register without changing the increment. -/
  | wincLoWrite (d : Dom) (v : Word)
  /-- WINC_HI_WRITE (R167): A write of TIME.WINC_HI applies the staged 64-bit increment at the next step, or refuses it when it is out of range. -/
  | wincHiWrite (d : Dom) (v : Word)
  /-- WSTEP_SCHEDULE (R169): A write of 1 to TIME.WCTL.STEP schedules a WTIME load, or is refused when the step allowance is used or WLOAD_AT is too close. -/
  | wstepSchedule (d : Dom) (v : Word)
  /-- WTIME_LOAD (R168): MTIME reaches WLOAD_AT, WTIME is loaded with WLOAD and WSTEP_USED is set. -/
  | wtimeLoad
  /-- COMPARE_ARM (R182): A write of CMP_CTL.EN = 1 arms a compare, and a target that is not in the future fires at once or is dropped according to NOLATE. -/
  | compareArm (d : Dom) (inst : Fin 24) (v : Word)
  /-- COMPARE_FIRE (R178): A compare's base reaches its target, so it fires, performs its action, counts the firing and rearms or disarms. -/
  | compareFire (inst : Fin 24)
  /-- TIME_OUT_PULSE_END (R179): The TIME_OUT pulse ends after WIDTH ticks. -/
  | timeOutPulseEnd
  /-- CAP_HI_READ (R188): A read of CAP_HI clears FULL so that the capture unit can take its next event. -/
  | capHiRead (r : Requester) (inst : Fin 24)
  /-- AUX_EDGE (R259): An edge on AUX0 to AUX3 is captured with tick and bin, treated as a near edge or ignored, and fed to the capture and TIU units. -/
  | auxEdge (line : Fin 4) (tick : Nat) (bin : Fin 256) (high : Bool)
  /-- TIU_OVERFLOW (R266): The held edge of an incomplete TIU pair becomes 2^40 ticks old and the unit completes with OVF and a saturated result. -/
  | tiuOverflow (u : Fin 4)
  /-- TIU_RES_HI_READ (R268): A read of RES_HI removes the head result from the unit's queue. -/
  | tiuResHiRead (r : Requester) (u : Fin 4)
  /-- TIU_CTL_WRITE (R271): A write to a TIU unit's CTL arms or disarms the unit, and a change of other fields while EN is 1 is refused. -/
  | tiuCtlWrite (d : Dom) (u : Fin 4) (v : Word)
  /-- THL_LEADING_EDGE (R205): A THL leading edge passes the rate monitor, the mask gate, the hit former, the rate cap and the derandomiser. -/
  | thlLeadingEdge (t : Fin 16) (c : Fin 128) (tick : Nat) (raw : Fin 384)
  /-- THU_LEADING_EDGE (R247): A THU leading edge is latched and fixes SLEW and the SLEW condition of the hit in formation. -/
  | thuLeadingEdge (t : Fin 16) (c : Fin 128) (tick : Nat) (raw : Fin 384)
  /-- THL_TRAILING_EDGE (R727): A THL trailing edge outside dead time closes the hit in formation and decides the WIDTH and RUNT conditions. -/
  | thlTrailingEdge (t : Fin 16) (c : Fin 128) (tick : Nat) (raw : Fin 384)
  /-- OVERLENGTH_CLOSE (R249): 1,024 ticks pass after a THL leading edge without a trailing edge, so the tile closes the hit with KIND 2, WIDTH 65,535 and SAT. -/
  | overlengthClose (t : Fin 16) (c : Fin 128)
  /-- COND_TIMEOUT (R299): The TIMEOUT condition's timer expires at tL + TMO while THL has not fallen. -/
  | condTimeout (t : Fin 16) (c : Fin 128)
  /-- HIT_RELEASE (R204): A completed hit word is released into the derandomiser no earlier than 5.0 ns after its leading edge and no earlier than its trailing edge. -/
  | hitRelease (t : Fin 16) (c : Fin 128)
  /-- QUENCH_WINDOW_END (R207): A rate-monitor window ends, WCOUNT is updated and, with QAUTO, a channel after QHOLD quiet windows is released with a marker. -/
  | quenchWindowEnd (t : Fin 16) (c : Fin 128)
  /-- QCLR (R210): A write of CHAN.CMD.QCLR releases the channel's quench, puts a release marker into the derandomiser and restarts the count. -/
  | qclr (d : Dom) (t : Fin 16) (c : Fin 128) (v : Word) (lost : Bool)
  /-- QWIN_CHANGE (R728): A change of QWIN ends the window in progress without completing it and starts a partial window. -/
  | qwinChange (d : Dom) (t : Fin 16) (c : Fin 128) (v : Word)
  /-- TILE_CTL_WRITE (R198): A write to TILEn.CTL applies GAIN and POL only in Umbra or Idle and applies DISABLE at once, which powers the tile up or down. -/
  | tileCtlWrite (d : Dom) (t : Fin 16) (v : Word)
  /-- INJECTION_PULSE (R218): The test pulser injects its charge at the programmed tick and stops, clearing EN, after INJ_COUNT pulses. -/
  | injectionPulse (t : Fin 16)
  /-- TILE_SWITCH_ON (R221): A tile's supply is switched on 10 us times n after the start of power-up, and the tile enters RAMP. -/
  | tileSwitchOn (t : Fin 16)
  /-- TILE_ANSWER (R221): The tile's bias settles and it answers on the control bus, so it enters CONFIG and its configuration is sent. -/
  | tileAnswer (t : Fin 16)
  /-- TILE_ANSWER_TIMEOUT (R221): A tile that has not answered within 1 ms enters FAULT with FAULT_CODE 1. -/
  | tileAnswerTimeout (t : Fin 16)
  /-- TILE_READBACK_CHECK (R221): The tile's read-back check word is compared with PAGE_CHECK, and the tile enters CALIB on a match or FAULT after two mismatches. -/
  | tileReadbackCheck (t : Fin 16) (check : Word)
  /-- TILE_OVERCURRENT (R222): The tile supply current exceeds its limit, so the tile enters FAULT with code 4 and is switched off. -/
  | tileOvercurrent (t : Fin 16)
  /-- SOURCE_RUN_REQUEST (R241): A write of TILEn.CAL_CTL.RUN requests a source run in Idle or Calibrate on a LIVE tile, and is refused otherwise. -/
  | sourceRunRequest (d : Dom) (t : Fin 16) (v : Word)
  /-- SOURCE_RUN_COMPLETE (R238): A source run completes its histograms and yields new tables, or fails, leading to CALIB to LIVE, FAULT or CAL_STAT.FAIL. -/
  | sourceRunComplete (t : Fin 16) (hists : List (List Nat))
  /-- BG_HISTOGRAM_COMPLETE (R243): A background histogram of 2^20 conversions completes and yields a candidate table, which is accepted or rejected. -/
  | bgHistogramComplete (t : Fin 16) (k : Fin 16) (hist : List Nat)
  /-- TILE_FRAME_CLOSE (R279): The tile closes frame n once every channel has released its words of frame n, and then sends the header of frame n + 1. -/
  | tileFrameClose (t : Fin 16)
  /-- TILE_COMMAND (R296): The hub sends a queued command frame twice on the tile control bus, and the tile acts on the first copy that decodes. -/
  | tileCommand (t : Fin 16) (first : Fin 3) (second : Fin 3)
  /-- TILE_LINK_BLOCK (R273): A block of a tile link is received, and a block with an invalid sync header or kind is discarded. -/
  | tileLinkBlock (t : Fin 16) (lane : Fin 4) (err : Fin 3)
  /-- LANE_BLOCK_LOCK (R277): A tile-link receiver lane gains block lock after 64 valid sync headers. -/
  | laneBlockLock (t : Fin 16) (lock : LaneLock)
  /-- LANE_LOCK_LOSS (R277): A lane sees 16 invalid sync headers within 64 blocks, loses lock and drives the link state change. -/
  | laneLockLoss (t : Fin 16) (lane : Fin 4) (headers : Nat)
  /-- LINK_HUNT_TIMEOUT (R289): 100 us after entering HUNT, a link with exactly three enabled lanes locked goes to THREE, and one with fewer reports DOWN. -/
  | linkHuntTimeout (t : Fin 16)
  /-- LINK_RESTRIPE (R290): At the named frame start, the tile and the hub change a link to 3 or 4 lanes, and the rate cap is applied or lifted. -/
  | linkRestripe (t : Fin 16)
  /-- LANE_RETURN_TIMER (R292): A missing lane has held lock for 1 ms, so the hub names a frame at which both sides change back to 4 lanes. -/
  | laneReturnTimer (t : Fin 16)
  /-- LANE_DIS_WRITE (R294): A write to a link's LANE_DIS changes its lanes through CHANGE, or is refused when fewer than 3 lanes would remain. -/
  | laneDisWrite (d : Dom) (t : Fin 16) (v : Word)
  /-- FRAME_HEADER_RX (R287): Intake receives a tile frame header and compares PREV_HITS with the words it received, reporting any shortfall as incomplete. -/
  | frameHeaderRx (b : BlockRx)
  /-- COUNT_BLOCK_RX (R288): Intake receives a count block, refreshes the TILE and CHAN counts, and resends configuration on a check-word mismatch. -/
  | countBlockRx (b : BlockRx)
  /-- INTAKE_CLOSE_DEADLINE (R285): 2.048 us into frame n + 1 without a new header, intake treats the link as having closed frame n. -/
  | intakeCloseDeadline (t : Fin 16)
  /-- HIT_WORD_INTAKE (R27): Intake arbitration passes a hit word on to the path of the mode that handles its frame. -/
  | hitWordIntake
  /-- FAST_PATH_REPORT (R305): Each tick every tile reports four condition counts to the trigger block, and a report with a parity error is discarded. -/
  | fastPathReport (tick : Nat) (parityErr : BitVec 16)
  /-- TP_BLOCK_SEND (R476): At a block slot, UTX16 and UTX17 send the head of the trigger-primitive queue, a CC block or IDLE. -/
  | tpBlockSend
  /-- TP_FRAME_MARKER (R318): The frame marker of frame F + 1 enters the trigger-primitive queue after every block decided in frame F. -/
  | tpFrameMarker
  /-- HOST_ACCEPT (R326): A write of TRIG.ACC_GO.GO submits a host accept with the apply tick in ACC_AT. -/
  | hostAccept (d : Dom) (v : Word)
  /-- ACCEPT_ARRIVE (R324): An accept from an enabled source reaches the router and is queued, or discarded when too far in the future or when the router is full. -/
  | acceptArrive (src : Fin 5)
  /-- ACCEPT_ROUTE (R322): The router passes one accept per nanosecond to the consumer of the mode that handles its apply tick, or counts it unused. -/
  | acceptRoute
  /-- LRING_EXPIRE (R343): At the start of frame f + 4, the ring drops the hit words of frame f that no pending accept window holds. -/
  | lringExpire
  /-- LRING_SERVE (R348): Once intake has closed the frame of the window end, an admitted accept is served and produces exactly one event. -/
  | lringServe
  /-- HAMP_WINDOW_END (R359): MTIME reaches E of the last record opened, so the record closes and the store enters REARM. -/
  | hampWindowEnd
  /-- HAMP_REARM (R359): MTIME reaches E + 1,600, so the store becomes ARMED, or HELD when HOLD is 1. -/
  | hampRearm
  /-- HAMP_RECORD_COMPLETE (R355): Intake has closed the frame containing E - 1, so the store writes the record header and passes the record on. -/
  | hampRecordComplete
  /-- HAMP_HOLD_WRITE (R351): A write of HAMP.CTL.HOLD moves the store between ARMED and HELD and sets R when it is cleared. -/
  | hampHoldWrite (d : Dom) (v : Word)
  /-- HAMP_RELEASE (R357): A write to HAMP.RELEASE frees the oldest records held for BAR2 read-out. -/
  | hampRelease (d : Dom) (v : Word)
  /-- TAIL_PAGE_TIMEOUT (R366): 16 frames have begun since a tile's Tail page was opened, so the page closes with TIMEOUT. -/
  | tailPageTimeout (t : Fin 16)
  /-- TAIL_FREEZE_GO (R369): A write of TAIL.FREEZE_GO raises a host alert with the tick in FREEZE_AT. -/
  | tailFreezeGo (d : Dom) (v : Word)
  /-- TAIL_ALERT (R370): An alert from an enabled source is admitted into a free freeze slot and pins its frame range, or is dropped or merged. -/
  | tailAlert
  /-- TAIL_SLOT_HELD (R373): Intake has closed frame fT + LOOKAHEAD and its pages are written, so the freeze slot becomes HELD. -/
  | tailSlotHeld (inst : Fin 4)
  /-- TAIL_SLOT_RELEASE (R373): A write of a freeze slot's RELEASE frees the slot and its pins, and a writer in PINNED_FULL resumes. -/
  | tailSlotRelease (d : Dom) (inst : Fin 4) (v : Word)
  /-- TAIL_EXTRACT_REQUEST (R374): A write of TAIL.X_CTL.GO queues an extraction request, or the request is refused. -/
  | tailExtractRequest (d : Dom) (v : Word)
  /-- TAIL_EXTRACT (R375): Extraction reads the pages of the range as frames close and as queue credit allows, and feeds the stream to the compressor. -/
  | tailExtract
  /-- TAIL_EXTRACT_DONE (R378): The last compressed block of an extraction is placed with LAST, XDONE is set and X_DONE is incremented. -/
  | tailExtractDone
  /-- RLE_INPUT (R380): The compressor codes input bytes of a stream into code words deterministically. -/
  | rleInput (key : Nat)
  /-- RLE_STREAM_END (R383): The end of a stream closes the open block with LAST. -/
  | rleStreamEnd (key : Nat)
  /-- DISPATCH_WORD (R386): The dispatcher deals a hit word to the next engine of the rotation, or bypasses it with ORIGIN 3 when the engine's queue is full. -/
  | dispatchWord (j : Fin 4)
  /-- DISPATCH_MARKER (R390): After the last word of frame F, the dispatcher sends a frame marker to every engine of the group. -/
  | dispatchMarker (j : Fin 4)
  /-- ENGINE_START_CUTOFF (R400): A program start reaches 256 cycles without a HITGET and is cut off to LOOP. -/
  | engineStartCutoff (e : Fin 96)
  /-- ENGINE_CUTOFF (R402): A unit's cycles reach BUDGET, so the engine is cut off to LOOP and the hit word is forwarded with ORIGIN 1. -/
  | engineCutoff (e : Fin 96)
  /-- ADD (R413): d = a + b, with Z, N, C and V set. -/
  | add (e : Fin 96) (d a b : Fin 32)
  /-- SUB (R413): d = a - b, with Z, N, C and V set. -/
  | sub (e : Fin 96) (d a b : Fin 32)
  /-- AND (R413): Bitwise AND of a and b into d. -/
  | and (e : Fin 96) (d a b : Fin 32)
  /-- OR (R413): Bitwise OR of a and b into d. -/
  | or (e : Fin 96) (d a b : Fin 32)
  /-- XOR (R413): Bitwise XOR of a and b into d. -/
  | xor (e : Fin 96) (d a b : Fin 32)
  /-- SHL (R413): Shift a left by b[4:0] into d. -/
  | shl (e : Fin 96) (d a b : Fin 32)
  /-- SHR (R413): Logical shift of a right by b[4:0] into d. -/
  | shr (e : Fin 96) (d a b : Fin 32)
  /-- SAR (R413): Arithmetic shift of a right by b[4:0] into d. -/
  | sar (e : Fin 96) (d a b : Fin 32)
  /-- MIN (R413): Signed minimum of a and b into d. -/
  | min (e : Fin 96) (d a b : Fin 32)
  /-- MAX (R413): Signed maximum of a and b into d. -/
  | max (e : Fin 96) (d a b : Fin 32)
  /-- ADDS (R413): Signed saturating addition, setting Q on saturation. -/
  | adds (e : Fin 96) (d a b : Fin 32)
  /-- SUBS (R413): Signed saturating subtraction, setting Q on saturation. -/
  | subs (e : Fin 96) (d a b : Fin 32)
  /-- SLT (R413): d = 1 when a < b signed, otherwise 0. -/
  | slt (e : Fin 96) (d a b : Fin 32)
  /-- SLTU (R413): d = 1 when a < b unsigned, otherwise 0. -/
  | sltu (e : Fin 96) (d a b : Fin 32)
  /-- MUL (R413): d = low 32 bits of a times b, in 2 cycles. -/
  | mul (e : Fin 96) (d a b : Fin 32)
  /-- ADDH2S (R413): Two signed 16-bit lanes added with saturation. -/
  | addh2s (e : Fin 96) (d a b : Fin 32)
  /-- SUBH2S (R413): Two signed 16-bit lanes subtracted with saturation. -/
  | subh2s (e : Fin 96) (d a b : Fin 32)
  /-- ADDB4U (R413): Four unsigned 8-bit lanes added with saturation at 255. -/
  | addb4u (e : Fin 96) (d a b : Fin 32)
  /-- SUBB4U (R413): Four unsigned 8-bit lanes subtracted with saturation at 0. -/
  | subb4u (e : Fin 96) (d a b : Fin 32)
  /-- MAXH2 (R413): Lane-wise signed maximum of two 16-bit lanes. -/
  | maxh2 (e : Fin 96) (d a b : Fin 32)
  /-- MINH2 (R413): Lane-wise signed minimum of two 16-bit lanes. -/
  | minh2 (e : Fin 96) (d a b : Fin 32)
  /-- SHLI (R413): Shift a left by the b field into d. -/
  | shli (e : Fin 96) (d a b : Fin 32)
  /-- SHRI (R413): Logical shift of a right by the b field into d. -/
  | shri (e : Fin 96) (d a b : Fin 32)
  /-- SARI (R413): Arithmetic shift of a right by the b field into d. -/
  | sari (e : Fin 96) (d a b : Fin 32)
  /-- BFX (R413): Extract a zero-extended bit field of a into d. -/
  | bfx (e : Fin 96) (d a pos len1 : Fin 32)
  /-- BFI (R413): Insert the low bits of a into a bit field of d. -/
  | bfi (e : Fin 96) (d a pos len1 : Fin 32)
  /-- ADDI (R413): d = a + sign-extended immediate, with Z, N, C and V set. -/
  | addi (e : Fin 96) (d a : Fin 32) (imm : BitVec 16)
  /-- ANDI (R413): AND of a with the zero-extended immediate. -/
  | andi (e : Fin 96) (d a : Fin 32) (imm : BitVec 16)
  /-- ORI (R413): OR of a with the zero-extended immediate. -/
  | ori (e : Fin 96) (d a : Fin 32) (imm : BitVec 16)
  /-- XORI (R413): XOR of a with the zero-extended immediate. -/
  | xori (e : Fin 96) (d a : Fin 32) (imm : BitVec 16)
  /-- LUI (R413): d = immediate shifted left by 16. -/
  | lui (e : Fin 96) (d : Fin 32) (imm : BitVec 16)
  /-- SLTUI (R413): d = 1 when a is below the zero-extended immediate, unsigned. -/
  | sltui (e : Fin 96) (d a : Fin 32) (imm : BitVec 16)
  /-- SLTI (R413): d = 1 when a is below the sign-extended immediate, signed. -/
  | slti (e : Fin 96) (d a : Fin 32) (imm : BitVec 16)
  /-- LDW (R413): Load a word from cluster memory at a + immediate. -/
  | ldw (e : Fin 96) (d a : Fin 32) (imm : BitVec 16)
  /-- LDH (R413): Load a sign-extended half-word. -/
  | ldh (e : Fin 96) (d a : Fin 32) (imm : BitVec 16)
  /-- LDHU (R413): Load a zero-extended half-word. -/
  | ldhu (e : Fin 96) (d a : Fin 32) (imm : BitVec 16)
  /-- LDB (R413): Load a zero-extended byte. -/
  | ldb (e : Fin 96) (d a : Fin 32) (imm : BitVec 16)
  /-- LDD (R413): Load a register pair in 3 cycles. -/
  | ldd (e : Fin 96) (d a : Fin 32) (imm : BitVec 16)
  /-- LDHX (R413): Load the signed half-word at a + 2 x HIDX. -/
  | ldhx (e : Fin 96) (d a : Fin 32)
  /-- LDWX (R413): Load the word at a + 4 x HIDX. -/
  | ldwx (e : Fin 96) (d a : Fin 32)
  /-- STW (R413): Store the word d at a + immediate. -/
  | stw (e : Fin 96) (d a : Fin 32) (imm : BitVec 16)
  /-- STH (R413): Store the half-word d at a + immediate. -/
  | sth (e : Fin 96) (d a : Fin 32) (imm : BitVec 16)
  /-- STB (R413): Store the byte d at a + immediate. -/
  | stb (e : Fin 96) (d a : Fin 32) (imm : BitVec 16)
  /-- STD (R413): Store the register pair d. -/
  | std (e : Fin 96) (d a : Fin 32) (imm : BitVec 16)
  /-- AMOADD (R413): Read the word at a into d and add b to that word atomically. -/
  | amoadd (e : Fin 96) (d a b : Fin 32)
  /-- BR (R412): Branch by the displacement when the condition holds. -/
  | br (e : Fin 96) (cond : Fin 16) (disp : BitVec 22)
  /-- CALL (R413): Set g31 = PC + 1 and branch. -/
  | call (e : Fin 96) (disp : BitVec 22)
  /-- RET (R413): Set PC = g31. -/
  | ret (e : Fin 96)
  /-- HITGET (R414): Wait for and take the next unit: a hit word into the pair, or a frame number with a jump to MARK. -/
  | hitget (e : Fin 96) (d : Fin 32)
  /-- HITPUT (R408): Send a 64-bit word to the event builder, subject to the output cap. -/
  | hitput (e : Fin 96) (a b : Fin 32)
  /-- EMIT (R414): Send a word to the event output or feed it to the compressor stream, subject to the output cap. -/
  | emit (e : Fin 96) (d a b : Fin 32)
  /-- MOVS (R415): Read the special value selected by the a field. -/
  | movs (e : Fin 96) (d a : Fin 32)
  /-- MOVK (R413): d = K. -/
  | movk (e : Fin 96) (d : Fin 32)
  /-- TFULL (R416): Form the engine time value of a hit pair. -/
  | tfull (e : Fin 96) (d a : Fin 32)
  /-- TSUB (R416): Signed, saturated difference of two ETV pairs in bins, with K set on zero. -/
  | tsub (e : Fin 96) (d a b : Fin 32)
  /-- WALK (R417): Compute the walk-corrected T0 of a hit using its channel's constant, setting K when corrected. -/
  | walk (e : Fin 96) (d a b : Fin 32)
  /-- NEAR (R418): Test whether a neighbour's latest hit lies within g(b) bins and set d and K. -/
  | near (e : Fin 96) (d a b : Fin 32)
  /-- HFLD (R415): Extract a named field of a hit pair. -/
  | hfld (e : Fin 96) (d a b : Fin 32)
  /-- ACC (R410): Submit an accept from source 4 with the tick given relative to the frame. -/
  | acc (e : Fin 96) (a : Fin 32) (imm : BitVec 16)
  /-- ALRT (R410): Raise a Tail alert from source 4 with the tick given relative to the frame. -/
  | alrt (e : Fin 96) (a : Fin 32) (imm : BitVec 16)
  /-- ENGINE_LOAD (R420): A write of ECL.LOAD_CTL.GO starts copying from SRAM into cluster or instruction memory, or is refused. -/
  | engineLoad (d : Dom) (n : Fin 12) (v : Word)
  /-- ENGINE_LOAD_DONE (R419): The load completes with DONE and LOAD_DONE, or stops on an uncorrectable source error with ERR. -/
  | engineLoadDone (n : Fin 12)
  /-- MEM_DATA_ACCESS (R421): An access to ECL.MEM_DATA reads or writes the word at MEM_ADDR and increments the word address. -/
  | memDataAccess (r : Requester) (n : Fin 12) (w : Option Word)
  /-- EVENT_COMPLETE (R422): Every engine concerned has passed its marker, so the event is complete and is offered for admission in order. -/
  | eventComplete (tag : Fin 512)
  /-- EVENT_FORCED (R426): MTIME reaches an event's end tick plus 8 frames, and the event is completed as it stands with FORCED. -/
  | eventForced (tag : Fin 512)
  /-- EVENT_ADMIT (R435): A complete lane-bound event is admitted to its data group or dropped whole by priority and cause. -/
  | eventAdmit (tag : Fin 512)
  /-- LANE_EVENT_SEND (R437): A data group sends its next admitted event whole, striped over its active lanes. -/
  | laneEventSend (g : Fin 4)
  /-- QUEUE_ENABLE (R440): A write of EN = 1 enables a device-to-host queue and begins a new epoch, or is refused. -/
  | queueEnable (d : Dom) (q : Fin 64) (v : Word)
  /-- QUEUE_DISABLE (R451): A write of EN = 0 flushes the queue and disables it. -/
  | queueDisable (d : Dom) (q : Fin 64) (v : Word)
  /-- QUEUE_FLUSH (R451): A write of CTL.FLUSH takes effect at the point set by the queue's class and begins a new epoch. -/
  | queueFlush (d : Dom) (q : Fin 64) (v : Word)
  /-- QUEUE_PACKET (R446): A producer's packet is placed with its completion notice when credit allows, and is otherwise discarded whole. -/
  | queuePacket (q : Fin 64)
  /-- CONS_BLOCK_READ (R447): The producer reads the consumer block from host memory and updates its credit, or ignores a block that is wrong. -/
  | consBlockRead (q : Fin 64) (ok : Bool) (grant done : Word) (epoch : Byte)
  /-- QUEUE_IRQ_TIMER (R453): MOD.TIMER us pass since the first unannounced notice, so the queue's interrupt source pulses. -/
  | queueIrqTimer (q : Fin 64)
  /-- CMD_DOORBELL (R456): A 4-byte BAR2 write to a command queue's doorbell granule posts command granules, or is ignored with DB_ERR. -/
  | cmdDoorbell (p : Fin 2) (c : Fin 16) (v : Word)
  /-- CMD_WRITE (R458): A WRITE command performs its address and data pairs as BAR0 writes from the queue's domain. -/
  | cmdWrite (c : Fin 16)
  /-- CMD_READ (R459): A READ command reads its addresses and returns the data in a response packet. -/
  | cmdRead (c : Fin 16)
  /-- CMD_FENCE (R459): A FENCE command performs no access and always sends a response. -/
  | cmdFence (c : Fin 16)
  /-- CMD_CREDIT_UPDATE (R460): Within 1 us after executing commands, the module writes the cumulative DONE count to host memory by DMA. -/
  | cmdCreditUpdate (c : Fin 16) (ok : Bool)
  /-- DL_DLM (R482): A DLM delivers the far end's LOCKED bits, which confirm or fail the uplink lanes. -/
  | dlDlm (locked : BitVec 18)
  /-- DL_IDLE (R482): A downlink IDLE block has no effect. -/
  | dlIdle
  /-- DL_SYNC_HI (R482): A SYNC_HI block holds V bits 63:40 for the next block. -/
  | dlSyncHi (hi : BitVec 24)
  /-- DL_SYNC (R483): A SYNC following a SYNC_HI delivers V and is judged against MTIME with D = TIME.SYNC_DLY. -/
  | dlSync (lo : BitVec 40)
  /-- DL_ACCEPT (R482): A downlink ACCEPT reaches the accept router as source 2 with its tick rebuilt. -/
  | dlAccept (id : BitVec 8) (tick : BitVec 40)
  /-- DL_ALERT (R482): A downlink ALERT reaches the Tail ring as alert source bit 2. -/
  | dlAlert (code : BitVec 8) (tick : BitVec 40)
  /-- BITSLIP (R480): A BITSLIP delays the named uplink lane by one bit in compatibility mode, and is ignored with SLIP_IGN in native mode. -/
  | bitslip (lane : Fin 32)
  /-- DL_RETRAIN (R482): A RETRAIN message sends the named uplink lane to TRAIN. -/
  | dlRetrain (lane : Fin 32)
  /-- CMD_WR (R484): A downlink CMD_WR performs a BAR0 write from domain 3. -/
  | cmdWr (addr : BitVec 22) (v : Word)
  /-- CMD_RD (R484): A downlink CMD_RD performs a BAR0 read and sends a TYPE 2 read response on the command class. -/
  | cmdRd (addr : BitVec 22) (tag : BitVec 16)
  /-- BWR (R482): A BWR block sets the SRAM address for the data blocks that follow. -/
  | bwr (addr : BitVec 23)
  /-- BWR_DATA (R485): A BWR data block writes 8 bytes inside the downlink SRAM window, or is discarded and counted. -/
  | bwrData (data : DWord)
  /-- DL_SUPERFRAME_DELIVER (R487): A downlink superframe is delivered once, from the first whole copy or from valid blocks when the second copy ends or 16 superframes pass. -/
  | dlSuperframeDeliver (copy : Option (Fin 2 × BitVec 16 × List (Option (Bool × DWord))))
  /-- DRX_ALIGNED (R486): A locked DRX lane sees two DLMs with consecutive SFC and becomes ALIGNED. -/
  | drxAligned (n : Fin 2) (sfc : BitVec 16)
  /-- DRX_ALIGN_LOSS (R486): A DRX lane loses lock or misses two DLMs and ceases to be ALIGNED, and DL_DOWN is set when none is left. -/
  | drxAlignLoss (n : Fin 2) (lockLost : Bool) (headers : Nat)
  /-- DRX_SCAN (R498): A write of DRXn.SCAN_CTL.GO starts an eye scan with the offset sampler. -/
  | drxScan (d : Dom) (n : Fin 2) (v : Word)
  /-- DRX_SCAN_DONE (R498): The scan ends, SCAN_RES holds the mismatches and GO reads 0. -/
  | drxScanDone (n : Fin 2) (errors : Nat)
  /-- LANE_EN_WRITE (R494): A write of ULNK.LANE_EN starts training on newly enabled lanes and turns disabled lanes OFF, at the change point for data lanes. -/
  | laneEnWrite (d : Dom) (v : Word)
  /-- UTX_SERIALISER_LOCK (R490): A lane's serialiser locks within 1 ms of TRAIN, and the lane enters WAIT. -/
  | utxSerialiserLock (n : Fin 18)
  /-- UTX_TRAIN_TIMEOUT (R490): The serialiser has not locked within 1 ms, so the attempt fails and TX_FAULT is counted. -/
  | utxTrainTimeout (n : Fin 18)
  /-- UTX_WAIT_TIMEOUT (R490): 100 ms pass in WAIT without confirmation, so the attempt fails, or the lane goes BLIND under the blind policy. -/
  | utxWaitTimeout (n : Fin 18)
  /-- UTX_PARK_RETRY (R490): 1 s after entering PARK, the lane trains again with attempt 3. -/
  | utxParkRetry (n : Fin 18)
  /-- UTX_BLIND_TIMEOUT (R490): 100 ms of delivered DLMs without the lane's LOCKED bit sends a BLIND lane to TRAIN as a loss. -/
  | utxBlindTimeout (n : Fin 18)
  /-- UTX_TX_FAULT (R490): A serialiser or driver fault sends the lane to TRAIN. -/
  | utxTxFault (n : Fin 18)
  /-- UTX_CMD_RETRAIN (R490): A write of UTXn.CMD.RETRAIN forces the lane to TRAIN with attempt 0. -/
  | utxCmdRetrain (d : Dom) (n : Fin 18) (v : Word)
  /-- GROUP_RESTRIPE (R473): At the first frame start at least 61,440 ticks after learning, the data group takes its new ACTIVE mask. -/
  | groupRestripe (g : Fin 4)
  /-- COMPAT_WRITE (R463): A change of ULNK.CTL.COMPAT in Umbra or Idle sends every uplink lane that is not OFF to TRAIN, and is refused in other modes. -/
  | compatWrite (d : Dom) (v : Word)
  /-- SCRUB_CHECK (R528): SCRUB.CTL GO with MODE 0 reads and decodes every unit of the range without writing. -/
  | scrubCheck (d : Dom) (v : Word)
  /-- SCRUB_SCRUB (R531): SCRUB.CTL GO with MODE 1 reads every unit and writes back every corrected unit atomically. -/
  | scrubScrub (d : Dom) (v : Word)
  /-- SCRUB_FILL (R528): SCRUB.CTL GO with MODE 2 writes every unit with zero, poison or PATTERN. -/
  | scrubFill (d : Dom) (v : Word)
  /-- SCRUB_DONE (R532): The scrub operation ends, reports its counts and addresses, and sets DONE. -/
  | scrubDone (ticks : Nat)
  /-- BUCKET_LEAK (R519): MTIME reaches a multiple of PERIOD ms and each bucket with COUNT above 0 falls by 1. -/
  | bucketLeak (k : Fin 26)
  /-- SECC_INJECT_ARM (R523): A write of SECC.INJECT.ARM flips the MASK bits of the next byte written into the named memory. -/
  | seccInjectArm (d : Dom) (v : Word)
  /-- DECC_INJECT_ARM (R523): A write of DECC.INJECT.ARM flips data bits of the next DRAM page written. -/
  | deccInjectArm (d : Dom) (v : Word)
  /-- REMAP_WRITE (R524): A write to a DECC remap entry copies the burst to or from its spare and redirects or restores its accesses. -/
  | remapWrite (d : Dom) (r : Fin 32) (v : Word)
  /-- RETIRE_LOAD (R526): A write of RETIRE_CTL.LOAD replaces every RETIRED mark from the sorted list in DRAM, or sets ERR. -/
  | retireLoad (d : Dom) (v : Word)
  /-- RETIRE_ADD (R527): A write to DECC.RETIRE_ADD sets the RETIRED mark of one page at once. -/
  | retireAdd (d : Dom) (v : Word)
  /-- CONVERTER_ENABLE (R536): A write of EN = 1 to CONV_A or CONV_B starts the converter's sequence, or is refused. -/
  | converterEnable (d : Dom) (c : Fin 2) (v : Word)
  /-- CONVERTER_TRIGGER (R542): A compare with ACTION 2 starts one pass of a triggered converter, or is ignored and counted when a pass is running. -/
  | converterTrigger
  /-- CONVERSION_COMPLETE (R540): A converter's filter delivers a result, which is stamped, judged by windows, diagnosis and cross-check, and recorded. -/
  | conversionComplete (c : Fin 2) (x : ConvIn) (overload : Bool)
  /-- EXC_CHANGE (R546): A write to EXC.CTL that changes an output restarts the filters of every channel bound to it. -/
  | excChange (d : Dom) (v : Word)
  /-- EXC_CURRENT_LIMIT (R545): An excitation output enters current limit and sets LIMIT_k. -/
  | excCurrentLimit (k : Fin 8) (entered : Bool)
  /-- BLANK_START (R557): BLANK_N falls with BLANK_EN = 1 and both modulators and filters pause. -/
  | blankStart
  /-- BLANK_END (R558): BLANK_N rises, and conversions resume, or restart when the pause lasted more than 1 ms. -/
  | blankEnd
  /-- DMA_RECORD_WRITE (R560): A sample or status record is written to the DMA ring within 20 us, or discarded and counted. -/
  | dmaRecordWrite (ok : Bool)
  /-- SERVO_CYCLE (R566): A cycle start reaches a RUN loop, which latches measurements, checks oscillation and runs stages U, E and X. -/
  | servoCycle
  /-- SERVO_LOOP_ENABLE (R582): A write of EN = 1 to a loop's CTL starts it in RUN, HOLD or FROZEN, or is refused. -/
  | servoLoopEnable (d : Dom) (l : Fin 16) (v : Word)
  /-- SERVO_LOOP_DISABLE (R582): A write of EN = 0 sets the loop OFF and returns its outputs to MAN. -/
  | servoLoopDisable (d : Dom) (l : Fin 16) (v : Word)
  /-- SERVO_HOLD (R582): A write of CTL.HOLD moves a loop between RUN and HOLD. -/
  | servoHold (d : Dom) (l : Fin 16) (v : Word)
  /-- SERVO_RESUME (R582): A write of CMD.RESUME clears OSC and STALE and returns a FROZEN loop to RUN or HOLD. -/
  | servoResume (d : Dom) (l : Fin 16) (v : Word)
  /-- LIGHT_ENABLE (R603): CTL.EN = 1 in Calibrate with GUARD allowing light starts RAMP towards VSTART. -/
  | lightEnable (d : Dom) (v : Word)
  /-- LIGHT_RAMP_DONE (R603): LBST_S reaches VSTART within 1 ms, the state becomes ON and the class starts its first period. -/
  | lightRampDone
  /-- LIGHT_BOOST_UV (R600): The boost does not reach VSTART within 1 ms in RAMP and a BOOST_UV fault is raised. -/
  | lightBoostUv
  /-- LIGHT_FAULT (R602): A string or boost fault turns every sink and the boost off within 1 us and records the cause. -/
  | lightFault (string : Option (Fin 8)) (mv : Nat)
  /-- LIGHT_CLEAR (R603): A write of CMD.CLEAR with KEY 0x4C43 clears FAULT and returns the controller to OFF. -/
  | lightClear (d : Dom) (v : Word)
  /-- LIGHT_CLASS_CHANGE (R597): A CTL.CLASS write or an ACTION 4 compare changes the light class, ending any pulse and starting a new period. -/
  | lightClassChange (w : Option (Dom × Word))
  /-- HEADROOM_TICK (R592): Every 10 us the controller moves VSET by one step from the neediest string's sink voltage. -/
  | headroomTick (volts : List (Fin 8 × Nat))
  /-- RATIO_CYCLE_END (R599): At the end of each 256-period cycle the photodiode averages update TRIM towards the colour RATIO. -/
  | ratioCycleEnd (pd0 pd1 : BitVec 16)
  /-- STW_KICK (R609): A write to STW.KICK restarts the writing steward's watchdog. -/
  | stwKick (b : Fin 2) (v : Word)
  /-- STW_WDT_EXPIRE (R609): No kick arrives within STW.CFG.WDT us and the steward fails the WDT check. -/
  | stwWdtExpire (b : Fin 2)
  /-- ALU_SIG_WRITE (R609): A steward writes STW.ALU_SIG, and a value other than ALU_KA fails the ALU check. -/
  | aluSigWrite (b : Fin 2) (v : Word)
  /-- ALU_SIG_TIMEOUT (R609): No correct ALU_SIG arrives within STPERIOD plus 1 ms and the steward fails the ALU check. -/
  | aluSigTimeout (b : Fin 2)
  /-- STW_SELF_CHECK_PASS (R608): A STARTING steward passes its self-checks and becomes ACTIVE, STANDBY or waits by PREFER. -/
  | stwSelfCheckPass (b : Fin 2)
  /-- STW_START_TIMEOUT (R608): A STARTING steward has not passed its self-checks within 100 ms and enters FAILED. -/
  | stwStartTimeout (f : StartFail)
  /-- TAKEOVER_COMPLETE (R613): The new active steward has armed its watchdog and rebuilt its state, and TAKEOVER_BUSY clears. -/
  | takeoverComplete (ticks : Nat)
  /-- STW_REJOIN (R608): After 1 ms in island reset, a FAILED steward with rejoins left is released to STARTING. -/
  | stwRejoin (b : Fin 2)
  /-- STW_CMD_REJOIN (R608): A write of STW.CMD.REJOIN releases a FAILED steward to STARTING. -/
  | stwCmdRejoin (d : Dom) (v : Word)
  /-- SWAP (R619): A write of STW.CMD.SWAP with KEY 0x5357 swaps the active and standby roles, or is refused. -/
  | swap (d : Dom) (v : Word)
  /-- SWAP_DOORBELL (R619): A 4-byte BAR2 write of 0x5357_4150 to STW.SWAP_DB from an allowed port requests a swap. -/
  | swapDoorbell (p : Fin 2)
  /-- MIRROR_ITEM (R617): The standby stores an ITEM message of mirrored state, acknowledges it, or discards it and asks for a RESYNC. -/
  | mirrorItem (item : Fin 5) (mfmt : BitVec 16) (seq : Word) (offset : Word) (data : List Byte) (crc : Word)
  /-- MIRROR_ACK (R617): The active steward receives an ACK for an ITEM it sent. -/
  | mirrorAck
  /-- MIRROR_RESYNC (R617): The active steward receives a RESYNC and sends a full copy of every mirrored item followed by an END. -/
  | mirrorResync
  /-- MIRROR_END (R618): The standby receives an END after a clean resync and STANDBY_READY becomes 1. -/
  | mirrorEnd (seq : Word) (crc : Word)
  /-- HEALTH_FRAME (R622): At the start of each health period each running steward composes and sends a health frame. -/
  | healthFrame (b : Fin 2) (seq : Option Word)
  /-- TELEMETRY_FRAME (R622): At the start of each telemetry period each running steward composes and sends a telemetry frame. -/
  | telemetryFrame (b : Fin 2)
  /-- IDM_READ (R628): A write of IDM.CMD.GO reads the identity records of the selected tiles over their 2-wire buses. -/
  | idmRead (d : Dom) (v : Word)
  /-- IDM_READ_DONE (R628): The identity read ends, and each tile's buffer and STAT, including MISMATCH, are set. -/
  | idmReadDone (recs : List (Fin 16 × Fin 5 × List Byte))
  /-- THERMAL_SAMPLE (R632): Every 1 ms the thermal monitor reads its diodes and sets THERM_WARN or starts or ends fatal cause 2. -/
  | thermalSample (hub dram : Int) (tiles : List Int)
  /-- GUARD_FUSE (R635): A write of GUARD.FUSE_CTL with KEY 0x4655 starts burning a group's limits, or is refused. -/
  | guardFuse (d : Dom) (v : Word)
  /-- GUARD_FUSE_DONE (R635): The 10 ms burn ends with FUSED, or with FUSE_ERR when the read-back differs. -/
  | guardFuseDone (ok : Bool)
  /-- TBUS_SLOT_TX (R331): In its own slot of each cycle, a module with TX_EN sends its queued message, or a NULL, on both pairs. -/
  | tbusSlotTx
  /-- TBUS_TX_CMD (R332): A write of TBUS.TX_CMD.GO queues an ACCEPT, ALERT or SYNC message, or is refused or dropped. -/
  | tbusTxCmd (d : Dom) (v : Word)
  /-- TBUS_NULL_RX (R336): A received NULL is checked against the sender's reference SEQ. -/
  | tbusNullRx (src : Fin 16) (ok : BitVec 2) (seq : Fin 256) (f0 f1 : Int)
  /-- TBUS_ACCEPT_RX (R337): A received ACCEPT goes to the accept router as source 1. -/
  | tbusAcceptRx (src : Fin 16) (ok : BitVec 2) (seq : Fin 256) (f0 f1 : Int) (arg : Fin 256) (tick : Nat)
  /-- TBUS_ALERT_RX (R337): A received ALERT goes to the Tail ring as alert source bit 3. -/
  | tbusAlertRx (src : Fin 16) (ok : BitVec 2) (seq : Fin 256) (f0 f1 : Int) (arg : Fin 256) (tick : Nat)
  /-- TBUS_SYNC_RX (R337): A received SYNC is judged against MTIME with D from OFFSETp.P. -/
  | tbusSyncRx (src : Fin 16) (ok : BitVec 2) (f0 f1 : Int) (field : Nat)
  /-- TBUS_MEASURE_RX (R339): The slot-0 module measures B for a received MEASURE and keeps it for a MEASURE_REPLY. -/
  | tbusMeasureRx (src : Fin 16) (ok : BitVec 2) (seq : Fin 256) (f0 f1 : Int)
  /-- TBUS_MEASURE_REPLY_RX (R339): A received MEASURE_REPLY supplies B for the delay-compensation pairs. -/
  | tbusMeasureReplyRx (src : Fin 16) (ok : BitVec 2) (seq : Fin 256) (f0 f1 : Int) (slot : Fin 16) (b : Int × Int)
  /-- TBUS_SENDER_TIMEOUT (R336): 16 cycles pass without a valid message from a sender and the receiver drops its reference SEQ. -/
  | tbusSenderTimeout (src : Fin 16)
  /-- TBUS_CAL_GO (R339): A write of TBUS.CAL_CTL.GO, or the PERIOD repeat, starts the delay-compensation procedure on both pairs. -/
  | tbusCalGo (w : Option (Dom × Word))
  /-- TBUS_CAL_DONE (R339): 256 pairs (A, B) have been collected, so P and DELTA are written and CALIBRATED is set. -/
  | tbusCalDone
  /-- TBUS_CAL_FAIL (R340): The procedure has not completed within 100 ms, so it fails and the previous offsets are kept. -/
  | tbusCalFail
  /-- RAIL_FAULT (R680): A rail stays outside its monitor window for more than 10 us, or a regulator reports a fault, and fatal cause 3 applies. -/
  | railFault
  /-- STARTUP_SEQUENCE (R639): After poisoning or a warm reset the stewards load firmware, apply a configuration, fill memories, read identities and set INIT_DONE. -/
  | startupSequence (x : StartupData)
  /-- UPD_CLAIM (R658): A write of UPD.SESSION CLAIM with KEY 0x5544 opens an update session, or returns BUSY. -/
  | updClaim (d : Dom) (v : Word)
  /-- UPD_CLOSE (R660): A write of UPD.SESSION CLOSE from the owner ends the session. -/
  | updClose (d : Dom) (v : Word)
  /-- UPD_SESSION_TIMEOUT (R660): 60 s without an accepted owner write while no operation runs ends the session. -/
  | updSessionTimeout
  /-- UPD_VERIFY (R661): UPD.OP GO with VERIFY checks the staged image. -/
  | updVerify (d : Dom) (v : Word)
  /-- UPD_WRITE (R662): UPD.OP GO with WRITE verifies, erases, programs and reads back the target region, or is refused. -/
  | updWrite (d : Dom) (v : Word)
  /-- UPD_ERASE (R662): UPD.OP GO with ERASE erases the target region, or is refused. -/
  | updErase (d : Dom) (v : Word)
  /-- UPD_OP_DONE (R661): An update operation ends with its OPRES code and OP_DONE is set. -/
  | updOpDone (flashOk : Bool)
  /-- UPD_ARM (R663): A write of UPD.ARM with GO restarts the standby on BANK into PRELOAD, or is refused. -/
  | updArm (d : Dom) (v : Word)
  /-- UPD_DISARM (R664): A write of UPD.ARM DISARM returns activation to NONE or sends TRIAL to FALLBACK. -/
  | updDisarm (d : Dom) (v : Word)
  /-- UPD_PRELOAD_TIMEOUT (R664): 200 ms pass in PRELOAD without STANDBY_READY, so the standby is restarted on the confirmed bank. -/
  | updPreloadTimeout
  /-- RENDEZVOUS (R665): A compare with ACTION 6 and the armed token swaps the roles onto the new bank and begins TRIAL. -/
  | rendezvous
  /-- UPD_CONFIRM (R667): A write of UPD.CONFIRM with KEY 0x434F in TRIAL writes the boot record with the new bank. -/
  | updConfirm (d : Dom) (v : Word)
  /-- UPD_TRIAL_TIMEOUT (R664): TRIAL_S seconds pass after activation without CONFIRM and activation enters FALLBACK. -/
  | updTrialTimeout
  /-- UPD_FALLBACK_STEP (R666): During FALLBACK the module restarts the standby on the confirmed bank, swaps and restarts the other steward. -/
  | updFallbackStep
  /-- KEY_FUSE (R657): A write of UPD.KEY_FUSE from the session owner burns or revokes a key slot, or is refused. -/
  | keyFuse (d : Dom) (v : Word)
  /-- KEY_FUSE_DONE (R657): The 10 ms key burn ends and its outcome is given in OPRES. -/
  | keyFuseDone (ok : Bool)
  /-- AGE_CAMPAIGN_GO (R708): A write of AGE.CTL.GO starts a campaign of the six steps, or is refused while one runs. -/
  | ageCampaignGo (d : Dom) (v : Word) (m : AgeMeas)
  /-- AGE_CAMPAIGN_SCHEDULED (R708): XTIME reaches AGE.NEXT, a campaign starts and NEXT advances by PERIOD_D days. -/
  | ageCampaignScheduled (m : AgeMeas)
  /-- DRX_BLOCK_LOCK (R486): A DRX lane gains block lock after 64 consecutive valid sync headers. -/
  | drxBlockLock (n : Fin 2)
  /-- THU_TRAILING_EDGE (R727): A THU trailing edge sets the held THU level low, so that the next THU leading edge is accepted. -/
  | thuTrailingEdge (t : Fin 16) (c : Fin 128) (tick : Nat) (raw : Fin 384)
  /-- BASELINE_RESTORER_SAT (R195): The DC input current of a channel crosses 2.0 mA, which sets or clears BLR_SAT and raises TILEn.INT_STAT.BLR_SAT. -/
  | baselineRestorerSat (t : Fin 16) (c : Fin 128) (sat : Bool)
  /-- ISLAND_CLOCK_STOP (R40): The clock of an island stops, so its crossings hold their pending transfers, writes to it are held under R91 and reads complete as stopped-island reads. -/
  | islandClockStop (isl : Fin 28)
  /-- CONFIG_RETRY_TIMEOUT (R642): 1.0 s after PORST_N release, each PCI Express port stops answering configuration requests with Retry Status even though the configuration has not been applied. -/
  | configRetryTimeout
  /-- STW_MEMORY_ERROR (R609): A steward's own 512 KiB memory has an uncorrectable error, or its leaky bucket crosses MEMLIM.LIMIT, so the steward fails the MEM check. -/
  | stwMemoryError (b : Fin 2) (uncorrectable : Bool)
  /-- MIRROR_STALL (R618): A mirrored change waits longer than 100 us for a free place on a full mirror queue, so it is counted in MIR_STALL and STANDBY_READY falls to 0. -/
  | mirrorStall
  /-- TBUS_RX_CRC_FAIL (R336): A received TBUS slot fails its CRC on a pair, or carries a reserved TYPE, so the failure is counted in RX_CRC or the message is discarded. -/
  | tbusRxCrcFail (p : Fin 2) (reservedType : Bool)
  /-- UPLINK_SUPERFRAME (R467): At each superframe boundary of the data lanes, or each compatibility cycle, the module sends the AM and a CC or IDLE block on every data lane. -/
  | uplinkSuperframe
  /-- LIGHT_PERIOD_START (R598): A GLOW or SPRINKLE period starts, so pending GLOW, SPRINKLE and SPR_CUR writes take effect, pulses are timed and the first pulse of period 0 is lengthened. -/
  | lightPeriodStart
  deriving DecidableEq, Repr

end Sys2Proof
end

