-- ==== Sys2Proof/Decode.lean ====
section
/-!
DEFINITION. The reading of a table word. The opcode table gives none of its rows bits: the module takes register accesses,
edges, blocks and timer events, and no encoded instruction stands for one of them.
-/
namespace Sys2Proof

/-- The command that a table word spells: none, since no row of the opcode table gives bits. -/
def decodeTableWord (_nbits _w : Nat) : Option Instr := none

end Sys2Proof
end

