-- ==== Sys2Proof/Config.lean ====
section
/-!
DEFINITION. The free values: constants without a body, so that no proof can see what they are. Each stands where the
manual gives an effect and leaves a value open; the assumption log has a row for each.
-/
namespace Sys2Proof.Config

/-- The number of crystal periods that have ended when the master PLL has run for `u` ticks: the manual ties the crystal
to MTIME by no fixed ratio (R153, R171). -/
opaque xtalPeriods (u : Nat) : Nat

/-- A 64-bit value the manual leaves open, one per draw of the model's counter. -/
opaque freeDWord (n : Nat) : DWord

/-- A byte the manual leaves open, one per draw of the model's counter. -/
opaque freeByte (n : Nat) : Byte

/-- A natural number the manual leaves open, one per draw of the model's counter. -/
opaque freeNat (n : Nat) : Nat

/-- How the per-byte code reads a cell with three or more flipped bits, or a poisoned cell with a flipped bit: the manual
states single and double flips only (R499, R503). The result modulo 3 is clean, corrected or uncorrectable, the rest the
byte and the flipped position. -/
opaque eccDecode (poison : Bool) (data : Byte) (mask : Nat) : Nat

/-- STW.ALU_KA, the expected result of the stewards' self-test: the manual gives it per hub revision without a number. -/
opaque aluKa : Word

end Sys2Proof.Config
end

