-- ==== Sys2Proof/Machine/Regs.lean ====
section
/-!
DEFINITION. The register tables of the manual: one row per register (or per array of like registers) of every page,
with its offset, reset value and the access code of each field (R18), and one named BAR0 address per register.
Each row cites the rule that gives the register its meaning.
-/
namespace Sys2Proof.Machine

/-- A field (bits `top` down to `bot`) whose encodings outside the listed intervals are reserved: such a write keeps
the field's value (R20). -/
structure EncRange where
  top : Nat
  bot : Nat
  ok : List (Nat × Nat)
  deriving DecidableEq, Repr

/-- One row of the register tables: `n1` × `n2` like registers, at strides `s1` and `s2` from page offset `off`;
the masks give the bits with each access code of R18; every other bit is RO, ROV, WO or reserved. -/
structure RegRow where
  off : Nat
  n1 : Nat := 1
  s1 : Nat := 0x1000
  n2 : Nat := 1
  s2 : Nat := 0x1000
  reset : Nat := 0
  rw : Nat := 0
  rwl : Nat := 0
  rws : Nat := 0
  w1c : Nat := 0
  w1s : Nat := 0
  mbz : Nat := 0
  key : Option Nat := none
  enc : List EncRange := []
  deriving DecidableEq, Repr

/-- A register page (R84 to R89): its block type (PAGE_ID.TYPE), its instance, its clock island and PAGE_CAP. -/
structure PageInfo where
  type : Nat
  inst : Nat
  island : Nat
  claimable : Bool
  lockable : Bool
  hasIrq : Bool
  instCount : Nat
  instStride : Nat
  /-- The interrupt causes the block defines (INT_STAT, INT_EN and INT_FORCE share the layout). -/
  intMask : Nat
  /-- The sticky flags the block defines, REFUSED among them. -/
  stickyMask : Nat
  deriving DecidableEq, Repr

/-- Registers of page SYS. -/
def regsSYS : List RegRow := [
  { off := 0x40, reset := 0x20480110 },  -- ID (R717)
  { off := 0x44, reset := 0x1 },  -- SERIAL_LO (R717)
  { off := 0x48 },  -- SERIAL_HI (R717)
  { off := 0x4C },  -- STATUS (R66)
  { off := 0x50, w1c := 0xFFFFFFF },  -- ISLAND_STOPPED (R23)
  { off := 0x54 },  -- ISLAND_LIVE (R719)
  { off := 0x58, mbz := 0xFFFF, key := some 0x5752 },  -- RESET (R96)
  { off := 0x5C },  -- RESET_CAUSE (R95)
  { off := 0x60, rws := 0xFFFFFFFF },  -- WARM_COUNT (R95)
  { off := 0x64, mbz := 0xFFE0, key := some 0x4953 },  -- ISLAND_RESET (R719)
  { off := 0x100, n1 := 28, s1 := 0x4 },  -- CTRL_LOST (R43)
  { off := 0x180, n1 := 28, s1 := 0x4 }  -- ISL_LOST (R43)
  ]

/-- Registers of page CFG. -/
def regsCFG : List RegRow := [
  { off := 0x40 },  -- STATUS (R639)
  { off := 0x44, n1 := 2, s1 := 0x4 },  -- SEQ (R650)
  { off := 0x4C },  -- IMAGE_VER (R650)
  { off := 0x50 },  -- CHECK (R650)
  { off := 0x54 },  -- FMT (R647)
  { off := 0x58 },  -- REC (R649)
  { off := 0x5C, reset := 0xFFFFFFFF },  -- FAIL_OFF (R649)
  { off := 0x60 },  -- T_INIT (R639)
  { off := 0x64 }  -- FLASH_ID (R637)
  ]

/-- Registers of page OWN. -/
def regsOWN : List RegRow := [
  { off := 0x40, mbz := 0xFE000000 },  -- CLAIM (R102)
  { off := 0x44, mbz := 0xFE000000 },  -- RELEASE (R103)
  { off := 0x48, reset := 0x80000000 },  -- RESULT (R105)
  { off := 0x4C, reset := 0x1E3, rwl := 0x1FF },  -- POLICY (R99)
  { off := 0x50, mbz := 0xFFFC, key := some 0x5256 },  -- REVOKE (R109)
  { off := 0x54 },  -- REVOKE_COUNT (R109)
  { off := 0x58 },  -- STW_OVERRIDE (R110)
  { off := 0x5C },  -- DENY_COUNT (R107)
  { off := 0x60 },  -- DENY_HEAD (R116)
  { off := 0x100, n1 := 16, s1 := 0x10, n2 := 4, s2 := 0x4 }  -- DENY_LOG (R107)
  ]

/-- Registers of page IRQ. -/
def regsIRQ : List RegRow := [
  { off := 0x40, n1 := 8, s1 := 0x4 },  -- SRC_STAT (R93)
  { off := 0x100, n1 := 2, s1 := 0x200, n2 := 64, s2 := 0x4, rw := 0xBFBFBFBF },  -- ROUTE (R112)
  { off := 0x200, n1 := 2, s1 := 0x200, mbz := 0xFFFFFFC0 },  -- EOI (R114)
  { off := 0x204, n1 := 2, s1 := 0x200 },  -- INSVC_LO (R113)
  { off := 0x208, n1 := 2, s1 := 0x200 },  -- INSVC_HI (R113)
  { off := 0x20C, n1 := 2, s1 := 0x200 }  -- MSGCOUNT (R113)
  ]

/-- Registers of page MODE. -/
def regsMODE : List RegRow := [
  { off := 0x40 },  -- CURRENT (R117)
  { off := 0x44 },  -- SINCE_LO (R127)
  { off := 0x48 },  -- SINCE_HI (R127)
  { off := 0x4C, mbz := 0xFFFFFFE0 },  -- REQ (R726)
  { off := 0x50, rw := 0xFFFFFFFF },  -- AT_FRAME_LO (R128)
  { off := 0x54, rw := 0xFFFF },  -- AT_FRAME_HI (R128)
  { off := 0x58, reset := 0x80000000 },  -- RESULT (R726)
  { off := 0x5C },  -- PEND (R127)
  { off := 0x60 },  -- PEND_FRAME_LO (R129)
  { off := 0x64 },  -- PEND_FRAME_HI (R129)
  { off := 0x68, mbz := 0xFFFF, key := some 0x434E },  -- CANCEL (R133)
  { off := 0x6C, rw := 0x1 },  -- CTL (R119)
  { off := 0x70 },  -- CAUSE (R140)
  { off := 0x74 },  -- CHANGES (R142)
  { off := 0x78, rws := 0xFFFFFFFF }  -- FATAL_COUNT (R142)
  ]

/-- Registers of page CLK. -/
def regsCLK : List RegRow := [
  { off := 0x40 },  -- STATUS (R150)
  { off := 0x44 },  -- REF_OFFSET (R151)
  { off := 0x48 },  -- SPREAD (R152)
  { off := 0x4C, rws := 0xFFFFFF },  -- XADJ (R154)
  { off := 0x50 },  -- XRATIO_LO (R171)
  { off := 0x54, reset := 0x28 },  -- XRATIO_HI (R171)
  { off := 0x58, rw := 0x1 },  -- CTL (R173)
  { off := 0x5C },  -- LOSS_COUNT (R172)
  { off := 0x60 }  -- HOLD_LEN (R174)
  ]

/-- Registers of page TIME. -/
def regsTIME : List RegRow := [
  { off := 0x40, n1 := 24, s1 := 0x40, rw := 0xFFFFFFFF },  -- CMP_LO (R178)
  { off := 0x44, n1 := 24, s1 := 0x40, rw := 0xFFFFFFFF },  -- CMP_HI (R178)
  { off := 0x48, n1 := 24, s1 := 0x40, rw := 0xFFFFFFFF, enc := [⟨31, 0, [(0, 0), (64, 4294967295)]⟩] },  -- CMP_PERIOD (R181)
  { off := 0x4C, n1 := 24, s1 := 0x40, rw := 0xFFFF01F1, enc := [⟨7, 4, [(0, 6)]⟩] },  -- CMP_CTL (R179)
  { off := 0x50, n1 := 24, s1 := 0x40, w1c := 0x6 },  -- CMP_STAT (R180)
  { off := 0x54, n1 := 24, s1 := 0x40, rw := 0x37F, enc := [⟨9, 8, [(0, 2)]⟩, ⟨6, 1, [(0, 10), (16, 40)]⟩] },  -- CAP_CTL (R186)
  { off := 0x58, n1 := 24, s1 := 0x40 },  -- CAP_STAT (R187)
  { off := 0x5C, n1 := 24, s1 := 0x40 },  -- CAP_LO (R187)
  { off := 0x60, n1 := 24, s1 := 0x40 },  -- CAP_HI (R188)
  { off := 0x64, n1 := 24, s1 := 0x40 },  -- CAP_LOST (R187)
  { off := 0x800, mbz := 0xFFFFFFFE },  -- SNAP (R190)
  { off := 0x804 },  -- STATUS (R725)
  { off := 0x808, rw := 0x33 },  -- SYNC_CTL (R160)
  { off := 0x80C, rw := 0xFFFF },  -- SYNC_DLY (R158)
  { off := 0x810 },  -- SYNC_COUNT (R160)
  { off := 0x814 },  -- SYNC_REFUSED (R161)
  { off := 0x818 },  -- SYNC_DIFF_LO (R160)
  { off := 0x81C },  -- SYNC_DIFF_HI (R160)
  { off := 0x820, rws := 0xFFFFFFFF },  -- WINC_LO (R167)
  { off := 0x824, reset := 0x2, rws := 0xFFFFFFFF },  -- WINC_HI (R167)
  { off := 0x828, rw := 0xFFFFFFFF },  -- WLOAD_LO (R168)
  { off := 0x82C, rw := 0xFFFFFFFF },  -- WLOAD_HI (R168)
  { off := 0x830, rw := 0xFFFFFFFF },  -- WLOAD_AT_LO (R168)
  { off := 0x834, rw := 0xFFFFFFFF },  -- WLOAD_AT_HI (R168)
  { off := 0x838, w1s := 0x1 },  -- WCTL (R169)
  { off := 0x83C, reset := 0x40, rw := 0x1FFFF, enc := [⟨15, 0, [(4, 65535)]⟩] },  -- OUT_CTL (R179)
  { off := 0x900, n1 := 4, s1 := 0x20 },  -- SNAP_M_LO (R190)
  { off := 0x904, n1 := 4, s1 := 0x20 },  -- SNAP_M_HI (R190)
  { off := 0x908, n1 := 4, s1 := 0x20 },  -- SNAP_W_LO (R190)
  { off := 0x90C, n1 := 4, s1 := 0x20 },  -- SNAP_W_HI (R190)
  { off := 0x910, n1 := 4, s1 := 0x20 },  -- SNAP_X_LO (R190)
  { off := 0x914, n1 := 4, s1 := 0x20 },  -- SNAP_X_HI (R190)
  { off := 0x918, n1 := 4, s1 := 0x20 },  -- SNAP_BIN (R191)
  { off := 0x91C, n1 := 4, s1 := 0x20 }  -- SNAP_SEQ (R190)
  ]

/-- Registers of page TIU. -/
def regsTIU : List RegRow := [
  { off := 0x40, n1 := 4, s1 := 0x40, rw := 0x1FF3, enc := [⟨11, 10, [(0, 2)]⟩, ⟨7, 6, [(0, 2)]⟩] },  -- CTL (R271)
  { off := 0x44, n1 := 4, s1 := 0x40 },  -- STAT (R268)
  { off := 0x48, n1 := 4, s1 := 0x40 },  -- RES_FLAGS (R268)
  { off := 0x4C, n1 := 4, s1 := 0x40 },  -- RES_LO (R268)
  { off := 0x50, n1 := 4, s1 := 0x40 },  -- RES_HI (R268)
  { off := 0x54, n1 := 4, s1 := 0x40 },  -- TFIRST_LO (R268)
  { off := 0x58, n1 := 4, s1 := 0x40 },  -- TFIRST_HI (R268)
  { off := 0x5C, n1 := 4, s1 := 0x40 },  -- LOST (R268)
  { off := 0x800, rw := 0xF },  -- AUX_CTL (R259)
  { off := 0x804 },  -- AUX_PILE (R259)
  { off := 0x808 }  -- AUX_NEAR (R260)
  ]

/-- Registers of page AGE. -/
def regsAGE : List RegRow := [
  { off := 0x40, reset := 0x2, rw := 0x107, w1s := 0x80000000 },  -- CTL (R704)
  { off := 0x44, reset := 0x1E, rw := 0xFFFF },  -- PERIOD_D (R708)
  { off := 0x48, reset := 0xFFFFFFFF, rw := 0xFFFFFFFF },  -- NEXT_LO (R708)
  { off := 0x4C, reset := 0xFFFFFFFF, rw := 0xFFFFFFFF },  -- NEXT_HI (R708)
  { off := 0x50, reset := 0xA085028, rw := 0xFFFFFFFF, enc := [⟨31, 24, [(1, 20)]⟩, ⟨23, 16, [(1, 16)]⟩] },  -- RCFG (R711)
  { off := 0x54, reset := 0x80014, rw := 0xFF003F, enc := [⟨23, 16, [(1, 255)]⟩, ⟨5, 0, [(1, 63)]⟩] },  -- LCFG (R712)
  { off := 0x58 },  -- STAT (R708)
  { off := 0x5C },  -- CORE (R705)
  { off := 0x60 },  -- EOM (R713)
  { off := 0x64 },  -- LAST_LO (R713)
  { off := 0x68 },  -- LAST_HI (R713)
  { off := 0x6C },  -- DURATION (R713)
  { off := 0x70 },  -- COUNTS (R711)
  { off := 0x74 },  -- SEU_HUB (R714)
  { off := 0x78 },  -- DEFER (R709)
  { off := 0x100, n1 := 24, s1 := 0x8 },  -- COUNT (R705)
  { off := 0x104, n1 := 24, s1 := 0x8 },  -- OMARGIN (R705)
  { off := 0x200, n1 := 24, s1 := 0x4 },  -- CCRIT (R705)
  { off := 0x300, n1 := 16, s1 := 0x10 },  -- DLY (R706)
  { off := 0x304, n1 := 16, s1 := 0x10, rw := 0xFFFF },  -- DREF (R706)
  { off := 0x308, n1 := 16, s1 := 0x10 },  -- TEYE (R707)
  { off := 0x30C, n1 := 16, s1 := 0x10 },  -- PRESET (R707)
  { off := 0x400, n1 := 2, s1 := 0x4 }  -- DEYE (R707)
  ]

/-- Registers of page UPD. -/
def regsUPD : List RegRow := [
  { off := 0x40, mbz := 0xFFFC, key := some 0x5544 },  -- SESSION (R658)
  { off := 0x44, reset := 0x80000000 },  -- SRES (R658)
  { off := 0x48 },  -- SSTAT (R660)
  { off := 0x4C, rw := 0x3FFFFFF },  -- SRC (R661)
  { off := 0x50, rw := 0x1FFFFF },  -- LEN (R661)
  { off := 0x54, rw := 0x3000F, w1s := 0x80000000, enc := [⟨3, 0, [(1, 3)]⟩] },  -- OP (R661)
  { off := 0x58 },  -- OPRES (R661)
  { off := 0x5C, mbz := 0x3FFE0000 },  -- ARM (R663)
  { off := 0x60 },  -- ACT (R664)
  { off := 0x64, mbz := 0xFFFE, key := some 0x434F },  -- CONFIRM (R667)
  { off := 0x68, reset := 0x258, rw := 0xFFFF, enc := [⟨15, 0, [(60, 65535)]⟩] },  -- TRIAL_S (R664)
  { off := 0x6C },  -- BANKS (R638)
  { off := 0x70, n1 := 2, s1 := 0x4 },  -- FWVER (R638)
  { off := 0x78 },  -- RDV_LO (R665)
  { off := 0x7C },  -- RDV_HI (R665)
  { off := 0x80, rws := 0xFFFFFFFF },  -- COUNTS (R664)
  { off := 0x84, rws := 0xF },  -- LAST (R664)
  { off := 0x88 },  -- KEYS (R657)
  { off := 0x8C, mbz := 0xFEFC, key := some 0x4B46 }  -- KEY_FUSE (R657)
  ]

/-- Registers of page STW. -/
def regsSTW : List RegRow := [
  { off := 0x40 },  -- ROLE (R608)
  { off := 0x44, reset := 0x30064, rwl := 0x30FFFFF, enc := [⟨15, 0, [(10, 65535)]⟩] },  -- CFG (R609)
  { off := 0x48, reset := 0x1003E8, rwl := 0xFFFFFFFF },  -- MEMLIM (R609)
  { off := 0x4C, reset := 0x64, rwl := 0xFFFF, enc := [⟨15, 0, [(10, 65535)]⟩] },  -- STPERIOD (R609)
  { off := 0x50, rws := 0x1 },  -- BOOT (R612)
  { off := 0x54, mbz := 0xFFFC, key := some 0x5357 },  -- CMD (R619)
  { off := 0x58, rwl := 0x83FFFFFF },  -- SWAP_DB (R619)
  { off := 0x5C, reset := 0x1100020, rw := 0x7FFFFFF, enc := [⟨15, 0, [(1, 65535)]⟩] },  -- HCFG (R622)
  { off := 0x60, rw := 0x3F3F },  -- HQ (R622)
  { off := 0x64 },  -- DIAG_A (R609)
  { off := 0x68 },  -- DIAG_B (R609)
  { off := 0x6C },  -- KICK (R609)
  { off := 0x70 },  -- ALU_SIG (R609)
  { off := 0x74 },  -- ALU_KA (R609)
  { off := 0x78 },  -- TAKEOVERS (R611)
  { off := 0x7C },  -- SWAPS (R619)
  { off := 0x80 },  -- SWAP_REFUSED (R619)
  { off := 0x84 },  -- REJOINS (R608)
  { off := 0x88 },  -- TAKE_LO (R613)
  { off := 0x8C },  -- TAKE_HI (R613)
  { off := 0x90 },  -- TAKE_US (R613)
  { off := 0x94 },  -- XLOST (R43)
  { off := 0x98 },  -- MIR_CNT (R618)
  { off := 0x9C },  -- MIR_SENT (R617)
  { off := 0x400, n1 := 256, s1 := 0x4, rw := 0x8FFF0FFF }  -- TEL_LIST (R626)
  ]

/-- Registers of page IDM. -/
def regsIDM : List RegRow := [
  { off := 0x40, n1 := 16, s1 := 0x4 },  -- STAT (R628)
  { off := 0x80, reset := 0xFFFF, rw := 0xFFFF, w1s := 0x80000000 },  -- CMD (R628)
  { off := 0x400, n1 := 16, s1 := 0x40, n2 := 16, s2 := 0x4 },  -- RECORD (R628)
  { off := 0x800, n1 := 16, s1 := 0x8, rw := 0xFFFFFFFF },  -- EXPECT_LO (R630)
  { off := 0x804, n1 := 16, s1 := 0x8, rw := 0xFFFFFFFF }  -- EXPECT_HI (R630)
  ]

/-- Registers of page GUARD. -/
def regsGUARD : List RegRow := [
  { off := 0x40 },  -- STATUS (R632)
  { off := 0x44, reset := 0xA6973, rwl := 0xFFFFF, enc := [⟨19, 16, [(1, 15)]⟩] },  -- THERM (R632)
  { off := 0x48, reset := 0x80000100, rwl := 0x800001FF, enc := [⟨8, 0, [(0, 256)]⟩] },  -- TBUS (R633)
  { off := 0x4C, reset := 0x3FFFF, rwl := 0x3FFFF },  -- LANES (R631)
  { off := 0x50, reset := 0x800003E8, rwl := 0x800003FF },  -- LIGHT (R631)
  { off := 0x54, n1 := 2, s1 := 0x4, reset := 0xFAFAFAFA, rwl := 0xFFFFFFFF },  -- IMAX (R631)
  { off := 0x5C, reset := 0x38402D0, rwl := 0xFFFFFFFF },  -- RAIL (R631)
  { off := 0x60 },  -- TEMP_MAX (R632)
  { off := 0x64 },  -- THERM_TRIPS (R632)
  { off := 0x100, n1 := 16, s1 := 0x4, reset := 0xFFFF0000, rwl := 0xFFFFFFFF },  -- BIAS (R631)
  { off := 0x244, reset := 0xA6973 },  -- F_THERM (R634)
  { off := 0x248, reset := 0x80000100 },  -- F_TBUS (R634)
  { off := 0x24C, reset := 0x3FFFF },  -- F_LANES (R634)
  { off := 0x250, reset := 0x800003E8 },  -- F_LIGHT (R634)
  { off := 0x254, n1 := 2, s1 := 0x4, reset := 0xFAFAFAFA },  -- F_IMAX (R634)
  { off := 0x25C, reset := 0x38402D0 },  -- F_RAIL (R634)
  { off := 0x300, n1 := 16, s1 := 0x4, reset := 0xFFFF0000 },  -- F_BIAS (R634)
  { off := 0x600, mbz := 0xFFF8, key := some 0x4655 }  -- FUSE_CTL (R635)
  ]

/-- Registers of page TILE. -/
def regsTILE : List RegRow := [
  { off := 0x40, rw := 0x107, enc := [⟨2, 1, [(0, 2)]⟩] },  -- CTL (R198)
  { off := 0x44, reset := 0x3FF03FF, rw := 0x3FF03FF },  -- THR (R199)
  { off := 0x48 },  -- STATUS (R221)
  { off := 0x4C, rw := 0xFFFFFF01 },  -- INJ_CTL (R218)
  { off := 0x50, reset := 0x1F40, rw := 0xFFFFFFFF, enc := [⟨31, 0, [(8000, 4294967295)]⟩] },  -- INJ_PERIOD (R219)
  { off := 0x54, rw := 0xFFFFFFFF },  -- INJ_COUNT (R218)
  { off := 0x58 },  -- INJ_SENT (R218)
  { off := 0x5C },  -- SEU_COUNT (R226)
  { off := 0x60, n1 := 4, s1 := 0x4 },  -- QUENCHED (R213)
  { off := 0x70, rw := 0x5, w1s := 0x2 },  -- CAL_CTL (R241)
  { off := 0x74, w1c := 0x18 },  -- CAL_STAT (R244)
  { off := 0x78 },  -- CAL_FRAME_LO (R244)
  { off := 0x7C }  -- CAL_FRAME_HI (R244)
  ]

/-- Registers of page TLNK. -/
def regsTLNK : List RegRow := [
  { off := 0x40, n1 := 16, s1 := 0x40 },  -- LSTAT (R289)
  { off := 0x44, n1 := 16, s1 := 0x40, rw := 0xF },  -- CTL (R294)
  { off := 0x48, n1 := 16, s1 := 0x40 },  -- SYNC_ERR (R277)
  { off := 0x4C, n1 := 16, s1 := 0x40 },  -- LOCK_LOSS (R277)
  { off := 0x50, n1 := 16, s1 := 0x40 },  -- LOSS_FRAMES (R285)
  { off := 0x54, n1 := 16, s1 := 0x40 },  -- MISS_FRAMES (R287)
  { off := 0x58, n1 := 16, s1 := 0x40 },  -- MISS_WORDS (R287)
  { off := 0x5C, n1 := 16, s1 := 0x40 },  -- LATE_WORDS (R285)
  { off := 0x60, n1 := 16, s1 := 0x40 },  -- CBUS (R297)
  { off := 0x64, n1 := 16, s1 := 0x40 },  -- TSTORE (R280)
  { off := 0x800 },  -- ARB (R284)
  { off := 0x804 },  -- WAIT_MAX (R285)
  { off := 0x808 }  -- XLOST (R43)
  ]

/-- Registers of page TRIG. -/
def regsTRIG : List RegRow := [
  { off := 0x40, n1 := 16, s1 := 0x10, reset := 0x400C8, rw := 0xFF03FF, enc := [⟨23, 16, [(1, 255)]⟩, ⟨9, 0, [(2, 1023)]⟩] },  -- TCOND_A (R299)
  { off := 0x44, n1 := 16, s1 := 0x10, reset := 0x3FF0000, rw := 0x3FF03FF, enc := [⟨25, 16, [(1, 1023)]⟩] },  -- TCOND_B (R299)
  { off := 0x48, n1 := 16, s1 := 0x10, reset := 0x4, rw := 0x3FF },  -- TCOND_C (R299)
  { off := 0x200, rw := 0x11F },  -- ACC_CTL (R321)
  { off := 0x204, rw := 0xFFFFFFFF },  -- ACC_AT_LO (R326)
  { off := 0x208, rw := 0xFFFFFFFF },  -- ACC_AT_HI (R326)
  { off := 0x20C, mbz := 0x7FFFFF00 },  -- ACC_GO (R326)
  { off := 0x210, n1 := 5, s1 := 0x4 },  -- ACC_COUNT (R324)
  { off := 0x224 },  -- ACC_DROP (R322)
  { off := 0x228 },  -- ACC_FUTURE (R324)
  { off := 0x22C },  -- ACC_UNUSED (R322)
  { off := 0x230 },  -- FP_ERR (R305)
  { off := 0x234 },  -- XLOST (R43)
  { off := 0x400, n1 := 4, s1 := 0x100, n2 := 64, s2 := 0x4, rw := 0xFFFFFFFF }  -- CEN (R303)
  ]

/-- Registers of page COINC. -/
def regsCOINC : List RegRow := [
  { off := 0x40, n1 := 8, s1 := 0x20, reset := 0x20000000, rw := 0xE0000F3F },  -- RCTL (R307)
  { off := 0x44, n1 := 8, s1 := 0x20, rw := 0xFFFF },  -- RTILES (R307)
  { off := 0x48, n1 := 8, s1 := 0x20, reset := 0x10001, rw := 0x1F0FFF, enc := [⟨20, 16, [(1, 16)]⟩, ⟨11, 0, [(1, 2048)]⟩] },  -- RTHR (R308)
  { off := 0x4C, n1 := 8, s1 := 0x20, reset := 0x40, rw := 0xFFFF, enc := [⟨15, 0, [(64, 65535)]⟩] },  -- RHOLD (R308)
  { off := 0x50, n1 := 8, s1 := 0x20 },  -- RFIRES (R308)
  { off := 0x54, n1 := 8, s1 := 0x20 }  -- RHELD (R310)
  ]

/-- Registers of page TPATH. -/
def regsTPATH : List RegRow := [
  { off := 0x40, reset := 0x1, rw := 0x1 },  -- CTL (R316)
  { off := 0x44 },  -- SEQ (R317)
  { off := 0x48 },  -- SENT (R316)
  { off := 0x4C },  -- DROP (R317)
  { off := 0x50 },  -- QPEAK (R317)
  { off := 0x54 },  -- LAST_LO (R316)
  { off := 0x58 }  -- LAST_HI (R316)
  ]

/-- Registers of page TBUS. -/
def regsTBUS : List RegRow := [
  { off := 0x40, reset := 0xC, rw := 0xF },  -- CTL (R331)
  { off := 0x44 },  -- STATUS (R328)
  { off := 0x48, rw := 0xFFFF0000, w1s := 0x1 },  -- CAL_CTL (R339)
  { off := 0x4C, n1 := 2, s1 := 0x4 },  -- OFFSET (R339)
  { off := 0x54, rw := 0xFFFFFFFF },  -- TX_TICK_LO (R332)
  { off := 0x58, rw := 0xFFFFFFFF },  -- TX_TICK_HI (R332)
  { off := 0x5C, mbz := 0x7FF0FF00 },  -- TX_CMD (R332)
  { off := 0x60 },  -- TX_SENT (R331)
  { off := 0x64 },  -- TX_DROP (R332)
  { off := 0x68 },  -- GUARD_DROP (R633)
  { off := 0x6C },  -- RX_OK (R336)
  { off := 0x70 },  -- RX_CRC (R336)
  { off := 0x74 },  -- RX_GAP (R336)
  { off := 0x78 },  -- RX_LAST_LO (R336)
  { off := 0x7C }  -- RX_LAST_HI (R336)
  ]

/-- Registers of page LRING. -/
def regsLRING : List RegRow := [
  { off := 0x40, n1 := 5, s1 := 0x4, reset := 0x1000100, rw := 0xFFFFFFFF, enc := [⟨31, 16, [(0, 16384)]⟩, ⟨15, 0, [(0, 16384)]⟩] },  -- WIN (R345)
  { off := 0x54, rwl := 0x3FF, enc := [⟨9, 0, [(0, 688)]⟩] },  -- BASE (R343)
  { off := 0x58 },  -- STATUS (R346)
  { off := 0x5C },  -- SERVED (R348)
  { off := 0x60 },  -- LATE_COUNT (R346)
  { off := 0x64 },  -- DROP_COUNT (R347)
  { off := 0x68 },  -- OVERLAP (R349)
  { off := 0x6C },  -- XLOST (R43)
  { off := 0x70 }  -- FULL_WORDS (R344)
  ]

/-- Registers of page HAMP. -/
def regsHAMP : List RegRow := [
  { off := 0x40, rw := 0x3 },  -- CTL (R357)
  { off := 0x44, reset := 0xFA00FA0, rw := 0xFFFFFFFF, enc := [⟨31, 16, [(0, 16384)]⟩, ⟨15, 0, [(0, 16384)]⟩] },  -- WIN (R352)
  { off := 0x48, rw := 0x3FF },  -- BASE (R357)
  { off := 0x4C, rw := 0x3FF },  -- SIZE (R357)
  { off := 0x50 },  -- STATUS (R359)
  { off := 0x54 },  -- SEQ (R355)
  { off := 0x58 },  -- HELD (R357)
  { off := 0x5C },  -- FREE (R357)
  { off := 0x60 },  -- READ (R357)
  { off := 0x64, mbz := 0xFFFE0000 },  -- RELEASE (R357)
  { off := 0x68 },  -- MISSED (R352)
  { off := 0x6C },  -- INSIDE (R352)
  { off := 0x70 },  -- DEAD_WORDS (R354)
  { off := 0x74 },  -- LOG_HEAD (R362)
  { off := 0x400, n1 := 256, s1 := 0xC, n2 := 3, s2 := 0x4 }  -- LOG (R362)
  ]

/-- Registers of page TAIL. -/
def regsTAIL : List RegRow := [
  { off := 0x40, rw := 0x1FFF },  -- REGION_FIRST (R363)
  { off := 0x44, reset := 0x1FFF, rw := 0x1FFF },  -- REGION_LAST (R363)
  { off := 0x48 },  -- STATUS (R372)
  { off := 0x4C, rw := 0x1F },  -- ALERT_CTL (R369)
  { off := 0x50, rw := 0xFFFFFFFF },  -- LOOKBACK (R370)
  { off := 0x54, rw := 0xFFFFFFFF },  -- LOOKAHEAD (R370)
  { off := 0x58, rw := 0xFFFFFFFF },  -- FREEZE_AT_LO (R369)
  { off := 0x5C, rw := 0xFFFFFFFF },  -- FREEZE_AT_HI (R369)
  { off := 0x60, mbz := 0x7FFFFF00 },  -- FREEZE_GO (R369)
  { off := 0x100, n1 := 4, s1 := 0x20 },  -- FSTAT (R370)
  { off := 0x104, n1 := 4, s1 := 0x20 },  -- FALERT_LO (R370)
  { off := 0x108, n1 := 4, s1 := 0x20 },  -- FALERT_HI (R370)
  { off := 0x10C, n1 := 4, s1 := 0x20 },  -- FFIRST_LO (R371)
  { off := 0x110, n1 := 4, s1 := 0x20 },  -- FFIRST_HI (R371)
  { off := 0x114, n1 := 4, s1 := 0x20 },  -- FLAST_LO (R371)
  { off := 0x118, n1 := 4, s1 := 0x20 },  -- FLAST_HI (R371)
  { off := 0x11C, n1 := 4, s1 := 0x20, mbz := 0xFFFFFFFE },  -- FRELEASE (R373)
  { off := 0x200, rw := 0xFFFFFFFF },  -- X_START_LO (R374)
  { off := 0x204, rw := 0xFFFFFFFF },  -- X_START_HI (R374)
  { off := 0x208, rw := 0xFFFFFFFF },  -- X_END_LO (R374)
  { off := 0x20C, rw := 0xFFFFFFFF },  -- X_END_HI (R374)
  { off := 0x210, rw := 0xFFFF },  -- X_TILES (R374)
  { off := 0x214, mbz := 0x7FC08000 },  -- X_CTL (R374)
  { off := 0x218 },  -- X_STAT (R374)
  { off := 0x21C },  -- X_WORDS (R378)
  { off := 0x220 },  -- X_GAP (R377)
  { off := 0x224 },  -- X_DONE (R378)
  { off := 0x300 },  -- PAGES (R363)
  { off := 0x304 },  -- WRITTEN (R368)
  { off := 0x308 },  -- PINNED (R371)
  { off := 0x30C },  -- LOST_WORDS (R372)
  { off := 0x310 },  -- RUN (R366)
  { off := 0x320, rw := 0xFFFFFFFF },  -- META_SEL (R368)
  { off := 0x324, n1 := 8, s1 := 0x4 }  -- META (R368)
  ]

/-- Registers of page RLE. -/
def regsRLE : List RegRow := [
  { off := 0x40, reset := 0x2, rw := 0x3 },  -- CTL (R381)
  { off := 0x44 },  -- BLOCKS (R381)
  { off := 0x48 },  -- RAW (R382)
  { off := 0x4C },  -- IN_KIB (R384)
  { off := 0x50 }  -- OUT_KIB (R384)
  ]

/-- Registers of page ENG. -/
def regsENG : List RegRow := [
  { off := 0x40, rw := 0xFFF0FFF },  -- PROG2_ENTRY (R399)
  { off := 0x44, reset := 0x10, rw := 0xFFF007F, enc := [⟨6, 0, [(1, 16)]⟩] },  -- PROG2_BUDGET (R399)
  { off := 0x48, rw := 0xFFF0FFF },  -- PROG3_ENTRY (R399)
  { off := 0x4C, reset := 0x10, rw := 0xFFF007F, enc := [⟨6, 0, [(1, 16)]⟩] },  -- PROG3_BUDGET (R399)
  { off := 0x50, rw := 0xFFF0FFF },  -- PROG4_ENTRY (R399)
  { off := 0x54, reset := 0x10, rw := 0xFFF007F, enc := [⟨6, 0, [(1, 16)]⟩] },  -- PROG4_BUDGET (R399)
  { off := 0x58, rw := 0xFFF0FFF },  -- PROG5_ENTRY (R399)
  { off := 0x5C, reset := 0x40, rw := 0xFFF007F, enc := [⟨6, 0, [(1, 64)]⟩] },  -- PROG5_BUDGET (R399)
  { off := 0x60, rw := 0x800003FF, enc := [⟨9, 0, [(0, 767)]⟩] },  -- NBR_CTL (R391)
  { off := 0x64, n1 := 4, s1 := 0x4 }  -- BYPASS (R386)
  ]

/-- Registers of page ECL. -/
def regsECL : List RegRow := [
  { off := 0x40, n1 := 8, s1 := 0x20 },  -- ESTAT (R403)
  { off := 0x44, n1 := 8, s1 := 0x20 },  -- HITS (R401)
  { off := 0x48, n1 := 8, s1 := 0x20 },  -- OVERRUNS (R402)
  { off := 0x4C, n1 := 8, s1 := 0x20 },  -- EXCEPTIONS (R403)
  { off := 0x50, n1 := 8, s1 := 0x20 },  -- CAPDROPS (R408)
  { off := 0x54, n1 := 8, s1 := 0x20 },  -- CYCMAX (R401)
  { off := 0x58, n1 := 8, s1 := 0x20, rw := 0x7FFF },  -- CTL (R414)
  { off := 0x5C, n1 := 8, s1 := 0x20 },  -- EXC_PC (R403)
  { off := 0x800, rw := 0xFFFFFFFF },  -- LOAD_SRC (R420)
  { off := 0x804, rw := 0x8783FFFF },  -- LOAD_DST (R420)
  { off := 0x808, rw := 0x7FFFF },  -- LOAD_LEN (R420)
  { off := 0x80C, w1c := 0x2, w1s := 0x80000000 },  -- LOAD_CTL (R420)
  { off := 0x810, rw := 0x8703FFFC },  -- MEM_ADDR (R421)
  { off := 0x814, rw := 0xFFFFFFFF },  -- MEM_DATA (R421)
  { off := 0x820, n1 := 8, s1 := 0x4, rw := 0xFFFFFFFF },  -- PARAM (R415)
  { off := 0x840 }  -- XLOST (R43)
  ]

/-- Registers of page EVB. -/
def regsEVB : List RegRow := [
  { off := 0x40, reset := 0xC00060, rw := 0x3FF03FF, enc := [⟨25, 16, [(1, 768)]⟩] },  -- STORE (R423)
  { off := 0x44, reset := 0x80000000, rw := 0xBFBFBFBF },  -- DEST (R430)
  { off := 0x48, reset := 0x3, rw := 0x3 },  -- ORDER (R433)
  { off := 0x4C, rw := 0xFFFFF },  -- PRIO (R434)
  { off := 0x50, reset := 0x80706040, rw := 0xFFFFFFFF },  -- LIMIT (R435)
  { off := 0x54, rw := 0x8000003F },  -- RLEQ (R430)
  { off := 0x58 },  -- STATUS (R424)
  { off := 0x5C },  -- EVENTS (R424)
  { off := 0x60, n1 := 4, s1 := 0x4 },  -- DROP (R435)
  { off := 0x70 },  -- TAG_DROP (R424)
  { off := 0x74 },  -- STORE_DROP (R423)
  { off := 0x78 },  -- HDR_DROP (R427)
  { off := 0x7C },  -- LANE_DROP (R437)
  { off := 0x80 },  -- FORCED (R426)
  { off := 0x84 },  -- LATE_WORDS (R425)
  { off := 0x88 },  -- XLOST (R43)
  { off := 0x90, n1 := 4, s1 := 0x4 }  -- GQ_BYTES (R435)
  ]

/-- Registers of page QUE. -/
def regsQUE : List RegRow := [
  { off := 0x40, reset := 0x400064, rw := 0xFFFFFFFF, enc := [⟨31, 16, [(1, 65535)]⟩, ⟨15, 0, [(10, 65535)]⟩] },  -- POLL (R447)
  { off := 0x44 },  -- ENABLED_LO (R440)
  { off := 0x48 },  -- ENABLED_HI (R440)
  { off := 0x4C },  -- CONS_READS (R447)
  { off := 0x50 },  -- COPY_KIB (R444)
  { off := 0x54 },  -- MISMATCHES (R452)
  { off := 0x58 }  -- XLOST (R43)
  ]

/-- Registers of page QDEV. -/
def regsQDEV : List RegRow := [
  { off := 0x40, n1 := 64, s1 := 0x30, rw := 0xF10101, w1s := 0x80000000, enc := [⟨23, 20, [(0, 10)]⟩] },  -- CTL (R440)
  { off := 0x44, n1 := 64, s1 := 0x30, rw := 0x1FFFFF },  -- BASE (R441)
  { off := 0x48, n1 := 64, s1 := 0x30, reset := 0x1, rw := 0xFFFFF },  -- SIZE (R441)
  { off := 0x4C, n1 := 64, s1 := 0x30, rw := 0xFFFFF000, mbz := 0xFFF },  -- CPL_LO (R442)
  { off := 0x50, n1 := 64, s1 := 0x30, rw := 0xFFFFFFFF },  -- CPL_HI (R442)
  { off := 0x54, n1 := 64, s1 := 0x30, rw := 0xFFFFFFF0, mbz := 0xF },  -- CONS_LO (R445)
  { off := 0x58, n1 := 64, s1 := 0x30, rw := 0xFFFFFFFF },  -- CONS_HI (R445)
  { off := 0x5C, n1 := 64, s1 := 0x30, reset := 0x1, rw := 0xFFFFFFFF },  -- MOD (R453)
  { off := 0x60, n1 := 64, s1 := 0x30, w1c := 0xF00000 },  -- STAT (R450)
  { off := 0x64, n1 := 64, s1 := 0x30 },  -- WPTR (R441)
  { off := 0x68, n1 := 64, s1 := 0x30 },  -- CREDIT (R446)
  { off := 0x6C, n1 := 64, s1 := 0x30 },  -- PACKETS (R446)
  { off := 0xC40, n1 := 64, s1 := 0x4 }  -- DROP (R446)
  ]

/-- Registers of page QCMD. -/
def regsQCMD : List RegRow := [
  { off := 0x40, n1 := 16, s1 := 0x40, rw := 0x3F11 },  -- CTL (R456)
  { off := 0x44, n1 := 16, s1 := 0x40, rw := 0x3FFF },  -- BASE (R456)
  { off := 0x48, n1 := 16, s1 := 0x40, reset := 0x1, rw := 0x1F, enc := [⟨4, 0, [(1, 16)]⟩] },  -- SIZE (R456)
  { off := 0x4C, n1 := 16, s1 := 0x40, rw := 0xFFFFFFF8, mbz := 0x7 },  -- CRED_LO (R460)
  { off := 0x50, n1 := 16, s1 := 0x40, rw := 0xFFFFFFFF },  -- CRED_HI (R460)
  { off := 0x54, n1 := 16, s1 := 0x40 },  -- POSTED (R456)
  { off := 0x58, n1 := 16, s1 := 0x40 },  -- DONE (R460)
  { off := 0x5C, n1 := 16, s1 := 0x40, w1c := 0x3 },  -- STAT (R456)
  { off := 0x60, n1 := 16, s1 := 0x40 },  -- EXEC (R458)
  { off := 0x64, n1 := 16, s1 := 0x40 }  -- DENIED (R458)
  ]

/-- Registers of page ULNK. -/
def regsULNK : List RegRow := [
  { off := 0x40, rw := 0x1 },  -- CTL (R463)
  { off := 0x44, rwl := 0x1 },  -- BLIND_POLICY (R490)
  { off := 0x48, reset := 0x3FFFF, rw := 0x3FFFF },  -- LANE_EN (R494)
  { off := 0x4C },  -- GSTAT (R472)
  { off := 0x50 },  -- DLSTAT (R486)
  { off := 0x54, reset := 0x1, rw := 0x3FF, enc := [⟨9, 0, [(0, 767)]⟩] },  -- DWIN_BASE (R485)
  { off := 0x58, rw := 0x3FF, enc := [⟨9, 0, [(0, 767)]⟩] },  -- DWIN_LIMIT (R485)
  { off := 0x5C },  -- RESTRIPES (R473)
  { off := 0x60 },  -- RSV_DISCARD (R482)
  { off := 0x64 },  -- DWIN_DENY (R485)
  { off := 0x68 },  -- DLOST (R487)
  { off := 0x6C },  -- CMD_EXEC (R484)
  { off := 0x70 }  -- XLOST (R43)
  ]

/-- Registers of page UTX. -/
def regsUTX : List RegRow := [
  { off := 0x40 },  -- STATE (R490)
  { off := 0x44, n1 := 4, s1 := 0x4, reset := 0x300802, rw := 0x3F1F0F },  -- EQ (R497)
  { off := 0x54, rw := 0x100 },  -- EQ_CTL (R490)
  { off := 0x58, mbz := 0xFFFFFFFE },  -- CMD (R490)
  { off := 0x5C },  -- TRAINS (R490)
  { off := 0x60 }  -- LOSSES (R492)
  ]

/-- Registers of page DRX. -/
def regsDRX : List RegRow := [
  { off := 0x40 },  -- STATUS (R486)
  { off := 0x44 },  -- SYNC_ERR (R486)
  { off := 0x48 },  -- LOCK_LOSS (R486)
  { off := 0x4C },  -- BAD_BLOCKS (R487)
  { off := 0x50 },  -- SF_TAKEN (R487)
  { off := 0x54 },  -- SKEW (R487)
  { off := 0x58, rw := 0x3F3F0F, w1s := 0x80000000, enc := [⟨3, 0, [(0, 12)]⟩] },  -- SCAN_CTL (R498)
  { off := 0x5C },  -- SCAN_RES (R498)
  { off := 0x60 }  -- XLOST (R43)
  ]

/-- Registers of page SECC. -/
def regsSECC : List RegRow := [
  { off := 0x40, n1 := 25, s1 := 0x10, reset := 0x4003E8, rw := 0xFFFFFFFF },  -- BCFG (R519)
  { off := 0x44, n1 := 25, s1 := 0x10 },  -- BSTAT (R519)
  { off := 0x48, n1 := 25, s1 := 0x10 },  -- CE (R517)
  { off := 0x4C, n1 := 25, s1 := 0x10 },  -- UE (R517)
  { off := 0x200, rw := 0x1 },  -- CTL (R521)
  { off := 0x204, rw := 0x1F001FFF, w1s := 0x80000000, enc := [⟨28, 24, [(0, 24)]⟩] },  -- INJECT (R523)
  { off := 0x208 },  -- LOG_HEAD (R521)
  { off := 0x20C },  -- XLOST (R43)
  { off := 0x210 },  -- UE_EVENTS (R508)
  { off := 0x400, n1 := 16, s1 := 0x10, n2 := 4, s2 := 0x4 }  -- LOG (R521)
  ]

/-- Registers of page DECC. -/
def regsDECC : List RegRow := [
  { off := 0x40, reset := 0x803, rw := 0x7F07, enc := [⟨14, 8, [(1, 72)]⟩, ⟨2, 0, [(0, 6)]⟩] },  -- CTL (R512)
  { off := 0x44, reset := 0x4003E8, rw := 0xFFFFFFFF },  -- BCFG (R519)
  { off := 0x48 },  -- BSTAT (R519)
  { off := 0x4C },  -- CE (R517)
  { off := 0x50 },  -- UE (R517)
  { off := 0x54 },  -- RMW_FAIL (R513)
  { off := 0x58 },  -- XLOST (R43)
  { off := 0x5C, rw := 0x1FFF },  -- RETIRE_BASE (R526)
  { off := 0x60, rw := 0x1FFFF, enc := [⟨16, 0, [(0, 65536)]⟩] },  -- RETIRE_COUNT (R526)
  { off := 0x64, w1c := 0x1, w1s := 0x80000000 },  -- RETIRE_CTL (R526)
  { off := 0x68, mbz := 0x7FC00000 },  -- RETIRE_ADD (R527)
  { off := 0x6C },  -- RETIRED (R527)
  { off := 0x70 },  -- LOG_HEAD (R522)
  { off := 0x74, rw := 0x7F, w1s := 0x80000000 },  -- INJECT (R523)
  { off := 0x78 },  -- CE_PAGES (R517)
  { off := 0x7C },  -- UE_PAGES (R517)
  { off := 0x100, n1 := 32, s1 := 0x4, rw := 0x8FFFFFFF, enc := [⟨27, 22, [(0, 34)]⟩] },  -- REMAP (R524)
  { off := 0x400, n1 := 16, s1 := 0x20, n2 := 8, s2 := 0x4 }  -- LOG (R522)
  ]

/-- Registers of page SCRUB. -/
def regsSCRUB : List RegRow := [
  { off := 0x40, rw := 0xFF1F33, w1s := 0x80000000, enc := [⟨5, 4, [(0, 2)]⟩, ⟨1, 0, [(0, 2)]⟩] },  -- CTL (R528)
  { off := 0x44, rw := 0xFFFFFFFF },  -- START_LO (R529)
  { off := 0x48, rw := 0xFFFFFFFF },  -- START_HI (R529)
  { off := 0x4C, rw := 0xFFFFFFFF },  -- END_LO (R529)
  { off := 0x50, rw := 0xFFFFFFFF },  -- END_HI (R529)
  { off := 0x54, rw := 0xFFFFFFFF },  -- PATTERN (R528)
  { off := 0x58 },  -- STAT (R532)
  { off := 0x5C },  -- READ (R532)
  { off := 0x60 },  -- CORR (R532)
  { off := 0x64 },  -- UNCORR (R532)
  { off := 0x68 },  -- FIRST_LO (R532)
  { off := 0x6C },  -- FIRST_HI (R532)
  { off := 0x70 },  -- LAST_LO (R532)
  { off := 0x74 },  -- LAST_HI (R532)
  { off := 0x78 }  -- ELAPSED (R532)
  ]

/-- Registers of page SLOW. -/
def regsSLOW : List RegRow := [
  { off := 0x40, n1 := 32, s1 := 0x20, reset := 0x1F00, rw := 0xC70F3F3F, enc := [⟨19, 16, [(0, 8)]⟩, ⟨13, 8, [(0, 23), (31, 31)]⟩, ⟨5, 0, [(0, 26), (32, 54), (56, 63)]⟩] },  -- CFG (R534)
  { off := 0x44, n1 := 32, s1 := 0x20, reset := 0x7FFF8000, rw := 0xFFFFFFFF },  -- WIN (R547)
  { off := 0x48, n1 := 32, s1 := 0x20, reset := 0x1000000, rw := 0x8F000FFF, enc := [⟨27, 24, [(1, 15)]⟩] },  -- WCFG (R547)
  { off := 0x4C, n1 := 32, s1 := 0x20, reset := 0x1000, rw := 0xFFFF },  -- OWDELTA (R550)
  { off := 0x50, n1 := 32, s1 := 0x20, w1c := 0x8 },  -- STATUS (R547)
  { off := 0x54, n1 := 32, s1 := 0x20 },  -- LAST (R540)
  { off := 0x58, n1 := 32, s1 := 0x20 },  -- INDEX (R540)
  { off := 0x5C, n1 := 32, s1 := 0x20, reset := 0xFFFFFFFF },  -- GOOD_DIAG (R549)
  { off := 0x800, n1 := 2, s1 := 0x4, reset := 0x1000FA0, rw := 0xDF37FFFF, enc := [⟨28, 24, [(1, 16)]⟩, ⟨21, 20, [(0, 2)]⟩, ⟨18, 0, [(250, 400000)]⟩] },  -- CONV (R535)
  { off := 0x808, rw := 0x1 },  -- CTL (R557)
  { off := 0x80C, reset := 0x3E83010, rw := 0xFFFFFFFF, enc := [⟨31, 16, [(1, 65535)]⟩, ⟨15, 12, [(1, 15)]⟩] },  -- XCHK_CFG (R553)
  { off := 0x810 },  -- STATUS_A (R553)
  { off := 0x814 },  -- OPENMAP (R551)
  { off := 0x818, reset := 0x6, rw := 0xC001001F, enc := [⟨4, 0, [(6, 20)]⟩] },  -- DMA_CTL (R559)
  { off := 0x81C, rw := 0xFFFFFFE0, mbz := 0x1F },  -- DMA_BASE_LO (R559)
  { off := 0x820, rw := 0xFFFFFFFF },  -- DMA_BASE_HI (R559)
  { off := 0x824 },  -- DMA_HEAD (R560)
  { off := 0x828 },  -- XCHK_FAIL (R555)
  { off := 0x82C },  -- DMA_DROP (R560)
  { off := 0x830 },  -- TRIG_MISS (R542)
  { off := 0x834 },  -- BLANKS (R557)
  { off := 0x838 }  -- XLOST (R43)
  ]

/-- Registers of page EXC. -/
def regsEXC : List RegRow := [
  { off := 0x40, rw := 0xFF },  -- CTL (R546)
  { off := 0x44 },  -- STATUS (R545)
  { off := 0x48 }  -- CHANGES (R546)
  ]

/-- Registers of page SERVO. -/
def regsSERVO : List RegRow := [
  { off := 0x40, n1 := 16, s1 := 0x70, reset := 0x10100, rw := 0xC0077300, enc := [⟨18, 16, [(1, 6)]⟩, ⟨14, 12, [(0, 4)]⟩, ⟨9, 8, [(1, 2)]⟩] },  -- CTL (R582)
  { off := 0x44, n1 := 16, s1 := 0x70, rw := 0x3F3F3F00 },  -- EXP (R568)
  { off := 0x48, n1 := 16, s1 := 0x70, rw := 0xF0F },  -- OUTSEL (R575)
  { off := 0x4C, n1 := 16, s1 := 0x70, n2 := 4, s2 := 0x4, rw := 0xFFE3FFFF },  -- MEAS (R571)
  { off := 0x5C, n1 := 16, s1 := 0x70, n2 := 2, s2 := 0x4, rw := 0xFFFFFFFF },  -- YOFF (R572)
  { off := 0x64, n1 := 16, s1 := 0x70, n2 := 2, s2 := 0x4, rw := 0xFFFFFFFF },  -- HOSTY (R571)
  { off := 0x6C, n1 := 16, s1 := 0x70, rw := 0xFFFFFFFF },  -- R (R566)
  { off := 0x70, n1 := 16, s1 := 0x70, reset := 0x640100, rw := 0x3FFFFFFF, enc := [⟨23, 16, [(2, 255)]⟩, ⟨15, 0, [(1, 32767)]⟩] },  -- OD_CFG (R584)
  { off := 0x74, n1 := 16, s1 := 0x70, rw := 0xFFFF },  -- STALE_MAX (R582)
  { off := 0x78, n1 := 16, s1 := 0x70 },  -- STATUS (R582)
  { off := 0x7C, n1 := 16, s1 := 0x70, mbz := 0xFFFFFFFE },  -- CMD (R582)
  { off := 0x80, n1 := 16, s1 := 0x70, n2 := 3, s2 := 0x4, rw := 0xFFFFFFFF },  -- X (R566)
  { off := 0x8C, n1 := 16, s1 := 0x70 },  -- U (R566)
  { off := 0x90, n1 := 16, s1 := 0x70, n2 := 2, s2 := 0x4 },  -- Y (R566)
  { off := 0x98, n1 := 16, s1 := 0x70, w1c := 0xFF },  -- SAT (R570)
  { off := 0x9C, n1 := 16, s1 := 0x70 },  -- STALE_RUN (R574)
  { off := 0xA0, n1 := 16, s1 := 0x70 },  -- CYCLES (R566)
  { off := 0xA4, n1 := 16, s1 := 0x70 },  -- ERRS (R581)
  { off := 0x800, n1 := 16, s1 := 0x10, reset := 0x8000, rw := 0xFFFF },  -- OBASE (R575)
  { off := 0x804, n1 := 16, s1 := 0x10, rw := 0xFFFF },  -- MAN (R577)
  { off := 0x808, n1 := 16, s1 := 0x10, rw := 0xFFFF },  -- SAFE (R577)
  { off := 0x80C, n1 := 16, s1 := 0x10 }  -- CODE (R577)
  ]

/-- Registers of page SVCOEF. -/
def regsSVCOEF : List RegRow := [
  { off := 0x40, n1 := 16, s1 := 0xE0, n2 := 56, s2 := 0x4, rw := 0xFFFFFFFF }  -- COEF (R588)
  ]

/-- Registers of page LIGHT. -/
def regsLIGHT : List RegRow := [
  { off := 0x40, n1 := 8, s1 := 0x10, rw := 0x800001FF, enc := [⟨7, 0, [(0, 250)]⟩] },  -- SCFG (R594)
  { off := 0x44, n1 := 8, s1 := 0x10 },  -- SSTATUS (R594)
  { off := 0x48, n1 := 8, s1 := 0x10 },  -- SVSNK (R592)
  { off := 0x800, rw := 0x80000103, enc := [⟨1, 0, [(0, 2)]⟩] },  -- CTL (R597)
  { off := 0x804, rw := 0xFFFF },  -- GLOW (R594)
  { off := 0x808, rw := 0xFF1FFF, enc := [⟨12, 0, [(0, 4096)]⟩] },  -- SPRINKLE (R595)
  { off := 0x80C, rw := 0x3FF },  -- SPR_CUR (R595)
  { off := 0x810, reset := 0xFA0000, rw := 0x3FF03FF, enc := [⟨25, 16, [(0, 1000)]⟩, ⟨9, 0, [(0, 1000)]⟩] },  -- BOOST (R591)
  { off := 0x814, reset := 0x3C, rw := 0xFF, enc := [⟨7, 0, [(10, 100)]⟩] },  -- HEAD (R592)
  { off := 0x818, reset := 0x10000410, rw := 0xFFFF0FFF },  -- RATIO (R599)
  { off := 0x81C, reset := 0x4000 },  -- TRIM (R599)
  { off := 0x820 },  -- PD_AVG (R599)
  { off := 0x824 },  -- STATUS (R603)
  { off := 0x828 },  -- FAULT (R602)
  { off := 0x82C, mbz := 0xFFFE, key := some 0x4C43 },  -- CMD (R603)
  { off := 0x830 },  -- STRETCHES (R598)
  { off := 0x834 }  -- COUNTS (R602)
  ]

/-- Registers of page PCIE. -/
def regsPCIE : List RegRow := [
  { off := 0x40 },  -- LINK (R73)
  { off := 0x44, rw := 0x3FF, enc := [⟨9, 0, [(0, 767)]⟩] },  -- WIN2_BASE (R82)
  { off := 0x48, rw := 0x3FF, enc := [⟨9, 0, [(0, 767)]⟩] },  -- WIN2_LIMIT (R82)
  { off := 0x4C, reset := 0x1, rw := 0x1FFF },  -- WIN4_BASE (R82)
  { off := 0x50, rw := 0x1FFF },  -- WIN4_LIMIT (R82)
  { off := 0x54 }  -- WIN_DENY (R82)
  ]

/-- Registers of page CHAN. -/
def regsCHAN : List RegRow := [
  { off := 0x0, n1 := 128, s1 := 0x20, reset := 0x110000, rw := 0xFD3F3F, enc := [⟨23, 20, [(1, 15)]⟩] },  -- CFG (R199)
  { off := 0x4, n1 := 128, s1 := 0x20, rw := 0x7FFFF },  -- QLIM (R207)
  { off := 0x8, n1 := 128, s1 := 0x20 },  -- STATUS (R207)
  { off := 0xC, n1 := 128, s1 := 0x20, mbz := 0xFFFFFFFE },  -- CMD (R210)
  { off := 0x10, n1 := 128, s1 := 0x20 },  -- EDGES (R227)
  { off := 0x14, n1 := 128, s1 := 0x20 },  -- DROP_CAP (R206)
  { off := 0x18, n1 := 128, s1 := 0x20 },  -- DROP_FULL (R204)
  { off := 0x1C, n1 := 128, s1 := 0x20 }  -- QPILE (R203)
  ]

/-- The block type of page `p` (PAGE_ID.TYPE), none for a page that the page map does not hold (R84).
The variant decides whether TAIL and DECC exist (R2). -/
def pageType (p : Nat) : Option Nat :=
  if 0x10 ≤ p ∧ p < 0x20 then some 0x10 else
  if 0x51 ≤ p ∧ p < 0x5D then some 0x51 else
  if 0x71 ≤ p ∧ p < 0x83 then some 0x71 else
  if 0x83 ≤ p ∧ p < 0x85 then some 0x83 else
  if 0xB0 ≤ p ∧ p < 0xB2 then some 0xB0 else
  if 0x100 ≤ p ∧ p < 0x110 then some 0x100 else
  if p ∈ [0x0, 0x1, 0x2, 0x3, 0x4, 0x5, 0x6, 0x7, 0x8, 0x9, 0xA, 0xB, 0xC, 0x20, 0x30, 0x31, 0x32, 0x33, 0x40, 0x41, 0x42, 0x43, 0x50, 0x60, 0x61, 0x62, 0x63, 0x70, 0x90, 0x91, 0x92, 0xA0, 0xA1, 0xA2, 0xA3, 0xA4] then some p else none

/-- The register rows of a block type. -/
def typeRegs (t : Nat) : List RegRow :=
  match t with
  | 0x0 => regsSYS
  | 0x1 => regsCFG
  | 0x2 => regsOWN
  | 0x3 => regsIRQ
  | 0x4 => regsMODE
  | 0x5 => regsCLK
  | 0x6 => regsTIME
  | 0x7 => regsTIU
  | 0x8 => regsAGE
  | 0x9 => regsUPD
  | 0xA => regsSTW
  | 0xB => regsIDM
  | 0xC => regsGUARD
  | 0x10 => regsTILE
  | 0x20 => regsTLNK
  | 0x30 => regsTRIG
  | 0x31 => regsCOINC
  | 0x32 => regsTPATH
  | 0x33 => regsTBUS
  | 0x40 => regsLRING
  | 0x41 => regsHAMP
  | 0x42 => regsTAIL
  | 0x43 => regsRLE
  | 0x50 => regsENG
  | 0x51 => regsECL
  | 0x60 => regsEVB
  | 0x61 => regsQUE
  | 0x62 => regsQDEV
  | 0x63 => regsQCMD
  | 0x70 => regsULNK
  | 0x71 => regsUTX
  | 0x83 => regsDRX
  | 0x90 => regsSECC
  | 0x91 => regsDECC
  | 0x92 => regsSCRUB
  | 0xA0 => regsSLOW
  | 0xA1 => regsEXC
  | 0xA2 => regsSERVO
  | 0xA3 => regsSVCOEF
  | 0xA4 => regsLIGHT
  | 0xB0 => regsPCIE
  | 0x100 => regsCHAN
  | _ => []

/-- PAGE_CAP and PAGE_STAT.ISLAND of page `p`, as each chapter states them; no chapter states PAGE_CAP.HAS_IRQ of SYS, OWN, IRQ and PCIE, 0 here
(DESIGN CHOICE, log 69). -/
def pageInfo (p : Nat) : PageInfo :=
  match pageType p with
  | some 0x0 => ⟨0x0, 0, 26, false, false, false, 0, 0, 0x0, 0x1⟩  -- SYS
  | some 0x1 => ⟨0x1, 0, 26, false, false, true, 0, 0, 0xF, 0x30001⟩  -- CFG
  | some 0x2 => ⟨0x2, 0, 26, false, true, false, 0, 0, 0x0, 0x1⟩  -- OWN
  | some 0x3 => ⟨0x3, 0, 26, false, false, false, 0, 0, 0x0, 0x1⟩  -- IRQ
  | some 0x4 => ⟨0x4, 0, 26, true, false, true, 0, 0, 0xF, 0x70001⟩  -- MODE
  | some 0x5 => ⟨0x5, 0, 0, true, false, true, 0, 0, 0xF, 0x30001⟩  -- CLK
  | some 0x6 => ⟨0x6, 0, 0, true, false, true, 24, 4, 0xFFFFFF1B, 0x70001⟩  -- TIME
  | some 0x7 => ⟨0x7, 0, 0, true, false, true, 4, 4, 0x1FF, 0x30001⟩  -- TIU
  | some 0x8 => ⟨0x8, 0, 27, true, false, true, 0, 0, 0x1F, 0x70001⟩  -- AGE
  | some 0x9 => ⟨0x9, 0, 26, false, false, true, 0, 0, 0x3F, 0x30001⟩  -- UPD
  | some 0xA => ⟨0xA, 0, 26, false, true, true, 0, 0, 0x3F, 0x70001⟩  -- STW
  | some 0xB => ⟨0xB, 0, 27, false, false, true, 0, 0, 0x1FFFF, 0x1⟩  -- IDM
  | some 0xC => ⟨0xC, 0, 26, false, true, true, 0, 0, 0xF, 0x1⟩  -- GUARD
  | some 0x10 => ⟨0x10, p - 0x10, 2, true, false, true, 0, 0, 0xFF, 0xF0001⟩  -- TILE
  | some 0x20 => ⟨0x20, 0, 2, true, false, true, 16, 4, 0xFFFFFFFF, 0x1F0001⟩  -- TLNK
  | some 0x30 => ⟨0x30, 0, 3, true, false, true, 16, 1, 0xF, 0x30001⟩  -- TRIG
  | some 0x31 => ⟨0x31, 0, 3, true, false, true, 8, 2, 0xFF, 0x1⟩  -- COINC
  | some 0x32 => ⟨0x32, 0, 3, true, false, true, 0, 0, 0x1, 0x10001⟩  -- TPATH
  | some 0x33 => ⟨0x33, 0, 3, true, false, true, 0, 0, 0x3F, 0x30001⟩  -- TBUS
  | some 0x40 => ⟨0x40, 0, 4, true, true, true, 0, 0, 0x3, 0xF0001⟩  -- LRING
  | some 0x41 => ⟨0x41, 0, 4, true, false, true, 0, 0, 0xF, 0x70001⟩  -- HAMP
  | some 0x42 => ⟨0x42, 0, 4, true, false, true, 0, 0, 0xF, 0xF0001⟩  -- TAIL
  | some 0x43 => ⟨0x43, 0, 4, true, false, false, 0, 0, 0x0, 0x1⟩  -- RLE
  | some 0x50 => ⟨0x50, 0, 2, true, false, true, 0, 0, 0x1F, 0x30001⟩  -- ENG
  | some 0x51 => ⟨0x51, p - 0x51, 5 + (p - 0x51), true, false, true, 8, 2, 0x1FFFFFF, 0x70001⟩  -- ECL
  | some 0x60 => ⟨0x60, 0, 17, true, false, true, 0, 0, 0x1F, 0x30001⟩  -- EVB
  | some 0x61 => ⟨0x61, 0, 17, true, false, false, 0, 0, 0x0, 0x1⟩  -- QUE
  | some 0x62 => ⟨0x62, 0, 17, true, false, true, 64, 3, 0x1F, 0x10001⟩  -- QDEV
  | some 0x63 => ⟨0x63, 0, 17, true, false, true, 16, 4, 0xFFFFFFFF, 0x1⟩  -- QCMD
  | some 0x70 => ⟨0x70, 0, 20, true, true, true, 0, 0, 0xF, 0xF0001⟩  -- ULNK
  | some 0x71 => ⟨0x71, p - 0x71, 20, true, false, true, 0, 0, 0xF, 0x30001⟩  -- UTX
  | some 0x83 => ⟨0x83, p - 0x83, 21, true, false, true, 0, 0, 0x3, 0x10001⟩  -- DRX
  | some 0x90 => ⟨0x90, 0, 18, true, false, true, 25, 1, 0xF, 0xD0001⟩  -- SECC
  | some 0x91 => ⟨0x91, 0, 19, true, false, true, 0, 0, 0xF, 0xF0001⟩  -- DECC
  | some 0x92 => ⟨0x92, 0, 18, true, false, true, 0, 0, 0x3, 0x10001⟩  -- SCRUB
  | some 0xA0 => ⟨0xA0, 0, 27, true, false, true, 32, 2, 0x7F, 0xF0001⟩  -- SLOW
  | some 0xA1 => ⟨0xA1, 0, 27, true, false, true, 0, 0, 0xFF, 0x10001⟩  -- EXC
  | some 0xA2 => ⟨0xA2, 0, 27, true, false, true, 16, 7, 0xFFFFFFFF, 0x70001⟩  -- SERVO
  | some 0xA3 => ⟨0xA3, 0, 27, true, false, false, 16, 14, 0x0, 0x1⟩  -- SVCOEF
  | some 0xA4 => ⟨0xA4, 0, 27, true, false, true, 8, 1, 0xF, 0x30001⟩  -- LIGHT
  | some 0xB0 => ⟨0xB0, p - 0xB0, 22 + (p - 0xB0), true, false, false, 0, 0, 0x0, 0x1⟩  -- PCIE
  | some 0x100 => ⟨0x100, p - 0x100, 2, true, false, false, 128, 2, 0, 0⟩  -- CHAN (R87, R88)
  | _ => ⟨0, 0, 26, false, false, false, 0, 0, 0, 0⟩

end Sys2Proof.Machine

namespace Sys2Proof.Reg

/-- BAR0 address of offset `o` of page `p` (R84). -/
abbrev at' (p o : Nat) : Nat := p * 0x1000 + o
/-- PAGE_OWNER of page `p`. -/
abbrev pageOwner (p : Nat) : Nat := p * 0x1000 + 0x0C
/-- PAGE_CTL of page `p`. -/
abbrev pageCtl (p : Nat) : Nat := p * 0x1000 + 0x10
/-- INT_STAT of page `p`. -/
abbrev intStat (p : Nat) : Nat := p * 0x1000 + 0x18
/-- INT_EN of page `p`. -/
abbrev intEn (p : Nat) : Nat := p * 0x1000 + 0x1C
/-- INT_FORCE of page `p`. -/
abbrev intForce (p : Nat) : Nat := p * 0x1000 + 0x20
/-- STICKY of page `p`. -/
abbrev sticky (p : Nat) : Nat := p * 0x1000 + 0x24
/-- PAGE_CHECK of page `p`. -/
abbrev pageCheck (p : Nat) : Nat := p * 0x1000 + 0x28

/-- SYS.ID (R717). -/
abbrev sysId : Nat := 0x40
/-- SYS.SERIAL_LO (R717). -/
abbrev sysSerialLo : Nat := 0x44
/-- SYS.SERIAL_HI (R717). -/
abbrev sysSerialHi : Nat := 0x48
/-- SYS.STATUS (R66). -/
abbrev sysStatus : Nat := 0x4C
/-- SYS.ISLAND_STOPPED (R23). -/
abbrev sysIslandStopped : Nat := 0x50
/-- SYS.ISLAND_LIVE (R719). -/
abbrev sysIslandLive : Nat := 0x54
/-- SYS.RESET (R96). -/
abbrev sysReset : Nat := 0x58
/-- SYS.RESET_CAUSE (R95). -/
abbrev sysResetCause : Nat := 0x5C
/-- SYS.WARM_COUNT (R95). -/
abbrev sysWarmCount : Nat := 0x60
/-- SYS.ISLAND_RESET (R719). -/
abbrev sysIslandReset : Nat := 0x64
/-- SYS.CTRL_LOST (R43). -/
abbrev sysCtrlLost (i : Nat) : Nat := 0x100 + i * 0x4
/-- SYS.ISL_LOST (R43). -/
abbrev sysIslLost (i : Nat) : Nat := 0x180 + i * 0x4
/-- OWN.CLAIM (R102). -/
abbrev ownClaim : Nat := 0x2040
/-- OWN.RELEASE (R103). -/
abbrev ownRelease : Nat := 0x2044
/-- OWN.RESULT (R105). -/
abbrev ownResult : Nat := 0x2048
/-- OWN.POLICY (R99). -/
abbrev ownPolicy : Nat := 0x204C
/-- OWN.REVOKE (R109). -/
abbrev ownRevoke : Nat := 0x2050
/-- OWN.REVOKE_COUNT (R109). -/
abbrev ownRevokeCount : Nat := 0x2054
/-- OWN.STW_OVERRIDE (R110). -/
abbrev ownStwOverride : Nat := 0x2058
/-- OWN.DENY_COUNT (R107). -/
abbrev ownDenyCount : Nat := 0x205C
/-- OWN.DENY_HEAD (R116). -/
abbrev ownDenyHead : Nat := 0x2060
/-- OWN.DENY_LOG (R107). -/
abbrev ownDenyLog (i j : Nat) : Nat := 0x2100 + i * 0x10 + j * 0x4
/-- IRQ.SRC_STAT (R93). -/
abbrev irqSrcStat (i : Nat) : Nat := 0x3040 + i * 0x4
/-- IRQ.ROUTE (R112). -/
abbrev irqRoute (i j : Nat) : Nat := 0x3100 + i * 0x200 + j * 0x4
/-- IRQ.EOI (R114). -/
abbrev irqEoi (i : Nat) : Nat := 0x3200 + i * 0x200
/-- IRQ.INSVC_LO (R113). -/
abbrev irqInsvcLo (i : Nat) : Nat := 0x3204 + i * 0x200
/-- IRQ.INSVC_HI (R113). -/
abbrev irqInsvcHi (i : Nat) : Nat := 0x3208 + i * 0x200
/-- IRQ.MSGCOUNT (R113). -/
abbrev irqMsgcount (i : Nat) : Nat := 0x320C + i * 0x200
/-- PCIE.LINK (R73). -/
abbrev pcieLink (p : Nat) : Nat := (0xB0 + p) * 0x1000 + 0x40
/-- PCIE.WIN2_BASE (R82). -/
abbrev pcieWin2Base (p : Nat) : Nat := (0xB0 + p) * 0x1000 + 0x44
/-- PCIE.WIN2_LIMIT (R82). -/
abbrev pcieWin2Limit (p : Nat) : Nat := (0xB0 + p) * 0x1000 + 0x48
/-- PCIE.WIN4_BASE (R82). -/
abbrev pcieWin4Base (p : Nat) : Nat := (0xB0 + p) * 0x1000 + 0x4C
/-- PCIE.WIN4_LIMIT (R82). -/
abbrev pcieWin4Limit (p : Nat) : Nat := (0xB0 + p) * 0x1000 + 0x50
/-- PCIE.WIN_DENY (R82). -/
abbrev pcieWinDeny (p : Nat) : Nat := (0xB0 + p) * 0x1000 + 0x54
/-- MODE.CURRENT (R117). -/
abbrev modeCurrent : Nat := 0x4040
/-- MODE.SINCE_LO (R127). -/
abbrev modeSinceLo : Nat := 0x4044
/-- MODE.SINCE_HI (R127). -/
abbrev modeSinceHi : Nat := 0x4048
/-- MODE.REQ (R726). -/
abbrev modeReq : Nat := 0x404C
/-- MODE.AT_FRAME_LO (R128). -/
abbrev modeAtFrameLo : Nat := 0x4050
/-- MODE.AT_FRAME_HI (R128). -/
abbrev modeAtFrameHi : Nat := 0x4054
/-- MODE.RESULT (R726). -/
abbrev modeResult : Nat := 0x4058
/-- MODE.PEND (R127). -/
abbrev modePend : Nat := 0x405C
/-- MODE.PEND_FRAME_LO (R129). -/
abbrev modePendFrameLo : Nat := 0x4060
/-- MODE.PEND_FRAME_HI (R129). -/
abbrev modePendFrameHi : Nat := 0x4064
/-- MODE.CANCEL (R133). -/
abbrev modeCancel : Nat := 0x4068
/-- MODE.CTL (R119). -/
abbrev modeCtl : Nat := 0x406C
/-- MODE.CAUSE (R140). -/
abbrev modeCause : Nat := 0x4070
/-- MODE.CHANGES (R142). -/
abbrev modeChanges : Nat := 0x4074
/-- MODE.FATAL_COUNT (R142). -/
abbrev modeFatalCount : Nat := 0x4078
/-- CLK.STATUS (R150). -/
abbrev clkStatus : Nat := 0x5040
/-- CLK.REF_OFFSET (R151). -/
abbrev clkRefOffset : Nat := 0x5044
/-- CLK.SPREAD (R152). -/
abbrev clkSpread : Nat := 0x5048
/-- CLK.XADJ (R154). -/
abbrev clkXadj : Nat := 0x504C
/-- CLK.XRATIO_LO (R171). -/
abbrev clkXratioLo : Nat := 0x5050
/-- CLK.XRATIO_HI (R171). -/
abbrev clkXratioHi : Nat := 0x5054
/-- CLK.CTL (R173). -/
abbrev clkCtl : Nat := 0x5058
/-- CLK.LOSS_COUNT (R172). -/
abbrev clkLossCount : Nat := 0x505C
/-- CLK.HOLD_LEN (R174). -/
abbrev clkHoldLen : Nat := 0x5060
/-- TIME.CMP_LO (R178). -/
abbrev timeCmpLo (i : Nat) : Nat := 0x6040 + i * 0x40
/-- TIME.CMP_HI (R178). -/
abbrev timeCmpHi (i : Nat) : Nat := 0x6044 + i * 0x40
/-- TIME.CMP_PERIOD (R181). -/
abbrev timeCmpPeriod (i : Nat) : Nat := 0x6048 + i * 0x40
/-- TIME.CMP_CTL (R179). -/
abbrev timeCmpCtl (i : Nat) : Nat := 0x604C + i * 0x40
/-- TIME.CMP_STAT (R180). -/
abbrev timeCmpStat (i : Nat) : Nat := 0x6050 + i * 0x40
/-- TIME.CAP_CTL (R186). -/
abbrev timeCapCtl (i : Nat) : Nat := 0x6054 + i * 0x40
/-- TIME.CAP_STAT (R187). -/
abbrev timeCapStat (i : Nat) : Nat := 0x6058 + i * 0x40
/-- TIME.CAP_LO (R187). -/
abbrev timeCapLo (i : Nat) : Nat := 0x605C + i * 0x40
/-- TIME.CAP_HI (R188). -/
abbrev timeCapHi (i : Nat) : Nat := 0x6060 + i * 0x40
/-- TIME.CAP_LOST (R187). -/
abbrev timeCapLost (i : Nat) : Nat := 0x6064 + i * 0x40
/-- TIME.SNAP (R190). -/
abbrev timeSnap : Nat := 0x6800
/-- TIME.STATUS (R725). -/
abbrev timeStatus : Nat := 0x6804
/-- TIME.SYNC_CTL (R160). -/
abbrev timeSyncCtl : Nat := 0x6808
/-- TIME.SYNC_DLY (R158). -/
abbrev timeSyncDly : Nat := 0x680C
/-- TIME.SYNC_COUNT (R160). -/
abbrev timeSyncCount : Nat := 0x6810
/-- TIME.SYNC_REFUSED (R161). -/
abbrev timeSyncRefused : Nat := 0x6814
/-- TIME.SYNC_DIFF_LO (R160). -/
abbrev timeSyncDiffLo : Nat := 0x6818
/-- TIME.SYNC_DIFF_HI (R160). -/
abbrev timeSyncDiffHi : Nat := 0x681C
/-- TIME.WINC_LO (R167). -/
abbrev timeWincLo : Nat := 0x6820
/-- TIME.WINC_HI (R167). -/
abbrev timeWincHi : Nat := 0x6824
/-- TIME.WLOAD_LO (R168). -/
abbrev timeWloadLo : Nat := 0x6828
/-- TIME.WLOAD_HI (R168). -/
abbrev timeWloadHi : Nat := 0x682C
/-- TIME.WLOAD_AT_LO (R168). -/
abbrev timeWloadAtLo : Nat := 0x6830
/-- TIME.WLOAD_AT_HI (R168). -/
abbrev timeWloadAtHi : Nat := 0x6834
/-- TIME.WCTL (R169). -/
abbrev timeWctl : Nat := 0x6838
/-- TIME.OUT_CTL (R179). -/
abbrev timeOutCtl : Nat := 0x683C
/-- TIME.SNAP_M_LO (R190). -/
abbrev timeSnapMLo (i : Nat) : Nat := 0x6900 + i * 0x20
/-- TIME.SNAP_M_HI (R190). -/
abbrev timeSnapMHi (i : Nat) : Nat := 0x6904 + i * 0x20
/-- TIME.SNAP_W_LO (R190). -/
abbrev timeSnapWLo (i : Nat) : Nat := 0x6908 + i * 0x20
/-- TIME.SNAP_W_HI (R190). -/
abbrev timeSnapWHi (i : Nat) : Nat := 0x690C + i * 0x20
/-- TIME.SNAP_X_LO (R190). -/
abbrev timeSnapXLo (i : Nat) : Nat := 0x6910 + i * 0x20
/-- TIME.SNAP_X_HI (R190). -/
abbrev timeSnapXHi (i : Nat) : Nat := 0x6914 + i * 0x20
/-- TIME.SNAP_BIN (R191). -/
abbrev timeSnapBin (i : Nat) : Nat := 0x6918 + i * 0x20
/-- TIME.SNAP_SEQ (R190). -/
abbrev timeSnapSeq (i : Nat) : Nat := 0x691C + i * 0x20
/-- TILE.CTL (R198). -/
abbrev tileCtl (p : Nat) : Nat := (0x10 + p) * 0x1000 + 0x40
/-- TILE.THR (R199). -/
abbrev tileThr (p : Nat) : Nat := (0x10 + p) * 0x1000 + 0x44
/-- TILE.STATUS (R221). -/
abbrev tileStatus (p : Nat) : Nat := (0x10 + p) * 0x1000 + 0x48
/-- TILE.INJ_CTL (R218). -/
abbrev tileInjCtl (p : Nat) : Nat := (0x10 + p) * 0x1000 + 0x4C
/-- TILE.INJ_PERIOD (R219). -/
abbrev tileInjPeriod (p : Nat) : Nat := (0x10 + p) * 0x1000 + 0x50
/-- TILE.INJ_COUNT (R218). -/
abbrev tileInjCount (p : Nat) : Nat := (0x10 + p) * 0x1000 + 0x54
/-- TILE.INJ_SENT (R218). -/
abbrev tileInjSent (p : Nat) : Nat := (0x10 + p) * 0x1000 + 0x58
/-- TILE.SEU_COUNT (R226). -/
abbrev tileSeuCount (p : Nat) : Nat := (0x10 + p) * 0x1000 + 0x5C
/-- TILE.QUENCHED (R213). -/
abbrev tileQuenched (p i : Nat) : Nat := (0x10 + p) * 0x1000 + 0x60 + i * 0x4
/-- TILE.CAL_CTL (R241). -/
abbrev tileCalCtl (p : Nat) : Nat := (0x10 + p) * 0x1000 + 0x70
/-- TILE.CAL_STAT (R244). -/
abbrev tileCalStat (p : Nat) : Nat := (0x10 + p) * 0x1000 + 0x74
/-- TILE.CAL_FRAME_LO (R244). -/
abbrev tileCalFrameLo (p : Nat) : Nat := (0x10 + p) * 0x1000 + 0x78
/-- TILE.CAL_FRAME_HI (R244). -/
abbrev tileCalFrameHi (p : Nat) : Nat := (0x10 + p) * 0x1000 + 0x7C
/-- CHAN.CFG (R199). -/
abbrev chanCfg (p i : Nat) : Nat := (0x100 + p) * 0x1000 + 0x0 + i * 0x20
/-- CHAN.QLIM (R207). -/
abbrev chanQlim (p i : Nat) : Nat := (0x100 + p) * 0x1000 + 0x4 + i * 0x20
/-- CHAN.STATUS (R207). -/
abbrev chanStatus (p i : Nat) : Nat := (0x100 + p) * 0x1000 + 0x8 + i * 0x20
/-- CHAN.CMD (R210). -/
abbrev chanCmd (p i : Nat) : Nat := (0x100 + p) * 0x1000 + 0xC + i * 0x20
/-- CHAN.EDGES (R227). -/
abbrev chanEdges (p i : Nat) : Nat := (0x100 + p) * 0x1000 + 0x10 + i * 0x20
/-- CHAN.DROP_CAP (R206). -/
abbrev chanDropCap (p i : Nat) : Nat := (0x100 + p) * 0x1000 + 0x14 + i * 0x20
/-- CHAN.DROP_FULL (R204). -/
abbrev chanDropFull (p i : Nat) : Nat := (0x100 + p) * 0x1000 + 0x18 + i * 0x20
/-- CHAN.QPILE (R203). -/
abbrev chanQpile (p i : Nat) : Nat := (0x100 + p) * 0x1000 + 0x1C + i * 0x20
/-- TIU.CTL (R271). -/
abbrev tiuCtl (i : Nat) : Nat := 0x7040 + i * 0x40
/-- TIU.STAT (R268). -/
abbrev tiuStat (i : Nat) : Nat := 0x7044 + i * 0x40
/-- TIU.RES_FLAGS (R268). -/
abbrev tiuResFlags (i : Nat) : Nat := 0x7048 + i * 0x40
/-- TIU.RES_LO (R268). -/
abbrev tiuResLo (i : Nat) : Nat := 0x704C + i * 0x40
/-- TIU.RES_HI (R268). -/
abbrev tiuResHi (i : Nat) : Nat := 0x7050 + i * 0x40
/-- TIU.TFIRST_LO (R268). -/
abbrev tiuTfirstLo (i : Nat) : Nat := 0x7054 + i * 0x40
/-- TIU.TFIRST_HI (R268). -/
abbrev tiuTfirstHi (i : Nat) : Nat := 0x7058 + i * 0x40
/-- TIU.LOST (R268). -/
abbrev tiuLost (i : Nat) : Nat := 0x705C + i * 0x40
/-- TIU.AUX_CTL (R259). -/
abbrev tiuAuxCtl : Nat := 0x7800
/-- TIU.AUX_PILE (R259). -/
abbrev tiuAuxPile : Nat := 0x7804
/-- TIU.AUX_NEAR (R260). -/
abbrev tiuAuxNear : Nat := 0x7808
/-- TLNK.LSTAT (R289). -/
abbrev tlnkLstat (i : Nat) : Nat := 0x20040 + i * 0x40
/-- TLNK.CTL (R294). -/
abbrev tlnkCtl (i : Nat) : Nat := 0x20044 + i * 0x40
/-- TLNK.SYNC_ERR (R277). -/
abbrev tlnkSyncErr (i : Nat) : Nat := 0x20048 + i * 0x40
/-- TLNK.LOCK_LOSS (R277). -/
abbrev tlnkLockLoss (i : Nat) : Nat := 0x2004C + i * 0x40
/-- TLNK.LOSS_FRAMES (R285). -/
abbrev tlnkLossFrames (i : Nat) : Nat := 0x20050 + i * 0x40
/-- TLNK.MISS_FRAMES (R287). -/
abbrev tlnkMissFrames (i : Nat) : Nat := 0x20054 + i * 0x40
/-- TLNK.MISS_WORDS (R287). -/
abbrev tlnkMissWords (i : Nat) : Nat := 0x20058 + i * 0x40
/-- TLNK.LATE_WORDS (R285). -/
abbrev tlnkLateWords (i : Nat) : Nat := 0x2005C + i * 0x40
/-- TLNK.CBUS (R297). -/
abbrev tlnkCbus (i : Nat) : Nat := 0x20060 + i * 0x40
/-- TLNK.TSTORE (R280). -/
abbrev tlnkTstore (i : Nat) : Nat := 0x20064 + i * 0x40
/-- TLNK.ARB (R284). -/
abbrev tlnkArb : Nat := 0x20800
/-- TLNK.WAIT_MAX (R285). -/
abbrev tlnkWaitMax : Nat := 0x20804
/-- TLNK.XLOST (R43). -/
abbrev tlnkXlost : Nat := 0x20808
/-- TRIG.TCOND_A (R299). -/
abbrev trigTcondA (i : Nat) : Nat := 0x30040 + i * 0x10
/-- TRIG.TCOND_B (R299). -/
abbrev trigTcondB (i : Nat) : Nat := 0x30044 + i * 0x10
/-- TRIG.TCOND_C (R299). -/
abbrev trigTcondC (i : Nat) : Nat := 0x30048 + i * 0x10
/-- TRIG.ACC_CTL (R321). -/
abbrev trigAccCtl : Nat := 0x30200
/-- TRIG.ACC_AT_LO (R326). -/
abbrev trigAccAtLo : Nat := 0x30204
/-- TRIG.ACC_AT_HI (R326). -/
abbrev trigAccAtHi : Nat := 0x30208
/-- TRIG.ACC_GO (R326). -/
abbrev trigAccGo : Nat := 0x3020C
/-- TRIG.ACC_COUNT (R324). -/
abbrev trigAccCount (i : Nat) : Nat := 0x30210 + i * 0x4
/-- TRIG.ACC_DROP (R322). -/
abbrev trigAccDrop : Nat := 0x30224
/-- TRIG.ACC_FUTURE (R324). -/
abbrev trigAccFuture : Nat := 0x30228
/-- TRIG.ACC_UNUSED (R322). -/
abbrev trigAccUnused : Nat := 0x3022C
/-- TRIG.FP_ERR (R305). -/
abbrev trigFpErr : Nat := 0x30230
/-- TRIG.XLOST (R43). -/
abbrev trigXlost : Nat := 0x30234
/-- TRIG.CEN (R303). -/
abbrev trigCen (i j : Nat) : Nat := 0x30400 + i * 0x100 + j * 0x4
/-- COINC.RCTL (R307). -/
abbrev coincRctl (i : Nat) : Nat := 0x31040 + i * 0x20
/-- COINC.RTILES (R307). -/
abbrev coincRtiles (i : Nat) : Nat := 0x31044 + i * 0x20
/-- COINC.RTHR (R308). -/
abbrev coincRthr (i : Nat) : Nat := 0x31048 + i * 0x20
/-- COINC.RHOLD (R308). -/
abbrev coincRhold (i : Nat) : Nat := 0x3104C + i * 0x20
/-- COINC.RFIRES (R308). -/
abbrev coincRfires (i : Nat) : Nat := 0x31050 + i * 0x20
/-- COINC.RHELD (R310). -/
abbrev coincRheld (i : Nat) : Nat := 0x31054 + i * 0x20
/-- TPATH.CTL (R316). -/
abbrev tpathCtl : Nat := 0x32040
/-- TPATH.SEQ (R317). -/
abbrev tpathSeq : Nat := 0x32044
/-- TPATH.SENT (R316). -/
abbrev tpathSent : Nat := 0x32048
/-- TPATH.DROP (R317). -/
abbrev tpathDrop : Nat := 0x3204C
/-- TPATH.QPEAK (R317). -/
abbrev tpathQpeak : Nat := 0x32050
/-- TPATH.LAST_LO (R316). -/
abbrev tpathLastLo : Nat := 0x32054
/-- TPATH.LAST_HI (R316). -/
abbrev tpathLastHi : Nat := 0x32058
/-- TBUS.CTL (R331). -/
abbrev tbusCtl : Nat := 0x33040
/-- TBUS.STATUS (R328). -/
abbrev tbusStatus : Nat := 0x33044
/-- TBUS.CAL_CTL (R339). -/
abbrev tbusCalCtl : Nat := 0x33048
/-- TBUS.OFFSET (R339). -/
abbrev tbusOffset (i : Nat) : Nat := 0x3304C + i * 0x4
/-- TBUS.TX_TICK_LO (R332). -/
abbrev tbusTxTickLo : Nat := 0x33054
/-- TBUS.TX_TICK_HI (R332). -/
abbrev tbusTxTickHi : Nat := 0x33058
/-- TBUS.TX_CMD (R332). -/
abbrev tbusTxCmd : Nat := 0x3305C
/-- TBUS.TX_SENT (R331). -/
abbrev tbusTxSent : Nat := 0x33060
/-- TBUS.TX_DROP (R332). -/
abbrev tbusTxDrop : Nat := 0x33064
/-- TBUS.GUARD_DROP (R633). -/
abbrev tbusGuardDrop : Nat := 0x33068
/-- TBUS.RX_OK (R336). -/
abbrev tbusRxOk : Nat := 0x3306C
/-- TBUS.RX_CRC (R336). -/
abbrev tbusRxCrc : Nat := 0x33070
/-- TBUS.RX_GAP (R336). -/
abbrev tbusRxGap : Nat := 0x33074
/-- TBUS.RX_LAST_LO (R336). -/
abbrev tbusRxLastLo : Nat := 0x33078
/-- TBUS.RX_LAST_HI (R336). -/
abbrev tbusRxLastHi : Nat := 0x3307C
/-- LRING.WIN (R345). -/
abbrev lringWin (i : Nat) : Nat := 0x40040 + i * 0x4
/-- LRING.BASE (R343). -/
abbrev lringBase : Nat := 0x40054
/-- LRING.STATUS (R346). -/
abbrev lringStatus : Nat := 0x40058
/-- LRING.SERVED (R348). -/
abbrev lringServed : Nat := 0x4005C
/-- LRING.LATE_COUNT (R346). -/
abbrev lringLateCount : Nat := 0x40060
/-- LRING.DROP_COUNT (R347). -/
abbrev lringDropCount : Nat := 0x40064
/-- LRING.OVERLAP (R349). -/
abbrev lringOverlap : Nat := 0x40068
/-- LRING.XLOST (R43). -/
abbrev lringXlost : Nat := 0x4006C
/-- LRING.FULL_WORDS (R344). -/
abbrev lringFullWords : Nat := 0x40070
/-- HAMP.CTL (R357). -/
abbrev hampCtl : Nat := 0x41040
/-- HAMP.WIN (R352). -/
abbrev hampWin : Nat := 0x41044
/-- HAMP.BASE (R357). -/
abbrev hampBase : Nat := 0x41048
/-- HAMP.SIZE (R357). -/
abbrev hampSize : Nat := 0x4104C
/-- HAMP.STATUS (R359). -/
abbrev hampStatus : Nat := 0x41050
/-- HAMP.SEQ (R355). -/
abbrev hampSeq : Nat := 0x41054
/-- HAMP.HELD (R357). -/
abbrev hampHeld : Nat := 0x41058
/-- HAMP.FREE (R357). -/
abbrev hampFree : Nat := 0x4105C
/-- HAMP.READ (R357). -/
abbrev hampRead : Nat := 0x41060
/-- HAMP.RELEASE (R357). -/
abbrev hampRelease : Nat := 0x41064
/-- HAMP.MISSED (R352). -/
abbrev hampMissed : Nat := 0x41068
/-- HAMP.INSIDE (R352). -/
abbrev hampInside : Nat := 0x4106C
/-- HAMP.DEAD_WORDS (R354). -/
abbrev hampDeadWords : Nat := 0x41070
/-- HAMP.LOG_HEAD (R362). -/
abbrev hampLogHead : Nat := 0x41074
/-- HAMP.LOG (R362). -/
abbrev hampLog (i j : Nat) : Nat := 0x41400 + i * 0xC + j * 0x4
/-- TAIL.REGION_FIRST (R363). -/
abbrev tailRegionFirst : Nat := 0x42040
/-- TAIL.REGION_LAST (R363). -/
abbrev tailRegionLast : Nat := 0x42044
/-- TAIL.STATUS (R372). -/
abbrev tailStatus : Nat := 0x42048
/-- TAIL.ALERT_CTL (R369). -/
abbrev tailAlertCtl : Nat := 0x4204C
/-- TAIL.LOOKBACK (R370). -/
abbrev tailLookback : Nat := 0x42050
/-- TAIL.LOOKAHEAD (R370). -/
abbrev tailLookahead : Nat := 0x42054
/-- TAIL.FREEZE_AT_LO (R369). -/
abbrev tailFreezeAtLo : Nat := 0x42058
/-- TAIL.FREEZE_AT_HI (R369). -/
abbrev tailFreezeAtHi : Nat := 0x4205C
/-- TAIL.FREEZE_GO (R369). -/
abbrev tailFreezeGo : Nat := 0x42060
/-- TAIL.FSTAT (R370). -/
abbrev tailFstat (i : Nat) : Nat := 0x42100 + i * 0x20
/-- TAIL.FALERT_LO (R370). -/
abbrev tailFalertLo (i : Nat) : Nat := 0x42104 + i * 0x20
/-- TAIL.FALERT_HI (R370). -/
abbrev tailFalertHi (i : Nat) : Nat := 0x42108 + i * 0x20
/-- TAIL.FFIRST_LO (R371). -/
abbrev tailFfirstLo (i : Nat) : Nat := 0x4210C + i * 0x20
/-- TAIL.FFIRST_HI (R371). -/
abbrev tailFfirstHi (i : Nat) : Nat := 0x42110 + i * 0x20
/-- TAIL.FLAST_LO (R371). -/
abbrev tailFlastLo (i : Nat) : Nat := 0x42114 + i * 0x20
/-- TAIL.FLAST_HI (R371). -/
abbrev tailFlastHi (i : Nat) : Nat := 0x42118 + i * 0x20
/-- TAIL.FRELEASE (R373). -/
abbrev tailFrelease (i : Nat) : Nat := 0x4211C + i * 0x20
/-- TAIL.X_START_LO (R374). -/
abbrev tailXStartLo : Nat := 0x42200
/-- TAIL.X_START_HI (R374). -/
abbrev tailXStartHi : Nat := 0x42204
/-- TAIL.X_END_LO (R374). -/
abbrev tailXEndLo : Nat := 0x42208
/-- TAIL.X_END_HI (R374). -/
abbrev tailXEndHi : Nat := 0x4220C
/-- TAIL.X_TILES (R374). -/
abbrev tailXTiles : Nat := 0x42210
/-- TAIL.X_CTL (R374). -/
abbrev tailXCtl : Nat := 0x42214
/-- TAIL.X_STAT (R374). -/
abbrev tailXStat : Nat := 0x42218
/-- TAIL.X_WORDS (R378). -/
abbrev tailXWords : Nat := 0x4221C
/-- TAIL.X_GAP (R377). -/
abbrev tailXGap : Nat := 0x42220
/-- TAIL.X_DONE (R378). -/
abbrev tailXDone : Nat := 0x42224
/-- TAIL.PAGES (R363). -/
abbrev tailPages : Nat := 0x42300
/-- TAIL.WRITTEN (R368). -/
abbrev tailWritten : Nat := 0x42304
/-- TAIL.PINNED (R371). -/
abbrev tailPinned : Nat := 0x42308
/-- TAIL.LOST_WORDS (R372). -/
abbrev tailLostWords : Nat := 0x4230C
/-- TAIL.RUN (R366). -/
abbrev tailRun : Nat := 0x42310
/-- TAIL.META_SEL (R368). -/
abbrev tailMetaSel : Nat := 0x42320
/-- TAIL.META (R368). -/
abbrev tailMeta (i : Nat) : Nat := 0x42324 + i * 0x4
/-- RLE.CTL (R381). -/
abbrev rleCtl : Nat := 0x43040
/-- RLE.BLOCKS (R381). -/
abbrev rleBlocks : Nat := 0x43044
/-- RLE.RAW (R382). -/
abbrev rleRaw : Nat := 0x43048
/-- RLE.IN_KIB (R384). -/
abbrev rleInKib : Nat := 0x4304C
/-- RLE.OUT_KIB (R384). -/
abbrev rleOutKib : Nat := 0x43050
/-- ENG.PROG2_ENTRY (R399). -/
abbrev engProg2Entry : Nat := 0x50040
/-- ENG.PROG2_BUDGET (R399). -/
abbrev engProg2Budget : Nat := 0x50044
/-- ENG.PROG3_ENTRY (R399). -/
abbrev engProg3Entry : Nat := 0x50048
/-- ENG.PROG3_BUDGET (R399). -/
abbrev engProg3Budget : Nat := 0x5004C
/-- ENG.PROG4_ENTRY (R399). -/
abbrev engProg4Entry : Nat := 0x50050
/-- ENG.PROG4_BUDGET (R399). -/
abbrev engProg4Budget : Nat := 0x50054
/-- ENG.PROG5_ENTRY (R399). -/
abbrev engProg5Entry : Nat := 0x50058
/-- ENG.PROG5_BUDGET (R399). -/
abbrev engProg5Budget : Nat := 0x5005C
/-- ENG.NBR_CTL (R391). -/
abbrev engNbrCtl : Nat := 0x50060
/-- ENG.BYPASS (R386). -/
abbrev engBypass (i : Nat) : Nat := 0x50064 + i * 0x4
/-- ECL.ESTAT (R403). -/
abbrev eclEstat (p i : Nat) : Nat := (0x51 + p) * 0x1000 + 0x40 + i * 0x20
/-- ECL.HITS (R401). -/
abbrev eclHits (p i : Nat) : Nat := (0x51 + p) * 0x1000 + 0x44 + i * 0x20
/-- ECL.OVERRUNS (R402). -/
abbrev eclOverruns (p i : Nat) : Nat := (0x51 + p) * 0x1000 + 0x48 + i * 0x20
/-- ECL.EXCEPTIONS (R403). -/
abbrev eclExceptions (p i : Nat) : Nat := (0x51 + p) * 0x1000 + 0x4C + i * 0x20
/-- ECL.CAPDROPS (R408). -/
abbrev eclCapdrops (p i : Nat) : Nat := (0x51 + p) * 0x1000 + 0x50 + i * 0x20
/-- ECL.CYCMAX (R401). -/
abbrev eclCycmax (p i : Nat) : Nat := (0x51 + p) * 0x1000 + 0x54 + i * 0x20
/-- ECL.CTL (R414). -/
abbrev eclCtl (p i : Nat) : Nat := (0x51 + p) * 0x1000 + 0x58 + i * 0x20
/-- ECL.EXC_PC (R403). -/
abbrev eclExcPc (p i : Nat) : Nat := (0x51 + p) * 0x1000 + 0x5C + i * 0x20
/-- ECL.LOAD_SRC (R420). -/
abbrev eclLoadSrc (p : Nat) : Nat := (0x51 + p) * 0x1000 + 0x800
/-- ECL.LOAD_DST (R420). -/
abbrev eclLoadDst (p : Nat) : Nat := (0x51 + p) * 0x1000 + 0x804
/-- ECL.LOAD_LEN (R420). -/
abbrev eclLoadLen (p : Nat) : Nat := (0x51 + p) * 0x1000 + 0x808
/-- ECL.LOAD_CTL (R420). -/
abbrev eclLoadCtl (p : Nat) : Nat := (0x51 + p) * 0x1000 + 0x80C
/-- ECL.MEM_ADDR (R421). -/
abbrev eclMemAddr (p : Nat) : Nat := (0x51 + p) * 0x1000 + 0x810
/-- ECL.MEM_DATA (R421). -/
abbrev eclMemData (p : Nat) : Nat := (0x51 + p) * 0x1000 + 0x814
/-- ECL.PARAM (R415). -/
abbrev eclParam (p i : Nat) : Nat := (0x51 + p) * 0x1000 + 0x820 + i * 0x4
/-- ECL.XLOST (R43). -/
abbrev eclXlost (p : Nat) : Nat := (0x51 + p) * 0x1000 + 0x840
/-- EVB.STORE (R423). -/
abbrev evbStore : Nat := 0x60040
/-- EVB.DEST (R430). -/
abbrev evbDest : Nat := 0x60044
/-- EVB.ORDER (R433). -/
abbrev evbOrder : Nat := 0x60048
/-- EVB.PRIO (R434). -/
abbrev evbPrio : Nat := 0x6004C
/-- EVB.LIMIT (R435). -/
abbrev evbLimit : Nat := 0x60050
/-- EVB.RLEQ (R430). -/
abbrev evbRleq : Nat := 0x60054
/-- EVB.STATUS (R424). -/
abbrev evbStatus : Nat := 0x60058
/-- EVB.EVENTS (R424). -/
abbrev evbEvents : Nat := 0x6005C
/-- EVB.DROP (R435). -/
abbrev evbDrop (i : Nat) : Nat := 0x60060 + i * 0x4
/-- EVB.TAG_DROP (R424). -/
abbrev evbTagDrop : Nat := 0x60070
/-- EVB.STORE_DROP (R423). -/
abbrev evbStoreDrop : Nat := 0x60074
/-- EVB.HDR_DROP (R427). -/
abbrev evbHdrDrop : Nat := 0x60078
/-- EVB.LANE_DROP (R437). -/
abbrev evbLaneDrop : Nat := 0x6007C
/-- EVB.FORCED (R426). -/
abbrev evbForced : Nat := 0x60080
/-- EVB.LATE_WORDS (R425). -/
abbrev evbLateWords : Nat := 0x60084
/-- EVB.XLOST (R43). -/
abbrev evbXlost : Nat := 0x60088
/-- EVB.GQ_BYTES (R435). -/
abbrev evbGqBytes (i : Nat) : Nat := 0x60090 + i * 0x4
/-- QUE.POLL (R447). -/
abbrev quePoll : Nat := 0x61040
/-- QUE.ENABLED_LO (R440). -/
abbrev queEnabledLo : Nat := 0x61044
/-- QUE.ENABLED_HI (R440). -/
abbrev queEnabledHi : Nat := 0x61048
/-- QUE.CONS_READS (R447). -/
abbrev queConsReads : Nat := 0x6104C
/-- QUE.COPY_KIB (R444). -/
abbrev queCopyKib : Nat := 0x61050
/-- QUE.MISMATCHES (R452). -/
abbrev queMismatches : Nat := 0x61054
/-- QUE.XLOST (R43). -/
abbrev queXlost : Nat := 0x61058
/-- QDEV.CTL (R440). -/
abbrev qdevCtl (i : Nat) : Nat := 0x62040 + i * 0x30
/-- QDEV.BASE (R441). -/
abbrev qdevBase (i : Nat) : Nat := 0x62044 + i * 0x30
/-- QDEV.SIZE (R441). -/
abbrev qdevSize (i : Nat) : Nat := 0x62048 + i * 0x30
/-- QDEV.CPL_LO (R442). -/
abbrev qdevCplLo (i : Nat) : Nat := 0x6204C + i * 0x30
/-- QDEV.CPL_HI (R442). -/
abbrev qdevCplHi (i : Nat) : Nat := 0x62050 + i * 0x30
/-- QDEV.CONS_LO (R445). -/
abbrev qdevConsLo (i : Nat) : Nat := 0x62054 + i * 0x30
/-- QDEV.CONS_HI (R445). -/
abbrev qdevConsHi (i : Nat) : Nat := 0x62058 + i * 0x30
/-- QDEV.MOD (R453). -/
abbrev qdevMod (i : Nat) : Nat := 0x6205C + i * 0x30
/-- QDEV.STAT (R450). -/
abbrev qdevStat (i : Nat) : Nat := 0x62060 + i * 0x30
/-- QDEV.WPTR (R441). -/
abbrev qdevWptr (i : Nat) : Nat := 0x62064 + i * 0x30
/-- QDEV.CREDIT (R446). -/
abbrev qdevCredit (i : Nat) : Nat := 0x62068 + i * 0x30
/-- QDEV.PACKETS (R446). -/
abbrev qdevPackets (i : Nat) : Nat := 0x6206C + i * 0x30
/-- QDEV.DROP (R446). -/
abbrev qdevDrop (i : Nat) : Nat := 0x62C40 + i * 0x4
/-- QCMD.CTL (R456). -/
abbrev qcmdCtl (i : Nat) : Nat := 0x63040 + i * 0x40
/-- QCMD.BASE (R456). -/
abbrev qcmdBase (i : Nat) : Nat := 0x63044 + i * 0x40
/-- QCMD.SIZE (R456). -/
abbrev qcmdSize (i : Nat) : Nat := 0x63048 + i * 0x40
/-- QCMD.CRED_LO (R460). -/
abbrev qcmdCredLo (i : Nat) : Nat := 0x6304C + i * 0x40
/-- QCMD.CRED_HI (R460). -/
abbrev qcmdCredHi (i : Nat) : Nat := 0x63050 + i * 0x40
/-- QCMD.POSTED (R456). -/
abbrev qcmdPosted (i : Nat) : Nat := 0x63054 + i * 0x40
/-- QCMD.DONE (R460). -/
abbrev qcmdDone (i : Nat) : Nat := 0x63058 + i * 0x40
/-- QCMD.STAT (R456). -/
abbrev qcmdStat (i : Nat) : Nat := 0x6305C + i * 0x40
/-- QCMD.EXEC (R458). -/
abbrev qcmdExec (i : Nat) : Nat := 0x63060 + i * 0x40
/-- QCMD.DENIED (R458). -/
abbrev qcmdDenied (i : Nat) : Nat := 0x63064 + i * 0x40
/-- ULNK.CTL (R463). -/
abbrev ulnkCtl : Nat := 0x70040
/-- ULNK.BLIND_POLICY (R490). -/
abbrev ulnkBlindPolicy : Nat := 0x70044
/-- ULNK.LANE_EN (R494). -/
abbrev ulnkLaneEn : Nat := 0x70048
/-- ULNK.GSTAT (R472). -/
abbrev ulnkGstat : Nat := 0x7004C
/-- ULNK.DLSTAT (R486). -/
abbrev ulnkDlstat : Nat := 0x70050
/-- ULNK.DWIN_BASE (R485). -/
abbrev ulnkDwinBase : Nat := 0x70054
/-- ULNK.DWIN_LIMIT (R485). -/
abbrev ulnkDwinLimit : Nat := 0x70058
/-- ULNK.RESTRIPES (R473). -/
abbrev ulnkRestripes : Nat := 0x7005C
/-- ULNK.RSV_DISCARD (R482). -/
abbrev ulnkRsvDiscard : Nat := 0x70060
/-- ULNK.DWIN_DENY (R485). -/
abbrev ulnkDwinDeny : Nat := 0x70064
/-- ULNK.DLOST (R487). -/
abbrev ulnkDlost : Nat := 0x70068
/-- ULNK.CMD_EXEC (R484). -/
abbrev ulnkCmdExec : Nat := 0x7006C
/-- ULNK.XLOST (R43). -/
abbrev ulnkXlost : Nat := 0x70070
/-- UTX.STATE (R490). -/
abbrev utxState (p : Nat) : Nat := (0x71 + p) * 0x1000 + 0x40
/-- UTX.EQ (R497). -/
abbrev utxEq (p i : Nat) : Nat := (0x71 + p) * 0x1000 + 0x44 + i * 0x4
/-- UTX.EQ_CTL (R490). -/
abbrev utxEqCtl (p : Nat) : Nat := (0x71 + p) * 0x1000 + 0x54
/-- UTX.CMD (R490). -/
abbrev utxCmd (p : Nat) : Nat := (0x71 + p) * 0x1000 + 0x58
/-- UTX.TRAINS (R490). -/
abbrev utxTrains (p : Nat) : Nat := (0x71 + p) * 0x1000 + 0x5C
/-- UTX.LOSSES (R492). -/
abbrev utxLosses (p : Nat) : Nat := (0x71 + p) * 0x1000 + 0x60
/-- DRX.STATUS (R486). -/
abbrev drxStatus (p : Nat) : Nat := (0x83 + p) * 0x1000 + 0x40
/-- DRX.SYNC_ERR (R486). -/
abbrev drxSyncErr (p : Nat) : Nat := (0x83 + p) * 0x1000 + 0x44
/-- DRX.LOCK_LOSS (R486). -/
abbrev drxLockLoss (p : Nat) : Nat := (0x83 + p) * 0x1000 + 0x48
/-- DRX.BAD_BLOCKS (R487). -/
abbrev drxBadBlocks (p : Nat) : Nat := (0x83 + p) * 0x1000 + 0x4C
/-- DRX.SF_TAKEN (R487). -/
abbrev drxSfTaken (p : Nat) : Nat := (0x83 + p) * 0x1000 + 0x50
/-- DRX.SKEW (R487). -/
abbrev drxSkew (p : Nat) : Nat := (0x83 + p) * 0x1000 + 0x54
/-- DRX.SCAN_CTL (R498). -/
abbrev drxScanCtl (p : Nat) : Nat := (0x83 + p) * 0x1000 + 0x58
/-- DRX.SCAN_RES (R498). -/
abbrev drxScanRes (p : Nat) : Nat := (0x83 + p) * 0x1000 + 0x5C
/-- DRX.XLOST (R43). -/
abbrev drxXlost (p : Nat) : Nat := (0x83 + p) * 0x1000 + 0x60
/-- SECC.BCFG (R519). -/
abbrev seccBcfg (i : Nat) : Nat := 0x90040 + i * 0x10
/-- SECC.BSTAT (R519). -/
abbrev seccBstat (i : Nat) : Nat := 0x90044 + i * 0x10
/-- SECC.CE (R517). -/
abbrev seccCe (i : Nat) : Nat := 0x90048 + i * 0x10
/-- SECC.UE (R517). -/
abbrev seccUe (i : Nat) : Nat := 0x9004C + i * 0x10
/-- SECC.CTL (R521). -/
abbrev seccCtl : Nat := 0x90200
/-- SECC.INJECT (R523). -/
abbrev seccInject : Nat := 0x90204
/-- SECC.LOG_HEAD (R521). -/
abbrev seccLogHead : Nat := 0x90208
/-- SECC.XLOST (R43). -/
abbrev seccXlost : Nat := 0x9020C
/-- SECC.UE_EVENTS (R508). -/
abbrev seccUeEvents : Nat := 0x90210
/-- SECC.LOG (R521). -/
abbrev seccLog (i j : Nat) : Nat := 0x90400 + i * 0x10 + j * 0x4
/-- DECC.CTL (R512). -/
abbrev deccCtl : Nat := 0x91040
/-- DECC.BCFG (R519). -/
abbrev deccBcfg : Nat := 0x91044
/-- DECC.BSTAT (R519). -/
abbrev deccBstat : Nat := 0x91048
/-- DECC.CE (R517). -/
abbrev deccCe : Nat := 0x9104C
/-- DECC.UE (R517). -/
abbrev deccUe : Nat := 0x91050
/-- DECC.RMW_FAIL (R513). -/
abbrev deccRmwFail : Nat := 0x91054
/-- DECC.XLOST (R43). -/
abbrev deccXlost : Nat := 0x91058
/-- DECC.RETIRE_BASE (R526). -/
abbrev deccRetireBase : Nat := 0x9105C
/-- DECC.RETIRE_COUNT (R526). -/
abbrev deccRetireCount : Nat := 0x91060
/-- DECC.RETIRE_CTL (R526). -/
abbrev deccRetireCtl : Nat := 0x91064
/-- DECC.RETIRE_ADD (R527). -/
abbrev deccRetireAdd : Nat := 0x91068
/-- DECC.RETIRED (R527). -/
abbrev deccRetired : Nat := 0x9106C
/-- DECC.LOG_HEAD (R522). -/
abbrev deccLogHead : Nat := 0x91070
/-- DECC.INJECT (R523). -/
abbrev deccInject : Nat := 0x91074
/-- DECC.CE_PAGES (R517). -/
abbrev deccCePages : Nat := 0x91078
/-- DECC.UE_PAGES (R517). -/
abbrev deccUePages : Nat := 0x9107C
/-- DECC.REMAP (R524). -/
abbrev deccRemap (i : Nat) : Nat := 0x91100 + i * 0x4
/-- DECC.LOG (R522). -/
abbrev deccLog (i j : Nat) : Nat := 0x91400 + i * 0x20 + j * 0x4
/-- SCRUB.CTL (R528). -/
abbrev scrubCtl : Nat := 0x92040
/-- SCRUB.START_LO (R529). -/
abbrev scrubStartLo : Nat := 0x92044
/-- SCRUB.START_HI (R529). -/
abbrev scrubStartHi : Nat := 0x92048
/-- SCRUB.END_LO (R529). -/
abbrev scrubEndLo : Nat := 0x9204C
/-- SCRUB.END_HI (R529). -/
abbrev scrubEndHi : Nat := 0x92050
/-- SCRUB.PATTERN (R528). -/
abbrev scrubPattern : Nat := 0x92054
/-- SCRUB.STAT (R532). -/
abbrev scrubStat : Nat := 0x92058
/-- SCRUB.READ (R532). -/
abbrev scrubRead : Nat := 0x9205C
/-- SCRUB.CORR (R532). -/
abbrev scrubCorr : Nat := 0x92060
/-- SCRUB.UNCORR (R532). -/
abbrev scrubUncorr : Nat := 0x92064
/-- SCRUB.FIRST_LO (R532). -/
abbrev scrubFirstLo : Nat := 0x92068
/-- SCRUB.FIRST_HI (R532). -/
abbrev scrubFirstHi : Nat := 0x9206C
/-- SCRUB.LAST_LO (R532). -/
abbrev scrubLastLo : Nat := 0x92070
/-- SCRUB.LAST_HI (R532). -/
abbrev scrubLastHi : Nat := 0x92074
/-- SCRUB.ELAPSED (R532). -/
abbrev scrubElapsed : Nat := 0x92078
/-- SLOW.CFG (R534). -/
abbrev slowCfg (i : Nat) : Nat := 0xA0040 + i * 0x20
/-- SLOW.WIN (R547). -/
abbrev slowWin (i : Nat) : Nat := 0xA0044 + i * 0x20
/-- SLOW.WCFG (R547). -/
abbrev slowWcfg (i : Nat) : Nat := 0xA0048 + i * 0x20
/-- SLOW.OWDELTA (R550). -/
abbrev slowOwdelta (i : Nat) : Nat := 0xA004C + i * 0x20
/-- SLOW.STATUS (R547). -/
abbrev slowStatus (i : Nat) : Nat := 0xA0050 + i * 0x20
/-- SLOW.LAST (R540). -/
abbrev slowLast (i : Nat) : Nat := 0xA0054 + i * 0x20
/-- SLOW.INDEX (R540). -/
abbrev slowIndex (i : Nat) : Nat := 0xA0058 + i * 0x20
/-- SLOW.GOOD_DIAG (R549). -/
abbrev slowGoodDiag (i : Nat) : Nat := 0xA005C + i * 0x20
/-- SLOW.CONV (R535). -/
abbrev slowConv (i : Nat) : Nat := 0xA0800 + i * 0x4
/-- SLOW.CTL (R557). -/
abbrev slowCtl : Nat := 0xA0808
/-- SLOW.XCHK_CFG (R553). -/
abbrev slowXchkCfg : Nat := 0xA080C
/-- SLOW.STATUS_A (R553). -/
abbrev slowStatusA : Nat := 0xA0810
/-- SLOW.OPENMAP (R551). -/
abbrev slowOpenmap : Nat := 0xA0814
/-- SLOW.DMA_CTL (R559). -/
abbrev slowDmaCtl : Nat := 0xA0818
/-- SLOW.DMA_BASE_LO (R559). -/
abbrev slowDmaBaseLo : Nat := 0xA081C
/-- SLOW.DMA_BASE_HI (R559). -/
abbrev slowDmaBaseHi : Nat := 0xA0820
/-- SLOW.DMA_HEAD (R560). -/
abbrev slowDmaHead : Nat := 0xA0824
/-- SLOW.XCHK_FAIL (R555). -/
abbrev slowXchkFail : Nat := 0xA0828
/-- SLOW.DMA_DROP (R560). -/
abbrev slowDmaDrop : Nat := 0xA082C
/-- SLOW.TRIG_MISS (R542). -/
abbrev slowTrigMiss : Nat := 0xA0830
/-- SLOW.BLANKS (R557). -/
abbrev slowBlanks : Nat := 0xA0834
/-- SLOW.XLOST (R43). -/
abbrev slowXlost : Nat := 0xA0838
/-- EXC.CTL (R546). -/
abbrev excCtl : Nat := 0xA1040
/-- EXC.STATUS (R545). -/
abbrev excStatus : Nat := 0xA1044
/-- EXC.CHANGES (R546). -/
abbrev excChanges : Nat := 0xA1048
/-- SERVO.CTL (R582). -/
abbrev servoCtl (i : Nat) : Nat := 0xA2040 + i * 0x70
/-- SERVO.EXP (R568). -/
abbrev servoExp (i : Nat) : Nat := 0xA2044 + i * 0x70
/-- SERVO.OUTSEL (R575). -/
abbrev servoOutsel (i : Nat) : Nat := 0xA2048 + i * 0x70
/-- SERVO.MEAS (R571). -/
abbrev servoMeas (i j : Nat) : Nat := 0xA204C + i * 0x70 + j * 0x4
/-- SERVO.YOFF (R572). -/
abbrev servoYoff (i j : Nat) : Nat := 0xA205C + i * 0x70 + j * 0x4
/-- SERVO.HOSTY (R571). -/
abbrev servoHosty (i j : Nat) : Nat := 0xA2064 + i * 0x70 + j * 0x4
/-- SERVO.R (R566). -/
abbrev servoR (i : Nat) : Nat := 0xA206C + i * 0x70
/-- SERVO.OD_CFG (R584). -/
abbrev servoOdCfg (i : Nat) : Nat := 0xA2070 + i * 0x70
/-- SERVO.STALE_MAX (R582). -/
abbrev servoStaleMax (i : Nat) : Nat := 0xA2074 + i * 0x70
/-- SERVO.STATUS (R582). -/
abbrev servoStatus (i : Nat) : Nat := 0xA2078 + i * 0x70
/-- SERVO.CMD (R582). -/
abbrev servoCmd (i : Nat) : Nat := 0xA207C + i * 0x70
/-- SERVO.X (R566). -/
abbrev servoX (i j : Nat) : Nat := 0xA2080 + i * 0x70 + j * 0x4
/-- SERVO.U (R566). -/
abbrev servoU (i : Nat) : Nat := 0xA208C + i * 0x70
/-- SERVO.Y (R566). -/
abbrev servoY (i j : Nat) : Nat := 0xA2090 + i * 0x70 + j * 0x4
/-- SERVO.SAT (R570). -/
abbrev servoSat (i : Nat) : Nat := 0xA2098 + i * 0x70
/-- SERVO.STALE_RUN (R574). -/
abbrev servoStaleRun (i : Nat) : Nat := 0xA209C + i * 0x70
/-- SERVO.CYCLES (R566). -/
abbrev servoCycles (i : Nat) : Nat := 0xA20A0 + i * 0x70
/-- SERVO.ERRS (R581). -/
abbrev servoErrs (i : Nat) : Nat := 0xA20A4 + i * 0x70
/-- SERVO.OBASE (R575). -/
abbrev servoObase (i : Nat) : Nat := 0xA2800 + i * 0x10
/-- SERVO.MAN (R577). -/
abbrev servoMan (i : Nat) : Nat := 0xA2804 + i * 0x10
/-- SERVO.SAFE (R577). -/
abbrev servoSafe (i : Nat) : Nat := 0xA2808 + i * 0x10
/-- SERVO.CODE (R577). -/
abbrev servoCode (i : Nat) : Nat := 0xA280C + i * 0x10
/-- SVCOEF.COEF (R588). -/
abbrev svcoefCoef (i j : Nat) : Nat := 0xA3040 + i * 0xE0 + j * 0x4
/-- LIGHT.SCFG (R594). -/
abbrev lightScfg (i : Nat) : Nat := 0xA4040 + i * 0x10
/-- LIGHT.SSTATUS (R594). -/
abbrev lightSstatus (i : Nat) : Nat := 0xA4044 + i * 0x10
/-- LIGHT.SVSNK (R592). -/
abbrev lightSvsnk (i : Nat) : Nat := 0xA4048 + i * 0x10
/-- LIGHT.CTL (R597). -/
abbrev lightCtl : Nat := 0xA4800
/-- LIGHT.GLOW (R594). -/
abbrev lightGlow : Nat := 0xA4804
/-- LIGHT.SPRINKLE (R595). -/
abbrev lightSprinkle : Nat := 0xA4808
/-- LIGHT.SPR_CUR (R595). -/
abbrev lightSprCur : Nat := 0xA480C
/-- LIGHT.BOOST (R591). -/
abbrev lightBoost : Nat := 0xA4810
/-- LIGHT.HEAD (R592). -/
abbrev lightHead : Nat := 0xA4814
/-- LIGHT.RATIO (R599). -/
abbrev lightRatio : Nat := 0xA4818
/-- LIGHT.TRIM (R599). -/
abbrev lightTrim : Nat := 0xA481C
/-- LIGHT.PD_AVG (R599). -/
abbrev lightPdAvg : Nat := 0xA4820
/-- LIGHT.STATUS (R603). -/
abbrev lightStatus : Nat := 0xA4824
/-- LIGHT.FAULT (R602). -/
abbrev lightFault : Nat := 0xA4828
/-- LIGHT.CMD (R603). -/
abbrev lightCmd : Nat := 0xA482C
/-- LIGHT.STRETCHES (R598). -/
abbrev lightStretches : Nat := 0xA4830
/-- LIGHT.COUNTS (R602). -/
abbrev lightCounts : Nat := 0xA4834
/-- STW.ROLE (R608). -/
abbrev stwRole : Nat := 0xA040
/-- STW.CFG (R609). -/
abbrev stwCfg : Nat := 0xA044
/-- STW.MEMLIM (R609). -/
abbrev stwMemlim : Nat := 0xA048
/-- STW.STPERIOD (R609). -/
abbrev stwStperiod : Nat := 0xA04C
/-- STW.BOOT (R612). -/
abbrev stwBoot : Nat := 0xA050
/-- STW.CMD (R619). -/
abbrev stwCmd : Nat := 0xA054
/-- STW.SWAP_DB (R619). -/
abbrev stwSwapDb : Nat := 0xA058
/-- STW.HCFG (R622). -/
abbrev stwHcfg : Nat := 0xA05C
/-- STW.HQ (R622). -/
abbrev stwHq : Nat := 0xA060
/-- STW.DIAG_A (R609). -/
abbrev stwDiagA : Nat := 0xA064
/-- STW.DIAG_B (R609). -/
abbrev stwDiagB : Nat := 0xA068
/-- STW.KICK (R609). -/
abbrev stwKick : Nat := 0xA06C
/-- STW.ALU_SIG (R609). -/
abbrev stwAluSig : Nat := 0xA070
/-- STW.ALU_KA (R609). -/
abbrev stwAluKa : Nat := 0xA074
/-- STW.TAKEOVERS (R611). -/
abbrev stwTakeovers : Nat := 0xA078
/-- STW.SWAPS (R619). -/
abbrev stwSwaps : Nat := 0xA07C
/-- STW.SWAP_REFUSED (R619). -/
abbrev stwSwapRefused : Nat := 0xA080
/-- STW.REJOINS (R608). -/
abbrev stwRejoins : Nat := 0xA084
/-- STW.TAKE_LO (R613). -/
abbrev stwTakeLo : Nat := 0xA088
/-- STW.TAKE_HI (R613). -/
abbrev stwTakeHi : Nat := 0xA08C
/-- STW.TAKE_US (R613). -/
abbrev stwTakeUs : Nat := 0xA090
/-- STW.XLOST (R43). -/
abbrev stwXlost : Nat := 0xA094
/-- STW.MIR_CNT (R618). -/
abbrev stwMirCnt : Nat := 0xA098
/-- STW.MIR_SENT (R617). -/
abbrev stwMirSent : Nat := 0xA09C
/-- STW.TEL_LIST (R626). -/
abbrev stwTelList (i : Nat) : Nat := 0xA400 + i * 0x4
/-- IDM.STAT (R628). -/
abbrev idmStat (i : Nat) : Nat := 0xB040 + i * 0x4
/-- IDM.CMD (R628). -/
abbrev idmCmd : Nat := 0xB080
/-- IDM.RECORD (R628). -/
abbrev idmRecord (i j : Nat) : Nat := 0xB400 + i * 0x40 + j * 0x4
/-- IDM.EXPECT_LO (R630). -/
abbrev idmExpectLo (i : Nat) : Nat := 0xB800 + i * 0x8
/-- IDM.EXPECT_HI (R630). -/
abbrev idmExpectHi (i : Nat) : Nat := 0xB804 + i * 0x8
/-- GUARD.STATUS (R632). -/
abbrev guardStatus : Nat := 0xC040
/-- GUARD.THERM (R632). -/
abbrev guardTherm : Nat := 0xC044
/-- GUARD.TBUS (R633). -/
abbrev guardTbus : Nat := 0xC048
/-- GUARD.LANES (R631). -/
abbrev guardLanes : Nat := 0xC04C
/-- GUARD.LIGHT (R631). -/
abbrev guardLight : Nat := 0xC050
/-- GUARD.IMAX (R631). -/
abbrev guardImax (i : Nat) : Nat := 0xC054 + i * 0x4
/-- GUARD.RAIL (R631). -/
abbrev guardRail : Nat := 0xC05C
/-- GUARD.TEMP_MAX (R632). -/
abbrev guardTempMax : Nat := 0xC060
/-- GUARD.THERM_TRIPS (R632). -/
abbrev guardThermTrips : Nat := 0xC064
/-- GUARD.BIAS (R631). -/
abbrev guardBias (i : Nat) : Nat := 0xC100 + i * 0x4
/-- GUARD.F_THERM (R634). -/
abbrev guardFTherm : Nat := 0xC244
/-- GUARD.F_TBUS (R634). -/
abbrev guardFTbus : Nat := 0xC248
/-- GUARD.F_LANES (R634). -/
abbrev guardFLanes : Nat := 0xC24C
/-- GUARD.F_LIGHT (R634). -/
abbrev guardFLight : Nat := 0xC250
/-- GUARD.F_IMAX (R634). -/
abbrev guardFImax (i : Nat) : Nat := 0xC254 + i * 0x4
/-- GUARD.F_RAIL (R634). -/
abbrev guardFRail : Nat := 0xC25C
/-- GUARD.F_BIAS (R634). -/
abbrev guardFBias (i : Nat) : Nat := 0xC300 + i * 0x4
/-- GUARD.FUSE_CTL (R635). -/
abbrev guardFuseCtl : Nat := 0xC600
/-- CFG.STATUS (R639). -/
abbrev cfgStatus : Nat := 0x1040
/-- CFG.SEQ (R650). -/
abbrev cfgSeq (i : Nat) : Nat := 0x1044 + i * 0x4
/-- CFG.IMAGE_VER (R650). -/
abbrev cfgImageVer : Nat := 0x104C
/-- CFG.CHECK (R650). -/
abbrev cfgCheck : Nat := 0x1050
/-- CFG.FMT (R647). -/
abbrev cfgFmt : Nat := 0x1054
/-- CFG.REC (R649). -/
abbrev cfgRec : Nat := 0x1058
/-- CFG.FAIL_OFF (R649). -/
abbrev cfgFailOff : Nat := 0x105C
/-- CFG.T_INIT (R639). -/
abbrev cfgTInit : Nat := 0x1060
/-- CFG.FLASH_ID (R637). -/
abbrev cfgFlashId : Nat := 0x1064
/-- UPD.SESSION (R658). -/
abbrev updSession : Nat := 0x9040
/-- UPD.SRES (R658). -/
abbrev updSres : Nat := 0x9044
/-- UPD.SSTAT (R660). -/
abbrev updSstat : Nat := 0x9048
/-- UPD.SRC (R661). -/
abbrev updSrc : Nat := 0x904C
/-- UPD.LEN (R661). -/
abbrev updLen : Nat := 0x9050
/-- UPD.OP (R661). -/
abbrev updOp : Nat := 0x9054
/-- UPD.OPRES (R661). -/
abbrev updOpres : Nat := 0x9058
/-- UPD.ARM (R663). -/
abbrev updArm : Nat := 0x905C
/-- UPD.ACT (R664). -/
abbrev updAct : Nat := 0x9060
/-- UPD.CONFIRM (R667). -/
abbrev updConfirm : Nat := 0x9064
/-- UPD.TRIAL_S (R664). -/
abbrev updTrialS : Nat := 0x9068
/-- UPD.BANKS (R638). -/
abbrev updBanks : Nat := 0x906C
/-- UPD.FWVER (R638). -/
abbrev updFwver (i : Nat) : Nat := 0x9070 + i * 0x4
/-- UPD.RDV_LO (R665). -/
abbrev updRdvLo : Nat := 0x9078
/-- UPD.RDV_HI (R665). -/
abbrev updRdvHi : Nat := 0x907C
/-- UPD.COUNTS (R664). -/
abbrev updCounts : Nat := 0x9080
/-- UPD.LAST (R664). -/
abbrev updLast : Nat := 0x9084
/-- UPD.KEYS (R657). -/
abbrev updKeys : Nat := 0x9088
/-- UPD.KEY_FUSE (R657). -/
abbrev updKeyFuse : Nat := 0x908C
/-- AGE.CTL (R704). -/
abbrev ageCtl : Nat := 0x8040
/-- AGE.PERIOD_D (R708). -/
abbrev agePeriodD : Nat := 0x8044
/-- AGE.NEXT_LO (R708). -/
abbrev ageNextLo : Nat := 0x8048
/-- AGE.NEXT_HI (R708). -/
abbrev ageNextHi : Nat := 0x804C
/-- AGE.RCFG (R711). -/
abbrev ageRcfg : Nat := 0x8050
/-- AGE.LCFG (R712). -/
abbrev ageLcfg : Nat := 0x8054
/-- AGE.STAT (R708). -/
abbrev ageStat : Nat := 0x8058
/-- AGE.CORE (R705). -/
abbrev ageCore : Nat := 0x805C
/-- AGE.EOM (R713). -/
abbrev ageEom : Nat := 0x8060
/-- AGE.LAST_LO (R713). -/
abbrev ageLastLo : Nat := 0x8064
/-- AGE.LAST_HI (R713). -/
abbrev ageLastHi : Nat := 0x8068
/-- AGE.DURATION (R713). -/
abbrev ageDuration : Nat := 0x806C
/-- AGE.COUNTS (R711). -/
abbrev ageCounts : Nat := 0x8070
/-- AGE.SEU_HUB (R714). -/
abbrev ageSeuHub : Nat := 0x8074
/-- AGE.DEFER (R709). -/
abbrev ageDefer : Nat := 0x8078
/-- AGE.COUNT (R705). -/
abbrev ageCount (i : Nat) : Nat := 0x8100 + i * 0x8
/-- AGE.OMARGIN (R705). -/
abbrev ageOmargin (i : Nat) : Nat := 0x8104 + i * 0x8
/-- AGE.CCRIT (R705). -/
abbrev ageCcrit (i : Nat) : Nat := 0x8200 + i * 0x4
/-- AGE.DLY (R706). -/
abbrev ageDly (i : Nat) : Nat := 0x8300 + i * 0x10
/-- AGE.DREF (R706). -/
abbrev ageDref (i : Nat) : Nat := 0x8304 + i * 0x10
/-- AGE.TEYE (R707). -/
abbrev ageTeye (i : Nat) : Nat := 0x8308 + i * 0x10
/-- AGE.PRESET (R707). -/
abbrev agePreset (i : Nat) : Nat := 0x830C + i * 0x10
/-- AGE.DEYE (R707). -/
abbrev ageDeye (i : Nat) : Nat := 0x8400 + i * 0x4

end Sys2Proof.Reg

namespace Sys2Proof.Pg

/-- Page SYS (R84). -/
abbrev sys : Nat := 0x0
/-- Page CFG (R84). -/
abbrev cfg : Nat := 0x1
/-- Page OWN (R84). -/
abbrev own : Nat := 0x2
/-- Page IRQ (R84). -/
abbrev irq : Nat := 0x3
/-- Page MODE (R84). -/
abbrev mode : Nat := 0x4
/-- Page CLK (R84). -/
abbrev clk : Nat := 0x5
/-- Page TIME (R84). -/
abbrev time : Nat := 0x6
/-- Page TIU (R84). -/
abbrev tiu : Nat := 0x7
/-- Page AGE (R84). -/
abbrev age : Nat := 0x8
/-- Page UPD (R84). -/
abbrev upd : Nat := 0x9
/-- Page STW (R84). -/
abbrev stw : Nat := 0xA
/-- Page IDM (R84). -/
abbrev idm : Nat := 0xB
/-- Page GUARD (R84). -/
abbrev guard : Nat := 0xC
/-- Page TILE of instance `n` (R84). -/
abbrev tile (n : Nat) : Nat := 0x10 + n
/-- Page TLNK (R84). -/
abbrev tlnk : Nat := 0x20
/-- Page TRIG (R84). -/
abbrev trig : Nat := 0x30
/-- Page COINC (R84). -/
abbrev coinc : Nat := 0x31
/-- Page TPATH (R84). -/
abbrev tpath : Nat := 0x32
/-- Page TBUS (R84). -/
abbrev tbus : Nat := 0x33
/-- Page LRING (R84). -/
abbrev lring : Nat := 0x40
/-- Page HAMP (R84). -/
abbrev hamp : Nat := 0x41
/-- Page TAIL (R84). -/
abbrev tail : Nat := 0x42
/-- Page RLE (R84). -/
abbrev rle : Nat := 0x43
/-- Page ENG (R84). -/
abbrev eng : Nat := 0x50
/-- Page ECL of instance `n` (R84). -/
abbrev ecl (n : Nat) : Nat := 0x51 + n
/-- Page EVB (R84). -/
abbrev evb : Nat := 0x60
/-- Page QUE (R84). -/
abbrev que : Nat := 0x61
/-- Page QDEV (R84). -/
abbrev qdev : Nat := 0x62
/-- Page QCMD (R84). -/
abbrev qcmd : Nat := 0x63
/-- Page ULNK (R84). -/
abbrev ulnk : Nat := 0x70
/-- Page UTX of instance `n` (R84). -/
abbrev utx (n : Nat) : Nat := 0x71 + n
/-- Page DRX of instance `n` (R84). -/
abbrev drx (n : Nat) : Nat := 0x83 + n
/-- Page SECC (R84). -/
abbrev secc : Nat := 0x90
/-- Page DECC (R84). -/
abbrev decc : Nat := 0x91
/-- Page SCRUB (R84). -/
abbrev scrub : Nat := 0x92
/-- Page SLOW (R84). -/
abbrev slow : Nat := 0xA0
/-- Page EXC (R84). -/
abbrev exc : Nat := 0xA1
/-- Page SERVO (R84). -/
abbrev servo : Nat := 0xA2
/-- Page SVCOEF (R84). -/
abbrev svcoef : Nat := 0xA3
/-- Page LIGHT (R84). -/
abbrev light : Nat := 0xA4
/-- Page PCIE of instance `n` (R84). -/
abbrev pcie (n : Nat) : Nat := 0xB0 + n
/-- Page CHAN of instance `n` (R84). -/
abbrev chan (n : Nat) : Nat := 0x100 + n

end Sys2Proof.Pg
end

