-- ==== Sys2Proof/Machine/Bits.lean ====
section
/-!
DEFINITION. Bit fields (R13), bytes (R14), checksums and the sparse stores that hold registers and tables.
-/
namespace Sys2Proof.Machine

/-- Bits `hi` down to `lo` of a natural number (R13). -/
def nfld (n hi lo : Nat) : Nat := (n >>> lo) % 2 ^ (hi + 1 - lo)

/-- Field `[hi:lo]` of a word (R13). -/
def wfld (w : Word) (hi lo : Nat) : Nat := nfld w.toNat hi lo

/-- A word with field `[hi:lo]` replaced by the low bits of `v`. -/
def setFld (w : Word) (hi lo v : Nat) : Word :=
  let m := 2 ^ (hi + 1 - lo)
  BitVec.ofNat 32 (w.toNat - ((w.toNat >>> lo) % m) * 2 ^ lo + (v % m) * 2 ^ lo)

/-- A 64-bit word with field `[hi:lo]` read. -/
def dfld (w : DWord) (hi lo : Nat) : Nat := nfld w.toNat hi lo

/-- A word with bit `i` set or cleared. -/
def setBit (w : Word) (i : Nat) (b : Bool) : Word :=
  if b then w ||| BitVec.ofNat 32 (2 ^ i) else w &&& ~~~(BitVec.ofNat 32 (2 ^ i))

/-- The word whose value is `n` modulo 2^32. -/
abbrev word (n : Nat) : Word := BitVec.ofNat 32 n

/-- The signed value of the low `bits` bits of `n`. -/
def signed (bits n : Nat) : Int :=
  let m := n % 2 ^ bits
  if m < 2 ^ (bits - 1) then (m : Int) else (m : Int) - (2 ^ bits : Nat)

/-- The `bits`-bit two's complement pattern of an integer. -/
def unsigned (bits : Nat) (z : Int) : Nat := (z % ((2 ^ bits : Nat) : Int)).toNat

/-- `z` limited to the signed range of `bits` bits. -/
def satSigned (bits : Nat) (z : Int) : Int :=
  let m : Int := ((2 ^ (bits - 1) : Nat) : Int)
  if z < -m then -m else if m ≤ z then m - 1 else z

/-- A word of `n` bits built from fields, most significant first: each entry is (width, value). -/
def packFields (fs : List (Nat × Nat)) : Nat :=
  fs.foldl (fun acc f => acc * 2 ^ f.1 + f.2 % 2 ^ f.1) 0

/-- The four bytes of a word, lowest address first (R14). -/
def wordBytes (w : Word) : List Byte :=
  [w.extractLsb' 0 8, w.extractLsb' 8 8, w.extractLsb' 16 8, w.extractLsb' 24 8]

/-- `n` bytes of a natural number, lowest address first (R14). -/
def leBytes : Nat → Nat → List Byte
  | 0, _ => []
  | n + 1, v => BitVec.ofNat 8 v :: leBytes n (v / 256)

/-- The natural number that bytes stand for, lowest address first (R14). -/
def leNat : List Byte → Nat
  | [] => 0
  | b :: r => b.toNat + 256 * leNat r

/-- The number of 1 bits among the low `n` bits of `v`. -/
def popCount : Nat → Nat → Nat
  | 0, _ => 0
  | n + 1, v => v % 2 + popCount n (v / 2)

/-- One bit step of the reflected CRC-32C register. -/
def crc32cBit (c : Nat) : Nat := if c % 2 = 1 then Nat.xor (c / 2) 0x82F63B78 else c / 2

/-- One byte of the reflected CRC-32C register. -/
def crc32cByte (c : Nat) (b : Byte) : Nat :=
  crc32cBit (crc32cBit (crc32cBit (crc32cBit (crc32cBit (crc32cBit (crc32cBit (crc32cBit (Nat.xor c b.toNat))))))))

/-- CRC-32C (Castagnoli): initial value and final XOR all ones, so that the CRC of no data is 0 (R718). -/
def crc32c (bs : List Byte) : Word :=
  word (Nat.xor (bs.foldl crc32cByte 0xFFFFFFFF) 0xFFFFFFFF)

/-- The value at key `k` of a sparse store whose unlisted keys hold `d`. -/
def sget {α : Type} (d : α) (k : Nat) : List (Nat × α) → α
  | [] => d
  | (k', v) :: r => if k' = k then v else sget d k r

/-- Inserts or replaces key `k`, in rising key order. -/
def sins {α : Type} (k : Nat) (v : α) : List (Nat × α) → List (Nat × α)
  | [] => [(k, v)]
  | (k', v') :: r =>
    if k < k' then (k, v) :: (k', v') :: r
    else if k' = k then (k, v) :: r
    else (k', v') :: sins k v r

/-- Stores `v` at key `k`; storing the default `d` removes the key, so that equal stores are equal lists. -/
def sset {α : Type} [DecidableEq α] (d : α) (k : Nat) (v : α) (m : List (Nat × α)) : List (Nat × α) :=
  if v = d then m.filter (fun p => p.1 ≠ k) else sins k v m

/-- The canonical form of a sparse store: keys strictly rising and no entry equal to the default of its key. -/
def swf {α : Type} [DecidableEq α] (d : Nat → α) : List (Nat × α) → Bool
  | [] => true
  | [(k, v)] => decide (v ≠ d k)
  | (k, v) :: (k', v') :: r => decide (k < k') && decide (v ≠ d k) && swf d ((k', v') :: r)

/-- Element `i` of a list of numbers, 0 beyond its end. -/
def nth (l : List Nat) (i : Nat) : Nat := l.getD i 0

/-- A list with element `i` replaced (nothing happens beyond its end). -/
def setNth {α : Type} : List α → Nat → α → List α
  | [], _, _ => []
  | _ :: r, 0, v => v :: r
  | x :: r, i + 1, v => x :: setNth r i v

end Sys2Proof.Machine
end

