-- ==== Sys2Proof/Machine/State.lean ====
section
/-!
DEFINITION. The state of the module as plain data: every register (in one sparse store keyed by BAR0 offset, whose
unlisted entries hold the reset value of the register tables), and every buffer, queue, memory, mode and timer the manual
gives the module beside its registers.
-/
namespace Sys2Proof.Machine

/-- Why the module would stop. The manual gives every command of the table an effect, so no meaning raises a fault. -/
inductive Fault where
  /-- Raised by no meaning: it keeps the type inhabited. Safe. -/
  | none
  deriving DecidableEq, Repr

/-- Why a command is not run. -/
inductive Refusal where
  /-- A row of the opcode table without a meaning yet, by its mnemonic. Raised by the dispatch only. Safe. -/
  | notModelled (mnemonic : String)
  deriving DecidableEq, Repr

/-- The two ordering variants (R1). -/
inductive Variant where
  | t
  | s
  deriving DecidableEq, Repr

/-- What has left the module, in order: the model's own record of its outputs. -/
inductive Output where
  /-- Data returned for a register read (R21, R23). -/
  | readData (r : Requester) (addr : Nat) (v : Word)
  /-- An MSI-X message: its address and data from the table (R113). -/
  | msix (p : Fin 2) (vec : Nat) (addr : Nat) (data : Word)
  /-- An Unsupported Request: completed to a read, or reported through AER for a write (R78). -/
  | unsupported (p : Fin 2) (isWrite : Bool) (off : Nat)
  /-- A BAR2 or BAR4 completion with its data and its poisoned bit (R81). -/
  | completion (p : Fin 2) (data : List Byte) (poisoned : Bool)
  /-- An error reported through AER by a port (R78, R81). -/
  | aer (p : Fin 2)
  /-- Bytes written to host memory by DMA through a port. -/
  | hostWrite (p : Fin 2) (addr : Nat) (data : List Byte)
  /-- A block on an uplink lane: its position in the superframe or cycle, its kind (0 data word, 1 IDLE, 2 AM, 3 CC, 4 ABORT,
  5 FMARK) and its word or payload (R465 to R471). -/
  | laneUnit (lane : Nat) (pos : Nat) (kind : Nat) (payload : DWord)
  /-- `n` IDLE blocks on a data lane, from position `pos` of the superframe or cycle on (R465). -/
  | laneIdle (lane : Nat) (pos n : Nat)
  /-- A command-class frame on the uplink: its type and content (R471, R474, R622). -/
  | ccFrame (type : Nat) (data : List Byte)
  /-- A message or NULL on the trigger bus in the module's own slot: on each pair that is enabled its payload and the launch of
  its alignment marker in bins (R329, R331, R341). The copies differ in the B of a MEASURE_REPLY alone (R339). -/
  | tbus (copy0 copy1 : Option (Nat × Int))
  /-- A block that a tile sends on a lane of its link: its sync header and payload (R272, R273). -/
  | tileBlock (tile lane sync : Nat) (payload : DWord)
  /-- A configuration frame sent on a tile control bus (R295, R296). -/
  | tileFrame (tile : Nat) (addr : Nat) (data : Word)
  /-- A TIME_OUT pulse: its first tick and its width (R179). -/
  | timeOut (start : Nat) (width : Nat)
  /-- A PMBus transaction: address, page, command and the word written (R711). -/
  | pmbus (addr page cmd val : Nat)
  /-- A record handed to BAR2 read-out or a queue outside the structures held here. -/
  | note (what : Nat) (arg : Nat)
  deriving DecidableEq, Repr

/-- The state of a page's ownership (R97). -/
inductive Owner where
  | fixed
  | free
  | held (d : Dom)
  deriving DecidableEq, Repr

/-- What the host sets in a function's configuration space, as PCI Express lays it out (R73, R77; PRESUMED, log 65). -/
structure PcieCfg where
  /-- The addresses in the base address registers BAR0, BAR2 and BAR4, multiples of their sizes. -/
  bar0 : Nat := 0
  bar2 : Nat := 0
  bar4 : Nat := 0
  /-- Max Payload Size and Max Read Request Size in bytes. -/
  payload : Nat := 128
  readRequest : Nat := 512
  /-- ASPM L1 is enabled. -/
  aspmL1 : Bool := false
  /-- The Completion Timeout Value code. -/
  timeout : Nat := 0
  deriving DecidableEq, Repr

/-- A PCI Express port: link, power state, configuration space and MSI-X (R72 to R77, R115). -/
structure Port where
  linkUp : Bool := false
  /-- The function is in D3hot (R75). -/
  d3 : Bool := false
  /-- MSI-X is enabled, and all its vectors are masked together (R115). -/
  msixEn : Bool := false
  funcMask : Bool := false
  /-- What the host has set in the configuration space (R73, R77). -/
  cfg : PcieCfg := {}
  /-- The MSI-X table words that differ from their reset value, by byte offset in page 0xFFE. -/
  table : List (Nat × Word) := []
  /-- The pending-bit array. -/
  pba : BitVec 64 := 0
  deriving DecidableEq, Repr

/-- An access held for an island or a page: a write of `v`, or a read. -/
structure HeldWrite where
  dom : Dom
  addr : Nat
  val : Word
  /-- The requester of a held read; none for a write. -/
  reader : Option Requester := none
  /-- The command queue or the steward that sent a held write. -/
  who : Option Requester := none
  deriving DecidableEq, Repr

/-- The register fabric: ownership, crossings, latches and what waits on a stopped island or a page reset. -/
structure FabricSt where
  /-- Pages whose ownership differs from their reset state (R100). -/
  own : List (Nat × Owner) := []
  /-- Pages that the configuration image made FIXED (R100, R649). -/
  cfgFixed : List Nat := []
  /-- OWN.RESULT of each domain (one copy per domain). -/
  result : List (Nat × Word) := []
  /-- SYS.ISLAND_STOPPED of each domain (R23). -/
  stoppedSeen : List (Nat × Word) := []
  /-- UPD.SRES of each domain (R658). -/
  sres : List (Nat × Word) := []
  /-- Each requester's HI latch: the HI address it holds and its value (R21). -/
  latch : List (Nat × (Nat × Word)) := []
  /-- Islands whose clock has stopped (R40). -/
  stopped : BitVec 28 := 0
  /-- Islands held in reset (R37, R719). -/
  inReset : BitVec 28 := 0xFFFFFFF
  /-- Islands whose crossings are sealed (R37, R38). -/
  isSealed : BitVec 28 := 0
  /-- Accesses held for each stopped island, oldest first: at most 8 writes (R91), and reads that wait for writes of their
  port (R90). -/
  held : List (Nat × List HeldWrite) := []
  /-- Accesses held for each page whose page reset is under way (R90, R94). -/
  srstHeld : List (Nat × List HeldWrite) := []
  /-- Reads of a port that wait for its writes held at a tile's full command queue (R90, R298). -/
  portWait : List HeldWrite := []
  /-- Declared degradations in force (R58): bits 15:0 a tile link on 3 lanes, 19:16 a data group short of lanes, 20 a
  trigger-primitive lane, 21 a downlink lane, 22 compatibility, 23 Calibrate, 39:24 a tile with a quenched channel. -/
  degraded : BitVec 40 := 0
  /-- Pulses of queue interrupt sources that a port has taken: port and queue (R453). -/
  pulses : List (Nat × Nat) := []
  /-- `up` at which the reset of each island began (R719), and until which a warm reset lasts for host accesses (R96). -/
  resetAt : List (Nat × Nat) := []
  warmEnd : Nat := 0
  /-- The ports answer configuration requests with Retry Status (R642). -/
  cfgRetry : Bool := true
  /-- The two ports (R72). -/
  port0 : Port := {}
  port1 : Port := {}
  deriving DecidableEq, Repr

/-- What the mode logic holds beside the MODE page (R126 to R148). -/
structure ModeSt where
  /-- The domain of the pending request (MODE.CAUSE.DOMAIN, R137). -/
  pendDom : Nat := 0
  /-- An Umbra-to-Idle preparation is under way (R129). -/
  prep : Bool := false
  /-- The preparation of the pending Umbra-to-Idle request has completed (R129). -/
  prepDone : Bool := false
  /-- Bit c is set while fatal cause c lasts (R140). -/
  fatal : BitVec 16 := 0
  /-- FAULT_N is asserted (R141, R142). -/
  faultN : Bool := false
  /-- The mode in force from each frame on, newest first: (first frame, mode, Tail overlay) (R130). -/
  hist : List (Nat × Nat × Bool) := [(0, 0, false)]
  deriving DecidableEq, Repr

/-- A conversion start, servo cycle, light-class change or rendezvous on its way to its block (R178, R179). -/
structure TimeAct where
  /-- ACTION and ARG of the compare, its number, and the target tick that the action carries. -/
  code : Nat
  arg : Nat
  unit : Nat
  target : Nat
  /-- `up` at the firing edge, or at the end of a stop of its crossing, and the ticks by which the firing was late. -/
  fired : Nat := 0
  late : Nat := 0
  deriving DecidableEq, Repr

/-- The time bases (R149 to R176) and what the TIME and XTAL islands hold beside their registers. -/
structure TimeSt where
  /-- MTIME and WTIME count (from the first lock of the master PLL, R156; halted as R176 says). -/
  running : Bool := false
  /-- MTIME, a 64-bit tick count. -/
  mtime : Nat := 0
  /-- Ticks since the first lock of the master PLL, whatever SYNC did to MTIME: it paces WTIME's steps (R166). -/
  up : Nat := 0
  /-- WTIME with its 32-bit fraction (R166). -/
  wacc : Nat := 0
  /-- The crystal oscillates (R723, R176). -/
  xtal : Bool := false
  /-- XTIME with its 32-bit fraction (R154). -/
  xacc : Nat := 0
  /-- The frame in progress (R8, R724). -/
  frame : Nat := 0
  /-- The next frame number whose start will be taken (R724). -/
  frameNext : Nat := 1
  /-- TIME.WINC_LO as staged by its last write (R167). -/
  wincStage : Option Word := none
  /-- First tick after the TIME_OUT pulse in progress (R179). -/
  outEnd : Option Nat := none
  /-- `up` at the start of the holdover in force (R173, R174). -/
  holdStart : Nat := 0
  /-- REF is lost (R172); it is lost without holdover where the crystal has stopped (R176). -/
  refLost : Bool := false
  /-- While the PLL runs on the crystal: what has run of the crystal period in progress, in units of 2^-32 tick (R173). -/
  holdRem : Nat := 0
  /-- Conversion starts, servo cycles, light-class changes and rendezvous on their way to their blocks:
  the oldest first (R178, R179). -/
  acts : List TimeAct := []
  deriving DecidableEq, Repr

/-- A hit in formation in a channel's hit former (R230, R247, R727). Times are in bins from the MTIME epoch. -/
structure HitForm where
  lead : Nat
  thu : Option Nat := none
  injected : Bool := false
  pile : Bool := false
  /-- The leading edge passed the mask and quench gate and no source run was under way (R729). -/
  passed : Bool := true
  /-- The TIMEOUT condition has been decided (R299). -/
  timedOut : Bool := false
  deriving DecidableEq, Repr

/-- A hit word that waits for its release into the derandomiser (R204): the word, its frame, its earliest release. -/
structure DoneHit where
  word : DWord
  frame : Nat
  release : Nat
  deriving DecidableEq, Repr

/-- One channel of a tile: discriminators, hit former, rate cap, derandomiser and rate monitor (R203 to R214). -/
structure Chan where
  thlHigh : Bool := false
  thuHigh : Bool := false
  /-- Last accepted edge of each discriminator, and last accepted THL leading edge, in bins. -/
  thlLast : Option Nat := none
  thuLast : Option Nat := none
  leadLast : Option Nat := none
  /-- Last accepted THU leading edge as captured, for a hit that starts within 64 bins of it: tick and raw code (R229,
  R247). -/
  thuLead : Option (Nat × Nat) := none
  /-- The hit in formation (R204). -/
  hit : Option HitForm := none
  /-- PILE for the next hit word (R203). -/
  pileNext : Bool := false
  /-- Hits that have closed and wait for their release (R204). -/
  done : List DoneHit := []
  /-- The derandomiser, oldest first: frame and word, at most 8 (R205). -/
  derand : List (Nat × DWord) := []
  /-- Token bucket in units of 1/200,000 token, the tick it was last brought up to (R206). -/
  tokens : Nat := 0
  tokTick : Nat := 0
  /-- The rate monitor: THL leading edges of the window in progress, and successive quiet windows (R207, R211). -/
  count : Nat := 0
  quiet : Nat := 0
  /-- First frame of the window in progress, and whether it is a partial window (R207, R728). -/
  winStart : Nat := 0
  part : Bool := false
  /-- The channel is quenched (R208). -/
  quenched : Bool := false
  deriving DecidableEq, Repr

/-- What a tile counts for the header that follows a frame (R253, R254). -/
structure FrameCnt where
  hits : Nat := 0
  drops : Nat := 0
  markers : Nat := 0
  pile : Nat := 0
  deriving DecidableEq, Repr

/-- One Filien tile beside its channels (R216 to R254, R275 to R281, R295 to R304). -/
structure Tile where
  /-- `up` at which the supply is to be switched on (R221). -/
  onAt : Option Nat := none
  /-- `up` at entry to RAMP (R221). -/
  rampAt : Nat := 0
  /-- Frame in which the rate monitors began to count, at entry to CALIB (R207). -/
  monFrom : Nat := 0
  /-- Successive read-back mismatches (R221). -/
  mismatches : Nat := 0
  /-- The tile's own copies of its configuration fields, by the BAR0 address of the shadow (R228). -/
  cfg : List (Nat × Word) := []
  /-- THR and CHAN.CFG words whose thresholds are in effect (R200). -/
  thr : List (Nat × Word) := []
  /-- A threshold or trim has arrived since the last frame start (R200). -/
  thrNew : Bool := false
  /-- Commands queued for the control bus, oldest first, at most 64, and commands of the hub's own, and of writes to other
  pages, that wait for a place in that queue (R288, R298). -/
  cbus : List (Nat × Word) := []
  cbusMore : List (Nat × Word) := []
  /-- Accepted writes to the TILE or CHAN page held while the queue is full (R298). -/
  cbusHeld : List HeldWrite := []
  /-- A source run is requested for the next frame start, or under way (R240, R241). -/
  runReq : Bool := false
  running : Bool := false
  /-- Calibration tables in use, by interpolator: bin of each raw code (R236). -/
  luts : List (Nat × List Nat) := []
  /-- The first frame converted with them, and the tables of the frames before it (R244). -/
  lutsFrom : Nat := 0
  lutsOld : List (Nat × List Nat) := []
  /-- Background conversions gathered so far, by interpolator: how often each raw code came (R243). -/
  bgHist : List (Nat × List (Nat × Nat)) := []
  /-- Tables that take effect at the next frame start (R244). -/
  lutsNew : List (Nat × List Nat) := []
  /-- Background tables that take effect at the next frame start without HOLD (R244). -/
  bgNew : List (Nat × List Nat) := []
  /-- First frame whose hits are sent: the first that starts after LIVE is reached (R253). -/
  liveFrom : Option Nat := none
  /-- Rate caps in force, newest first: first frame and cap in units of 10 kHz, 0 for none (R131, R206). -/
  caps : List (Nat × Nat) := [(0, 0)]
  /-- Tick of the next injection pulse and of the last one (R218, R220). -/
  injNext : Option Nat := none
  injLast : Option Nat := none
  /-- The frame the tile is sending, and header words that wait for the words before them to leave (R279). -/
  sendFrame : Nat := 0
  headers : List (Nat × DWord × DWord) := []
  /-- A count block of the frame before is due, and the words that its count blocks are still to carry (R276). -/
  countDue : Bool := false
  counts : List Nat := []
  /-- Per-frame counts of the frames not yet closed (R254). -/
  cnts : List (Nat × FrameCnt) := []
  /-- Frames with THR_NEW and CAL_NEW (R253). -/
  thrNewAt : Option Nat := none
  calNewAt : Option Nat := none
  /-- The transition store: channel, frame, word, oldest first, at most 256 (R280). -/
  tstore : List (Nat × Nat × DWord) := []
  /-- The next requester of the tile's round-robin: a channel, or 128 for the transition store (R282). -/
  rr : Nat := 0
  /-- Condition decisions not yet reported: (tick × 4 + condition, number of channels) (R299, R305). -/
  dec : List (Nat × Nat) := []
  deriving DecidableEq, Repr

/-- One tile link with its intake (R273 to R294). -/
structure Link where
  /-- The control credit in units of 1/16,896, brought up to `up` = `creditAt`: a lane sends a block every 26.4 ticks, so k
  lanes earn 5k units a tick (R272, R276). -/
  credit : Nat := 0
  creditAt : Nat := 0
  /-- Lanes on which the status block of the frame begun last is still to be sent, and the low 16 bits of that frame; and per
  lane the bits that the last status block received carried (R275). -/
  status : List Nat := []
  statusFrame : Nat := 0
  /-- The low 16 frame bits of the last status block received on each lane (R275). -/
  statusRx : List (Nat × Nat) := []
  /-- How late each locked lane's blocks arrive, in blocks (R275). -/
  skew : List (Nat × Int) := []
  /-- The link ran on 3 lanes when it last entered HUNT (R291). -/
  three : Bool := false
  /-- The re-stripe command on its way to the tile or taken by it, none where it was discarded: its frame and lanes (R290, R292,
  R297). -/
  told : Option (Nat × Nat) := none
  /-- The lanes that the tile went on with where its re-stripe command was discarded (R297). -/
  own : Option Nat := none
  /-- The place in the stripe of the next block (R274). -/
  turn : Nat := 0
  /-- `up` at entry to HUNT, and whether DOWN has been reported for it (R289). -/
  huntAt : Nat := 0
  downSent : Bool := false
  /-- The CHANGE in force is lossless (R284), its frame and the lanes it leads to (R290, R292). -/
  lossless : Bool := false
  changeAt : Option Nat := none
  changeTo : Nat := 0
  /-- `up` since which each lane has held lock (R292). -/
  lockedAt : List (Nat × Nat) := []
  /-- The link is a requester in arbitration, the first frame it carries, and the frame it holds (R283, R284, R289). -/
  requester : Bool := false
  carryFrom : Nat := 0
  holds : Option Nat := none
  /-- Words queued in intake, oldest first: frame and word (R286). -/
  buf : List (Nat × DWord) := []
  /-- Words received of the frame in reception (R287). -/
  received : Nat := 0
  /-- Frames already counted in LOSS_FRAMES (R287, R290). -/
  lossFrames : List Nat := []
  /-- The link has been treated as having closed every frame below this one (R285). -/
  closedTo : Nat := 0
  deriving DecidableEq, Repr

/-- The tiles, their links and hub intake. -/
structure DetSt where
  chans : List (Nat × Chan) := []
  tiles : List (Nat × Tile) := []
  links : List (Nat × Link) := []
  /-- TILE and CHAN words as the tile holds them; the hub's copies follow with each count block (R227). -/
  tside : List (Nat × Word) := []
  /-- Next cluster and, per cluster, next link of intake's round-robin (R282). -/
  rrGlobal : Nat := 0
  rrCluster : List (Nat × Nat) := []
  /-- Hit words counted and discarded in Idle (R27). -/
  idleWords : Nat := 0
  /-- Incomplete tile-frames reported to the event builder: (frame, tile) (R287, R290). -/
  incomplete : List (Nat × Nat) := []
  /-- Frame headers received, for the events that carry them: (frame × 16 + tile, words) (R253). -/
  headers : List (Nat × (DWord × DWord)) := []
  /-- Highest frame that every requester has closed (R283). -/
  closedFrame : Option Nat := none
  deriving DecidableEq, Repr

/-- An edge held by a time-interval unit (R262). -/
structure TiuHeld where
  isStop : Bool
  /-- Its time in bins from the MTIME epoch. -/
  at' : Nat
  deriving DecidableEq, Repr

/-- A completed interval (R263 to R268): RES_FLAGS, the signed value, and the tick of the earlier-captured edge. -/
structure TiuResult where
  flags : Nat
  value : Int
  first : Nat
  deriving DecidableEq, Repr

/-- One time-interval measurement unit. -/
structure TiuUnit where
  held : Option TiuHeld := none
  queue : List TiuResult := []
  deriving DecidableEq, Repr

/-- The captured AUX edge that opened the 1.6 ns in progress (R259 to R261), with the fine bases at its capture. -/
structure AuxOpen where
  line : Nat
  at' : Nat
  wacc : Nat
  xacc : Nat
  /-- The last AUX edge of any kind, and whether one has come after the captured one (R259, R260). -/
  last : Nat
  more : Bool := false
  deriving DecidableEq, Repr

/-- The AUX front end and the time-interval units. -/
structure TiuSt where
  units : List (Nat × TiuUnit) := []
  aux : Option AuxOpen := none
  deriving DecidableEq, Repr

/-- A scrubber operation in progress (R528): memory, mode, pattern selection, range, and `up` at its start. -/
structure ScrubOp where
  mem : Nat
  mode : Nat
  pat : Nat
  lo : Nat
  hi : Nat
  start : Nat
  deriving DecidableEq, Repr

/-- The memories of the hub (R499 to R517). A key is the memory code (R517) × 2^36 + the address in that memory. -/
structure MemSt where
  /-- Bytes that differ from their background, keys rising. -/
  cells : List Host.Cell := []
  /-- Background segments: first key, end key, fill word + 1; a key in no segment is poison (R504), or 0 in a WRITTEN
  DRAM page. -/
  bg : List (Nat × Nat × Nat) := []
  /-- Flipped cells of a byte of an SRAM-class memory: the 13-bit mask of R523. -/
  flips : List (Nat × Nat) := []
  /-- WRITTEN marks with the strength code: first page, end page, code + 1 (R511, R512). -/
  written : List (Nat × Nat × Nat) := []
  /-- RETIRED marks: first page, end page, 1 (R511). -/
  retired : List (Nat × Nat × Nat) := []
  /-- Metadata of pages that differs from zeros: the four 64-bit words (R368, R515). -/
  meta' : List (Nat × List DWord) := []
  /-- Flipped data bits of a DRAM page: bits 0 to n - 1 (R523). -/
  dflips : List (Nat × Nat) := []
  /-- The scrubber operation under way (R528). -/
  scrub : Option ScrubOp := none
  /-- The last leak boundary of each bucket + 1 (R519). -/
  leaked : List (Nat × Nat) := []
  deriving DecidableEq, Repr

/-- The trigger block: fast-path history, rules, trigger-primitive queue and accepts (R305 to R326). -/
structure TrigSt where
  /-- Fast-path counts of the last 64 ticks: tick, tile, condition, count (R305, R307). -/
  hist : List (Nat × Nat × Nat × Nat) := []
  /-- Per rule, the first tick whose counts it takes into account (R308). -/
  until' : List (Nat × Nat) := []
  /-- The trigger-primitive queue, oldest first: a frame marker or a block, with its payload (R318, R319). -/
  tpq : List (Bool × Nat) := []
  /-- The last frame whose marker entered the queue (R318). -/
  marked : Nat := 0
  /-- Accepts on their way to the router, oldest first: source (an engine's is 4 + 8 × its cluster), apply tick, ID (R320). -/
  fly : List (Nat × Nat × Nat) := []
  /-- Accepts in the router, oldest first, at most 64 (R324). -/
  router : List (Nat × Nat × Nat) := []
  /-- Alerts on their way to the Tail ring: source bit (an engine's 4 + 8 × its cluster), tick, code (R369). -/
  alerts : List (Nat × Nat × Nat) := []
  deriving DecidableEq, Repr

/-- The trigger bus (R327 to R342). -/
structure TbusSt where
  /-- Queued messages, oldest first: type, ARG, tick (R332). -/
  txq : List (Nat × Nat × Nat) := []
  /-- The SEQ of the last counted message since TX_EN was set (R334). -/
  seq : Option Nat := none
  /-- The next cycle whose own slot has not been used. -/
  nextCycle : Nat := 0
  /-- The GUARD window of 256 cycles in progress and the messages sent in it (R633). -/
  window : Nat := 0
  sent : Nat := 0
  /-- Reference SEQ and `up` at the last valid message of each sender (R336). -/
  refSeq : List (Nat × Nat) := []
  heard : List (Nat × Nat) := []
  /-- `up` at the last valid message of each pair. -/
  pairHeard : List (Nat × Nat) := []
  /-- The delay-compensation procedure: `up` at its last start, and per pair the latest A, the sums of A + B and A - B
  and the number of pairs (R339). -/
  calStart : Nat := 0
  latestA : List (Nat × Int) := []
  sumAdd : List (Nat × Int) := []
  sumSub : List (Nat × Int) := []
  count : List (Nat × Nat) := []
  /-- On the slot-0 module, the latest measured B per slot, on either pair, and the next slot to serve (R339). -/
  replies : List (Nat × Int × Int) := []
  nextReply : Nat := 0
  /-- The slots whose MEASURE has not been answered yet (R339). -/
  owed : List Nat := []
  deriving DecidableEq, Repr
/-- A hit word held in the ring region: its tile and frame, its place (R344), and whether an event has taken it (R349). -/
structure RingWord where
  tile : Nat
  frame : Nat
  place : Nat
  sent : Bool := false
  deriving DecidableEq, Repr

/-- An admitted accept (R345, R346): source, apply tick, ID and window. -/
structure PendAcc where
  src : Nat
  tick : Nat
  id : Nat
  lo : Nat
  hi : Nat
  deriving DecidableEq, Repr

/-- A Hamper record whose header has not been written (R352 to R356). -/
structure HampRec where
  src : Nat
  id : Nat
  seq : Nat
  tick : Nat
  lo : Nat
  hi : Nat
  /-- HAMP.WIN.PRE and HAMP.MISSED when the record opened. -/
  pre : Nat
  snap : Nat
  /-- Triggers inside the window (R352, R355). -/
  extra : Nat := 0
  /-- A mode change, or a fatal entry, has closed the record (R356). -/
  modeClose : Bool := false
  fatalClose : Bool := false
  deriving DecidableEq, Repr

/-- A tile's open Tail page (R366). -/
structure TailPage where
  tile : Nat
  f1 : Nat
  f2 : Option Nat := none
  words : List DWord := []
  /-- Index of the first word of the second frame. -/
  split : Nat := 0
  /-- The frame in progress when the page was opened. -/
  opened : Nat
  /-- It was to be closed while no page was free of pins (R366, R372). -/
  due : Bool := false
  deriving DecidableEq, Repr

/-- An extraction request (R374). -/
structure XReq where
  start : Nat
  stop : Nat
  tiles : Nat
  queue : Nat
  id : Nat
  deriving DecidableEq, Repr

/-- The extraction being served: next frame, hit words and GAP groups so far (R375 to R377). -/
structure XCur where
  req : XReq
  next : Nat
  words : Nat := 0
  gaps : Nat := 0
  /-- The trailer has been fed and the stream has ended. -/
  fed : Bool := false
  deriving DecidableEq, Repr

/-- A compressor stream (R379 to R384): the input not yet coded, whether it has ended, and the open block. -/
structure RleStream where
  input : List Byte := []
  ended : Bool := false
  seq : Nat := 0
  /-- Size of the open block, 0 when none is open. -/
  size : Nat := 0
  /-- Code words and input bytes of the open block (R381). -/
  coded : List Byte := []
  raw : List Byte := []
  deriving DecidableEq, Repr

/-- The stores of the ACQ island: latency ring, Hamper store, Tail ring and compressor (R343 to R385). -/
structure AcqSt where
  /-- Words in the ring region, for Triggered and for Hamper staging, in order of arrival (R343, R344). -/
  ring : List RingWord := []
  staged : List RingWord := []
  /-- Admitted accepts not served, in order of arrival (R347). -/
  pend : List PendAcc := []
  /-- Frames held by the ring (LRING.STATUS.FRAMES). -/
  frames : List Nat := []
  /-- Tile-frames that lost words for want of a place: (tile, frame) (R344). -/
  lost : List (Nat × Nat) := []
  /-- After a page reset, the last frame whose words are no longer taken (R731). -/
  skip : Option Nat := none
  /-- The arm tick R of the Hamper store (R351). -/
  arm : Nat := 0
  /-- The tick at which Hamper stopped, while its frames drain (R356). -/
  stop : Option Nat := none
  /-- Window of the last record opened (R352). -/
  last : Option (Nat × Nat) := none
  /-- Records open or waiting for their words (R353). -/
  recs : List HampRec := []
  /-- Window ends of records, for the dead intervals that follow them (R354). -/
  dead : List Nat := []
  /-- Records kept in the store, oldest first: offset in the store and bytes (R357). -/
  store : List (Nat × Nat) := []
  /-- Offset in the store at which the next record is written (R358). -/
  storePos : Nat := 0
  /-- Entries of the missed-trigger log in use (R362). -/
  logged : Nat := 0
  /-- Open pages of the Tail ring, at most one per tile. -/
  pages : List TailPage := []
  /-- Page index written next (R366). -/
  pos : Nat := 0
  /-- Pages of each tile since the overlay started (R368). -/
  seqs : List (Nat × Nat) := []
  /-- Bit t: the next page of tile t that is written carries GAP (R372). -/
  gap : BitVec 16 := 0
  /-- Bit t: words of tile t have been lost after its open page (R368, R372). -/
  lostAfter : BitVec 16 := 0
  /-- First frame written by the overlay in force, and the frame at which it stopped while the frames before it drain. -/
  from' : Nat := 0
  tailStop : Option Nat := none
  /-- Frame range pinned by each active freeze slot: first and end frame (R370). -/
  slots : List (Nat × (Nat × Nat)) := []
  /-- Alerts not admitted (R370 names the count; the register tables give it no register). -/
  alertDrop : Nat := 0
  /-- Tile-frames with a page that was overwritten or lost: (frame × 16 + tile) (R372, R377). -/
  gone : List (Nat × Nat) := []
  /-- Extraction requests that wait, and the one being served (R374). -/
  reqs : List XReq := []
  cur : Option XCur := none
  /-- Compressor streams by key: 0x8000 + request ID, or for stream n of engine e 0x10000 + e × 0x8000 + n; and its totals in
  bytes. -/
  streams : List (Nat × RleStream) := []
  rleIn : Nat := 0
  rleOut : Nat := 0
  deriving DecidableEq, Repr

/-- A hit word on its way to an engine: tile, frame, mode code, the word, and the event it belongs to when an accept or a
record released it (R387, R399, R423). -/
structure DealWord where
  tile : Nat
  frame : Nat
  mode : Nat
  word : DWord
  ev : Option Nat := none
  deriving DecidableEq, Repr

/-- A unit in an engine's input queue: a hit word with its neighbour context, or a frame marker (R388 to R391, R399). -/
structure EUnit where
  marker : Bool := false
  mode : Nat := 0
  frame : Nat := 0
  tile : Nat := 0
  word : DWord := 0
  ctxA : Word := 0
  ctxB : Word := 0
  ev : Option Nat := none
  deriving DecidableEq, Repr

/-- The flags of an engine (R393). -/
structure EFlags where
  z : Bool := false
  n : Bool := false
  c : Bool := false
  v : Bool := false
  k : Bool := false
  q : Bool := false
  deriving DecidableEq, Repr

/-- A hit engine beside its registers in the ECL page (R392 to R409). -/
structure Eng where
  /-- g1 to g31. -/
  regs : List (Nat × Word) := []
  /-- The flags Z, N, C, V, K and Q (R393). -/
  fl : EFlags := {}
  /-- The program counter, 0 to 4,095 (R395). -/
  pc : Nat := 0
  /-- The mode of the program in force, none when stopped, and that program's parameters as taken at its start. -/
  prog : Option Nat := none
  loop : Nat := 0
  mark : Nat := 0
  budget : Nat := 16
  /-- The input queue, oldest first, at most 512 (R387). -/
  queue : List EUnit := []
  /-- The unit in hand since the last HITGET; none between a program start and its first HITGET. -/
  unit : Option EUnit := none
  /-- The last hit word delivered, whose latched values MOVS, HFLD and NEAR read (R414, R415). -/
  hit : EUnit := {}
  /-- FRAME of the unit in hand. -/
  frame : Nat := 0
  /-- The engine waits in HITGET; the unit before it has ended (R401). -/
  waiting : Bool := false
  /-- Cycles of the unit in hand, or since START. -/
  used : Nat := 0
  /-- The unit in hand, or the start segment, has been cut off or has raised an exception: it forwards nothing more, and its
  marker is passed (R404, R409). -/
  cut : Bool := false
  /-- It has been cut off, which happens once (R400, R402). -/
  late : Bool := false
  /-- A word has been sent for the hit in hand (R404). -/
  sent : Bool := false
  /-- ECL.PARAM as taken at the start of the engine frame (R421). -/
  params : List Word := [0, 0, 0, 0, 0, 0, 0, 0]
  /-- Per mode, the hit words dispatched and the words sent in the engine frame (R408). -/
  counts : List (Nat × (Nat × Nat)) := []
  /-- Per mode, 1 + the frame of the last marker passed (R409, R422). -/
  passed : List (Nat × Nat) := []
  deriving DecidableEq, Repr

/-- ECL.LOAD_SRC, LOAD_DST and LOAD_LEN of a cluster as they stood when its load started (R419). -/
structure ELoad where
  src : Word := 0
  dst : Word := 0
  len : Word := 0
  deriving DecidableEq, Repr

/-- A word that an engine port has accepted, or a bypass word, on its way to the event builder (R407, R409). -/
structure OutWord where
  /-- The engine, the number of the word's event, and what the event builder records with it. -/
  src : Nat
  ev : Nat
  frame : Nat
  typ : Nat
  num : Nat
  origin : Nat
  word : DWord
  deriving DecidableEq, Repr

/-- A data transfer that a crossing holds while the clock of one of its sides has stopped (R40). -/
inductive Xfer where
  /-- A hit word of a tile and frame, from INTAKE to the stores of ACQ. -/
  | hit (tile frame : Nat) (w : DWord)
  /-- A word of an engine's output port, from its cluster to EVB. -/
  | out (w : OutWord)
  /-- Bytes for the hub SRAM from island `src`. -/
  | mem (src addr : Nat) (data : List Byte)
  /-- A Tail page with its metadata, from ACQ to DRAM. -/
  | page (page : Nat) (data : List Byte) (md : List DWord)
  /-- A write or a read of a memory window of a port (R79). -/
  | barWrite (p : Fin 2) (bar4 : Bool) (addr : Nat) (data : List (Option Byte))
  | barRead (p : Fin 2) (bar4 : Bool) (addr len : Nat)
  deriving DecidableEq, Repr

/-- The dispatcher and the engines (R386 to R421). -/
structure EngSt where
  engs : List (Nat × Eng) := []
  /-- Hit words at the dispatcher, per dispatch group, oldest first, and the next place of the rotation. -/
  q : List (Nat × List DealWord) := []
  rot : List (Nat × Nat) := []
  /-- Frames whose marker is due, per dispatch group: frame and mode code (R390). -/
  todo : List (Nat × List (Nat × Nat)) := []
  /-- The latest hit of each channel: frame and TLEAD (R391). -/
  latest : List (Nat × (Nat × Nat)) := []
  /-- Per mode, the neighbour map as read at mode entry: entries that are not 0 (R391). -/
  maps : List (Nat × List (Nat × Word)) := []
  /-- Units dealt to an engine whose island's clock is stopped: they wait on its crossing, oldest first (R40). -/
  cross : List (Nat × EUnit) := []
  /-- Words at the output arbiters that wait for a lower engine frame, lowest frame first (R409). -/
  out : List OutWord := []
  /-- The load of each cluster. -/
  loads : List (Nat × ELoad) := []
  deriving DecidableEq, Repr

/-- A word of an event in the event store: frame, TYPE, tile or engine, ORIGIN and its place in the store (R425, R428). -/
structure EvWord where
  frame : Nat
  typ : Nat
  num : Nat
  origin : Nat
  place : Nat
  deriving DecidableEq, Repr

/-- An event in flight (R422 to R433). -/
structure Ev where
  /-- The model's own number of the event. -/
  num : Nat
  /-- The type, the mode, the frame and the dispatch group of the event (R422, R423). -/
  kind : Nat
  mode : Nat
  frame : Nat
  group : Nat
  /-- The tag held, 512 for none: an event that found no free tag, or one completed by force whose tag is freed; it stays
  known until every engine concerned has passed its marker, so that its later words are discarded (R424, R426). -/
  tag : Nat
  /-- Apply tick and window, ID and source of its accept, and SEQ of its Hamper record (R350, R427). -/
  tick : Nat
  lo : Nat
  hi : Nat
  accId : Nat := 0
  accSrc : Nat := 0
  recSeq : Nat := 0
  /-- What its header reports: CLIPPED, OVERLAP, INCOMPLETE, and that it was completed by force (R427, R429). -/
  clipped : Bool := false
  ov : Bool := false
  incomplete : Bool := false
  forced : Bool := false
  /-- Destination: a queue or a data group, and its number; EVSEQ and priority. -/
  isQ : Bool := false
  dnum : Nat := 0
  evseq : Nat := 0
  prio : Nat := 0
  /-- Words dropped by engine caps or by the record (R427). -/
  dropped : Nat := 0
  /-- The words of its body in the order of arrival (R425). -/
  words : List EvWord := []
  /-- It lost words for want of room in the store (R425). -/
  storeDrop : Bool := false
  /-- The event is complete and waits for admission; `doneAt` is its place in the order of completion, and `offered` tells that
  its queue's writer has it (R433). -/
  complete : Bool := false
  doneAt : Nat := 0
  offered : Bool := false
  /-- Once complete: places of its words in the event store in order, header first, and the positions of its header
  words. -/
  body : List Nat := []
  heads : List Nat := []
  deriving DecidableEq, Repr

/-- An admitted event in a data group's queue (R437). -/
structure LaneEv where
  evseq : Nat
  prio : Nat
  body : List Nat
  heads : List Nat
  deriving DecidableEq, Repr

/-- The event builder (R422 to R438). -/
structure EvbSt where
  evs : List Ev := []
  nextNum : Nat := 0
  /-- EVSEQ counters: key 0 to 63 for queues, 64 to 67 for data groups (R432). -/
  seqs : List (Nat × Nat) := []
  /-- Lane-bound TRIGGERED, HAMPER and SUMMARY events opened since the mode took effect (R431). -/
  laneCount : Nat := 0
  /-- Events completed so far. -/
  dones : Nat := 0
  /-- The first frame whose STREAM, CALIBRATE and SUMMARY events may open after an EVB page reset (R732). -/
  since : Nat := 0
  /-- Header allowance left of each data group, in words (R436). -/
  allow : List (Nat × Nat) := []
  /-- Admitted events of each data group, oldest first. -/
  lanes : List (Nat × List LaneEv) := []
  deriving DecidableEq, Repr

/-- A packet that a producer has ready for a device-to-host queue (R441, R449). -/
structure Packet where
  queue : Nat
  src : Nat
  payload : List Byte
  last : Bool := false
  trunc : Bool := false
  /-- A block of a Tail extraction, which waits for credit (R446). -/
  waits : Bool := false
  /-- The number of the event it is the packet of, whose tag it frees (R424). -/
  ev : Option Nat := none
  /-- An EVB page reset has cut it short, so it is not counted (R732). -/
  uncounted : Bool := false
  deriving DecidableEq, Repr

/-- A device-to-host queue beside its registers (R440 to R454). -/
structure DevQ where
  /-- USED, CPLW, PSEQ of the epoch (R446, R450). -/
  used : Nat := 0
  cplw : Nat := 0
  pseq : Nat := 0
  /-- Second copies of the write pointer and of USED (R452). -/
  wptr2 : Nat := 0
  /-- Second copies of the write pointer and of USED (R452). -/
  used2 : Nat := 0
  /-- GRANT and CPL_DONE as last read in this epoch, none before the first good block. -/
  cons : Option (Nat × Nat) := none
  /-- Notices since the last pulse, and `up` at the first of them (R453). -/
  notices : Nat := 0
  noticeAt : Option Nat := none
  /-- `up` at the last read of the consumer block (R447). -/
  readAt : Option Nat := none
  deriving DecidableEq, Repr

/-- A command queue beside its registers (R455 to R460). -/
structure CmdQ where
  /-- Commands executed since the last write of DONE to the host. -/
  report : Bool := false
  /-- Command granules of the ring passed so far: the next command lies at granule 1 + `pos`, wrapping (R455). -/
  pos : Nat := 0
  deriving DecidableEq, Repr

/-- The queues. -/
structure QueSt where
  dev : List (Nat × DevQ) := []
  cmd : List (Nat × CmdQ) := []
  /-- Bytes written into queues (QUE.COPY_KIB). -/
  copied : Nat := 0
  /-- Packets that wait for their queue's writer, oldest first. -/
  packets : List Packet := []
  /-- The next command queue of the round-robin (R458). -/
  nextCmd : Nat := 0
  deriving DecidableEq, Repr

/-- An uplink lane beside its registers (R490 to R495). -/
structure ULane where
  /-- `up` at which the attempt began, and at which the lane entered its state. -/
  attAt : Nat := 0
  entAt : Nat := 0
  /-- A DLM has been delivered during the attempt; successive DLMs with the LOCKED bit 0 in UP. -/
  dlm : Bool := false
  misses : Nat := 0
  /-- The FIR weights in use: those of the preset as the attempt began (R497). -/
  eq : Word := 0
  /-- `up` at the first DLM delivered in BLIND. -/
  dlmAt : Option Nat := none
  /-- The lane goes OFF at the change point (R494). -/
  pendOff : Bool := false
  /-- A trigger-primitive lane has sent an FMARK since it entered UP or BLIND (R490). -/
  tpOn : Bool := false
  /-- In compatibility mode, the cycle after the one whose alignment slot the lane has sent (R479). -/
  tpCycle : Nat := 0
  deriving DecidableEq, Repr

/-- An event whose transmission by a data group has begun or is next (R437, R469, R470). -/
structure TxEv where
  evseq : Nat
  prio : Nat
  bytes : Nat
  /-- Words still to be sent. -/
  words : List DWord
  /-- Its first unit has been sent. -/
  begun : Bool := false
  /-- An ABORT unit ends the event. -/
  abort : Bool := false
  /-- Its places in the event store, which it holds until its first unit is sent (R425). -/
  places : List Nat := []
  deriving DecidableEq, Repr

/-- A data group beside its registers (R467 to R473). -/
structure LGroup where
  /-- Change point: the frame at whose start the group takes its new mask (R473). -/
  change : Option Nat := none
  /-- The change was learned from a loss or a return, so events are dropped until then (R63, R66). -/
  lossy : Bool := false
  /-- The mask that NEXT of the last AM of a frame announced, and the frame it is for (R472). -/
  told : Option (Nat × Nat) := none
  /-- After a loss the group sends IDLE until the change point. -/
  paused : Bool := false
  /-- The events that the group sends, the first of them in transmission (R437). -/
  tx : List TxEv := []
  deriving DecidableEq, Repr

/-- A copy of a downlink superframe that is not whole: lane, SFC, blocks (a data word or a control block; none where the
sync header is invalid) and `up` at its end (R487). -/
structure DlCopy where
  lane : Nat
  sfc : Nat
  blocks : List (Option (Bool × DWord))
  at' : Nat
  deriving DecidableEq, Repr

/-- The serial lanes (R461 to R498). -/
structure LaneSt where
  /-- The start-up sequence has released the uplink lanes to training (R490, R639). -/
  released : Bool := false
  /-- The uplink lanes and the data groups (R468, R490). -/
  lanes : List (Nat × ULane) := []
  groups : List (Nat × LGroup) := []
  /-- Frame and index of the next superframe or cycle of the data lanes. -/
  sfFrame : Nat := 0
  sfc : Nat := 0
  /-- Payloads of CC blocks that wait, per data group and, key 4, for UTX16 and UTX17 (R475). -/
  cc : List (Nat × List DWord) := []
  /-- The block before in the delivered downlink stream: 0 other, 1 SYNC_HI, 2 BWR or its data (R482, R483). -/
  dlPrev : Nat := 0
  /-- V bits 63:40 of the last SYNC_HI, the SRAM address of the next BWR data block, and the lane blocks are taken from. -/
  dlHi : Nat := 0
  dlAddr : Nat := 0
  /-- The lane from which blocks are taken first (R487). -/
  dlLane : Nat := 0
  /-- Superframes delivered last, newest first, and copies that wait (R487). -/
  dlTaken : List Nat := []
  dlCopies : List DlCopy := []
  /-- `up` since which no downlink lane has been ALIGNED (R108). -/
  dlDown : Option Nat := some 0
  deriving DecidableEq, Repr

/-- A slow-control converter: the conversion in progress (R535 to R541). Times are in `up`. -/
structure SlowConv where
  busy : Bool := false
  /-- Place in the sequence of the conversion in progress. -/
  pos : Nat := 0
  /-- Start of its filter window and its completion. -/
  from' : Nat := 0
  /-- `up` at which the conversion under way ends (R539). -/
  due : Nat := 0
  /-- An excitation change restarted it (R546). -/
  mark : Bool := false
  /-- A pause holds it since then (R557). -/
  held : Option Nat := none
  /-- End of the last pause that held it. -/
  paused : Option Nat := none
  /-- Its pass began during a pause, and its first conversion waits for the end (R558). -/
  waits : Bool := false
  /-- A trigger in the clock period in which the pass ends starts the next one then (R564). -/
  again : Option Nat := none
  deriving DecidableEq, Repr

/-- A slow-control channel beside its registers. -/
structure SlowChan where
  /-- Results since the converter was enabled (R544). -/
  count : Nat := 0
  /-- The last result without DIAG, SETTLING or EXC_OFF (R550). -/
  clean : Option Int := none
  /-- The next eligible result sets the window state directly (R554). -/
  afresh : Bool := true
  /-- Consecutive results that count towards LOW, HIGH and IN. -/
  lows : Nat := 0
  highs : Nat := 0
  ins : Nat := 0
  /-- End of the SETTLING span in force (R546). -/
  settle : Nat := 0
  deriving DecidableEq, Repr

/-- The latest eligible XCHK result of a converter (R555). -/
structure XchkLast where
  result : Int
  index : Nat
  at' : Nat
  gain : Nat
  ref : Nat
  deriving DecidableEq, Repr

/-- Slow control (R534 to R565). -/
structure SlowSt where
  convs : List (Nat × SlowConv) := []
  chans : List (Nat × SlowChan) := []
  xlast : List (Nat × XchkLast) := []
  /-- Consecutive failed and passing comparisons (R556). -/
  xfails : Nat := 0
  xpasses : Nat := 0
  /-- Records that wait for the DMA ring, without their RSEQ (R560). -/
  recs : List (List DWord) := []
  /-- The RSEQ used last. -/
  rseq : Nat := 0
  /-- BLANK_N is low; `up` since which the modulators pause; outputs changed during the pause (R557, R564). -/
  blankLow : Bool := false
  pauseAt : Option Nat := none
  changed : Nat := 0
  deriving DecidableEq, Repr

/-- A servo loop beside its registers (R566 to R586). -/
structure ServoLoop where
  /-- No cycle has been performed since the loop left OFF (R572). -/
  first : Bool := true
  /-- Cycles of the detector's block in progress (R584). -/
  block : Nat := 0
  /-- `up` at the previous performed start and at the end of its cycle (R580, R581). -/
  start : Option Nat := none
  done : Nat := 0
  /-- SLOW clocks that this cycle takes (R581), and `up` at the last start that reached the loop (R580). -/
  clocks : Nat := 0
  tried : Option Nat := none
  /-- X5 to X0 before that cycle, which an abandoned cycle leaves in force (R582). -/
  kept : List Word := []
  /-- Per measurement, the INDEX or count seen at the previous cycle (R571). -/
  seen : List (Nat × Nat) := []
  /-- Bit q: HOSTYq has been written since the previous cycle. -/
  host : Nat := 0
  deriving DecidableEq, Repr

/-- The bias servo. -/
structure ServoSt where
  loops : List (Nat × ServoLoop) := []
  deriving DecidableEq, Repr

/-- The calibration light controller beside its registers (R592 to R601). -/
structure LightSt where
  /-- GLOW, SPRINKLE and SPR_CUR as in effect since the last period start (R598). -/
  glow : Word := 0
  spr : Word := 0
  cur : Word := 0
  /-- Periods begun in the 256-period cycle in progress (R599, R601). -/
  period : Nat := 0
  /-- `up` at which the next period starts, at which the next headroom step is due, and at which RAMP began. -/
  nextAt : Nat := 0
  headAt : Nat := 0
  rampAt : Nat := 0
  /-- `up` since which VSET has been at its limit with the neediest string below 0.45 V (R593). -/
  lowSince : Option Nat := none
  /-- Added on-time of each string that is still to be taken back, in SLOW clocks (R601). -/
  owed : List (Nat × Nat) := []
  /-- The pulses of each string in the period in progress: first SLOW clock and length (R594, R595, R601). -/
  pulses : List (Nat × List (Nat × Nat)) := []
  /-- `up` at the start of that period, and the pulses since the last headroom step that it no longer holds: string, first and
  last tick (R592). -/
  startAt : Nat := 0
  spans : List (Nat × Nat × Nat) := []
  /-- LSNK_C of each string that is driven: IFS × D, so that its current is this times 0.2 mA / 1,023 (R590, R591). -/
  drive : List (Nat × Nat) := []
  deriving DecidableEq, Repr

/-- A steward beside its registers (R606 to R626). -/
structure Steward where
  /-- `up` at which the steward entered its state, or at which it leaves island reset when that lies ahead. -/
  since : Nat := 0
  /-- The self-checks of STARTING have passed (R608). -/
  passed : Bool := false
  /-- `up` at the last kick and at the last correct ALU_SIG (R609). -/
  kickAt : Nat := 0
  sigAt : Nat := 0
  /-- MTIME at which the memory bucket was last brought up to date (R609, R519). -/
  leakAt : Nat := 0
  /-- `up` of each rejoin, newest first (R608). -/
  rejoins : List Nat := []
  /-- The steward has been FAILED since it was last STANDBY. -/
  failed : Bool := false
  /-- Numbers of the health and telemetry periods of the last frames sent (R623, R624). -/
  health : Option Nat := none
  telem : Option Nat := none
  deriving DecidableEq, Repr

/-- A message of the mirror channel: the fields of its 64 bytes (R617). -/
structure MirMsg where
  /-- KIND: 1 ITEM, 2 ACK, 3 RESYNC, 4 END. -/
  kind : Nat
  item : Nat := 0
  mfmt : Nat := 0
  seq : Nat := 0
  offset : Nat := 0
  /-- DATA, whose length is LEN. -/
  data : List Byte := []
  crc : Word := 0
  /-- `up` at which its sender had it ready. -/
  sentAt : Nat := 0
  /-- It has gone undelivered for longer than 100 µs, and READY has fallen for it (R615, R618). -/
  late : Bool := false
  deriving DecidableEq, Repr

/-- The mirror channel and the standby's copy (R614 to R618). -/
structure MirrorSt where
  /-- Messages sent by the ACTIVE steward, and by the STANDBY one, since it entered its state. -/
  sent : Nat := 0
  back : Nat := 0
  /-- SEQ the standby expects next; none until its first message. -/
  expect : Option Nat := none
  /-- The queue towards the STANDBY steward and the one towards the ACTIVE steward, oldest first, at most 64 each (R616). -/
  toStandby : List MirMsg := []
  toActive : List MirMsg := []
  /-- Messages of either sender that wait for a free place (R618). -/
  waitStandby : List MirMsg := []
  waitActive : List MirMsg := []
  /-- RESYNCs the ACTIVE steward has received and not yet answered by an END. -/
  ends : Nat := 0
  /-- The standby has sent a RESYNC, and no ITEM has been discarded since the latest. -/
  clean : Bool := false
  /-- The standby's copy of the mirrored items, keyed by item × 2^32 + offset. -/
  copy : List (Nat × Byte) := []
  deriving DecidableEq, Repr

/-- The role arbiter, the guardrails and the identity reader beside their registers. -/
structure StwSt where
  a : Steward := {}
  b : Steward := {}
  mir : MirrorSt := {}
  /-- `up` at the last tr, and whether what is in progress is a swap (R613, R619). -/
  trAt : Nat := 0
  swapping : Bool := false
  /-- `up` at which the next thermal sample is due (R632). -/
  thermAt : Nat := 0
  /-- A fuse burn of GUARD: its group, the values it burns and `up` at its start (R635). -/
  burn : Option (Nat × List (Nat × Word) × Nat) := none
  /-- Tiles whose identity is being read (R628). -/
  idm : BitVec 16 := 0
  deriving DecidableEq, Repr

/-- Start-up, flash and update beside their registers (R636 to R668). -/
structure UpdSt where
  flash : FlashImage := {}
  /-- Hashes fused into the key slots (R655, R657). -/
  keys : List (Nat × List Byte) := []
  /-- The operation in progress: OP, TARGET, SRC and LEN (R661). -/
  op : Option (Nat × Nat × Nat × Nat) := none
  /-- A key burn: slot, whether it revokes, the hash and `up` at its start (R657). -/
  burn : Option (Nat × Bool × List Byte × Nat) := none
  /-- `up` of the session owner's last accepted write (R660). -/
  ownerAt : Nat := 0
  /-- `up` at which PRELOAD or TRIAL began (R664). -/
  actAt : Nat := 0
  /-- `up` at which the stewards were released, for CFG.T_INIT (R640). -/
  releaseAt : Nat := 0
  deriving DecidableEq, Repr

/-- An ageing campaign in progress (R709). -/
structure AgeRun where
  meas : AgeMeas
  /-- XTIME and `up` at the start, and `up` at which the step in progress ends. -/
  xstart : Nat
  start : Nat
  due : Nat
  /-- Outcome of step 1: the core margin, and a rail step failed. -/
  margin : Int := 0
  failed : Bool := false
  /-- CLK.XRATIO is outside the range of ADJ (R709). -/
  xtal : Bool := false
  /-- A fatal entry has come: the campaign ends after the step in progress (R715). -/
  ending : Bool := false
  /-- How many rail steps of step 1 go before the one that fatal cause 3 makes fail (R715). -/
  railCut : Option Nat := none
  deriving DecidableEq, Repr

/-- What a commanded mode change found: its tick, and the registers, the mode history and the ACQ stores before it, in force
again where a fatal cause falls in the same tick (R143). -/
structure ModeUndo where
  at' : Nat
  regs : List (Nat × Word)
  hist : List (Nat × Nat × Bool)
  acq : AcqSt
  deriving DecidableEq, Repr

/-- Ageing measurement beside its registers (R704 to R716). -/
structure AgeSt where
  /-- The set point that the VDD_CORE regulator holds, in mV (R679, R716). -/
  setpt : Nat := 800
  /-- Address and PMBus page of rail 0 when the applied image enables re-planning (R710, R647). -/
  rail0 : Option (Nat × Nat) := none
  /-- The campaign under way (R709). -/
  run : Option AgeRun := none
  /-- Transmit presets on their way: tile, preset and the frame at whose start it takes effect (R712). -/
  presets : List (Nat × Nat × Nat) := []
  deriving DecidableEq, Repr


/-- The whole state of the module. -/
structure State where
  /-- The ordering variant (R1). -/
  variant : Variant := .t
  /-- The commands that wait, first in first out: the model's own queue. -/
  pending : List Instr := []
  /-- What has left the module, oldest first: the model's own record. -/
  out : List Output := []
  /-- A counter of the model's own, read and advanced where the manual leaves a value open: it selects the next free
  value. -/
  fresh : Nat := 0
  /-- Every register of every page by BAR0 offset; an unlisted one holds its reset value. -/
  regs : List (Nat × Word) := []
  fab : FabricSt := {}
  /-- Data transfers that crossings hold for a stopped clock, oldest first (R40). -/
  xfers : List Xfer := []
  mode : ModeSt := {}
  /-- The last commanded mode change, as R143 may have to undo it. -/
  undo : Option ModeUndo := none
  time : TimeSt := {}
  det : DetSt := {}
  tiu : TiuSt := {}
  trig : TrigSt := {}
  tbus : TbusSt := {}
  mem : MemSt := {}
  acq : AcqSt := {}
  eng : EngSt := {}
  evb : EvbSt := {}
  que : QueSt := {}
  lane : LaneSt := {}
  slow : SlowSt := {}
  servo : ServoSt := {}
  light : LightSt := {}
  stw : StwSt := {}
  upd : UpdSt := {}
  age : AgeSt := {}
  deriving DecidableEq, Repr

/-- The module right after power-on reset (R95): every register at its reset value, the tiles off, MTIME and WTIME not
yet running (R156), every memory cell poisoned (R504) and no command waiting. -/
def State.reset : State := {}

end Sys2Proof.Machine
end

