-- ==== Sys2Proof/Machine/Ops.lean ====
section
/-!
DEFINITION. The named operations over registers, ownership, interrupts and the crossings that every command family uses.
-/
namespace Sys2Proof.Machine

/-- The number of a domain (R98). -/
def domIdx : Dom → Nat
  | .stw => 0
  | .pcie0 => 1
  | .pcie1 => 2
  | .dl => 3

/-- The domain of number `n`. -/
def domOf (n : Nat) : Dom :=
  match n with
  | 1 => .pcie0
  | 2 => .pcie1
  | 3 => .dl
  | _ => .stw

/-- The latch number of a requester (R21). -/
def reqIdx : Requester → Nat
  | .port p => p.val
  | .queue q => 2 + q.val
  | .downlink => 18
  | .steward b => 19 + b.val

/-- Whether page offset `off` is one of the registers of a row. -/
def rowHit (r : RegRow) (off : Nat) : Bool :=
  if off < r.off then false
  else
    let d := off - r.off
    let e := d % r.s1
    decide (d / r.s1 < r.n1) && decide (e / r.s2 < r.n2) && decide (e % r.s2 = 0)

/-- The register row at BAR0 offset `k`, if a register lies there. -/
def regRow? (k : Nat) : Option RegRow :=
  match pageType (k / 0x1000) with
  | some t => (typeRegs t).find? (fun r => rowHit r (k % 0x1000))
  | none => none

/-- The reset value of the register at BAR0 offset `k`; the registers of the common header reset to 0. -/
def resetOf (k : Nat) : Word :=
  match regRow? k with
  | some r => word r.reset
  | none => 0

/-- The register at BAR0 offset `k` as stored. -/
def State.rd (s : State) (k : Nat) : Word := sget (resetOf k) k s.regs

/-- The state with the register at BAR0 offset `k` holding `w`. -/
def State.wr (s : State) (k : Nat) (w : Word) : State :=
  { s with regs := sset (resetOf k) k w s.regs }

/-- The value of a register as a number. -/
def State.nat (s : State) (k : Nat) : Nat := (s.rd k).toNat

/-- Field `[hi:lo]` of the register at `k`. -/
def State.fld (s : State) (k hi lo : Nat) : Nat := wfld (s.rd k) hi lo

/-- The register at `k` with field `[hi:lo]` set to `v`. -/
def State.setF (s : State) (k hi lo v : Nat) : State := s.wr k (setFld (s.rd k) hi lo v)

/-- Bit `i` of the register at `k`. -/
def State.flag (s : State) (k i : Nat) : Bool := (s.rd k).getLsbD i

/-- The register at `k` with bit `i` set to `b`. -/
def State.setFlag (s : State) (k i : Nat) (b : Bool) : State := s.wr k (setBit (s.rd k) i b)

/-- A 64-bit value held in two registers, LO at `k` and HI at `k + 4` (R21). -/
def State.rd64 (s : State) (k : Nat) : Nat := s.nat k + s.nat (k + 4) * 2 ^ 32

/-- Writes a 64-bit value as LO at `k` and HI at `k + 4`. -/
def State.wr64 (s : State) (k v : Nat) : State := (s.wr k (word v)).wr (k + 4) (word (v / 2 ^ 32))

/-- Adds `n` to a wrapping 32-bit counter. -/
def State.incBy (s : State) (k n : Nat) : State := s.wr k (s.rd k + word n)

/-- Adds 1 to a wrapping 32-bit counter. -/
def State.inc (s : State) (k : Nat) : State := s.incBy k 1

/-- Adds `n` to a saturating 32-bit counter. -/
def State.incSatBy (s : State) (k n : Nat) : State := s.wr k (word (Nat.min (s.nat k + n) 0xFFFFFFFF))

/-- Adds 1 to a saturating 32-bit counter. -/
def State.incSat (s : State) (k : Nat) : State := s.incSatBy k 1

/-- Adds 1 to a wrapping counter field. -/
def State.incF (s : State) (k hi lo : Nat) : State := s.setF k hi lo (s.fld k hi lo + 1)

/-- Adds `n` to a saturating counter field. -/
def State.incFSatBy (s : State) (k hi lo n : Nat) : State :=
  s.setF k hi lo (Nat.min (s.fld k hi lo + n) (2 ^ (hi + 1 - lo) - 1))

/-- Adds 1 to a saturating counter field. -/
def State.incFSat (s : State) (k hi lo : Nat) : State := s.incFSatBy k hi lo 1

/-- Sets bits of INT_STAT of page `p`, as the block does when a cause arises (R93). -/
def State.raise (s : State) (p bits : Nat) : State := s.wr (Reg.intStat p) (s.rd (Reg.intStat p) ||| word bits)

/-- Sets bits of STICKY of page `p`. -/
def State.stick (s : State) (p bits : Nat) : State := s.wr (Reg.sticky p) (s.rd (Reg.sticky p) ||| word bits)

/-- What a write of `v` to the common header of page `p` at offset `o` does to the register itself (R18, R93, R94). -/
def State.headerBits (s : State) (p o : Nat) (v : Word) : State :=
  let i := pageInfo p
  let ints := word i.intMask
  match o with
  | 0x10 => s.wr (Reg.pageCtl p) ((s.rd (Reg.pageCtl p) &&& 6) ||| (v &&& 7))
  | 0x18 => s.wr (Reg.intStat p) (s.rd (Reg.intStat p) &&& ~~~v)
  | 0x1C => s.wr (Reg.intEn p) (v &&& ints)
  | 0x20 => s.raise p (v &&& ints).toNat
  | 0x24 => s.wr (Reg.sticky p) (s.rd (Reg.sticky p) &&& ~~~(v &&& word i.stickyMask))
  | _ => s

/-- Records a refusal in STICKY.REFUSED of page `p` (R20, R720). -/
def State.refuse (s : State) (p : Nat) : State := s.stick p 1

/-- Appends to the record of what left the module. -/
def State.emit (s : State) (o : Output) : State := { s with out := s.out ++ [o] }

/-- MTIME now. -/
def State.now (s : State) : Nat := s.time.mtime

/-- The code of the mode in force (R117). -/
def State.modeNow (s : State) : Nat := s.fld Reg.modeCurrent 2 0

/-- The Tail overlay is running (R123). -/
def State.tailOn (s : State) : Bool := s.flag Reg.modeCurrent 3

/-- The mode that handles frame `f`, and whether the Tail overlay runs in it (R130). -/
def modeOfIn (f : Nat) : List (Nat × Nat × Bool) → Nat × Bool
  | [] => (0, false)
  | (g, m, t) :: r => if g ≤ f then (m, t) else modeOfIn f r

/-- The mode that handles frame `f`; a frame that has not begun is handled by the mode of a pending change that names it or
a frame before it (R129, R130). -/
def State.modeOf (s : State) (f : Nat) : Nat :=
  if s.flag Reg.modePend 31 && decide (s.time.frame < f) && decide (s.rd64 Reg.modePendFrameLo ≤ f) then s.fld Reg.modePend 2 0
  else (modeOfIn f s.mode.hist).1

/-- Island `n` exists in the variant (R31). -/
def State.islandExists (s : State) (n : Nat) : Bool := decide (n < 28) && !(decide (n = 19) && decide (s.variant = .s))

/-- Island `n` is clocked and out of reset (SYS.ISLAND_LIVE). -/
def State.islandLive (s : State) (n : Nat) : Bool :=
  s.islandExists n && !s.fab.stopped.getLsbD n && !s.fab.inReset.getLsbD n

/-- Page `p` is a register page of the variant (R2, R84). -/
def State.pageExists (s : State) (p : Nat) : Bool :=
  (pageType p).isSome && !(decide (s.variant = .s) && (decide (p = Pg.tail) || decide (p = Pg.decc)))

/-- The page whose ownership, lock and reset a page follows: CHANt follows TILEt (R88). -/
def ownPage (p : Nat) : Nat := if 0x100 ≤ p ∧ p < 0x110 then p - 0x100 + 0x10 else p

/-- The ownership state of a page after reset (R100). -/
def State.ownReset (s : State) (p : Nat) : Owner :=
  if p ∈ [Pg.sys, Pg.cfg, Pg.own, Pg.irq, Pg.upd, Pg.stw, Pg.idm, Pg.guard] ∨ p ∈ s.fab.cfgFixed then .fixed else .free

/-- The ownership state of a page (R97). -/
def State.owner (s : State) (p : Nat) : Owner := sget (s.ownReset p) p s.fab.own

/-- The state with page `p` in ownership state `o`. -/
def State.setOwner (s : State) (p : Nat) (o : Owner) : State :=
  { s with fab := { s.fab with own := sset (s.ownReset p) p o s.fab.own } }

/-- Domain `d` is among the WRITERS of a page in ownership state `o` (R98). -/
def ownerAllows (o : Owner) (d : Dom) : Bool :=
  match o with
  | .held e => decide (d = .stw) || decide (d = e)
  | _ => decide (d = .stw)

/-- The domain that owns the open update session (UPD.SSTAT), if one is open. -/
def State.sessionOwner (s : State) : Option Nat :=
  if s.flag Reg.updSstat 31 then some (s.fld Reg.updSstat 29 28) else none

/-- A write of domain `d` to BAR0 offset `addr` is accepted: the open registers of R99, else R98 with R88. -/
def State.mayWrite (s : State) (d : Dom) (addr : Nat) : Bool :=
  if addr ∈ [Reg.ownClaim, Reg.ownRelease, Reg.sysIslandStopped, Reg.timeSnap, Reg.updSession] then true
  else if addr = Reg.sysReset then (s.rd Reg.ownPolicy).getLsbD (domIdx d)
  else if addr ∈ [Reg.updSrc, Reg.updLen, Reg.updOp, Reg.updArm, Reg.updConfirm, Reg.updTrialS, Reg.updKeyFuse] then
    decide (s.sessionOwner = some (domIdx d))
  else if 0x3100 ≤ addr ∧ addr < 0x3300 then decide (d = .stw) || decide (d = .pcie0)
  else if 0x3300 ≤ addr ∧ addr < 0x3500 then decide (d = .stw) || decide (d = .pcie1)
  else ownerAllows (s.owner (ownPage (addr / 0x1000))) d

/-- A denied write is entered in OWN.DENY_LOG and counted; it has no other effect (R107, R116). -/
def State.denyWrite (s : State) (d : Dom) (addr : Nat) (v : Word) : State :=
  let e := s.fld Reg.ownDenyHead 3 0
  let w0 := domIdx d * 2 ^ 30 + (addr / 0x1000 % 0x1000) * 2 ^ 16 + addr % 0x1000
  let s := s.wr (Reg.ownDenyLog e 0) (word w0)
  let s := s.wr (Reg.ownDenyLog e 1) v
  let s := s.wr (Reg.ownDenyLog e 2) (word s.now)
  let s := s.wr (Reg.ownDenyLog e 3) (word (s.now / 2 ^ 32))
  let s := s.setF Reg.ownDenyHead 3 0 (e + 1)
  let s := s.incF Reg.ownDenyHead 31 4
  s.incFSat Reg.ownDenyCount (8 * domIdx d + 7) (8 * domIdx d)

/-- Counts `n` transfers lost on the CTRL side of the crossing to island `i`; SYS.CTRL_LOST26 and, on the NRS-2048S,
SYS.CTRL_LOST19 read 0. Losses towards a steward island also show in STW.XLOST (R43). -/
def State.ctrlLost (s : State) (i n : Nat) : State :=
  if i = 26 ∨ s.islandExists i = false ∨ s.fab.inReset.getLsbD 26 then s
  else
    let s := s.incSatBy (Reg.sysCtrlLost i) n
    if i = 24 ∨ i = 25 then s.incFSatBy Reg.stwXlost 31 16 n else s

/-- Counts `n` transfers lost at a crossing between islands `i` and `other`, on the side of island `i`: in its block's XLOST
or, of an island without one, in SYS.ISL_LOSTi; CTRL counts by the other island, and an island that is itself in reset
counts nothing (R37, R39, R43). -/
def State.crossLost (s : State) (i other n : Nat) : State :=
  if n = 0 ∨ s.islandExists i = false ∨ s.fab.inReset.getLsbD i then s
  else if i = 26 then s.ctrlLost other n
  else if 5 ≤ i ∧ i ≤ 16 then (s.incSatBy (Reg.eclXlost (i - 5)) n).stick (Pg.ecl (i - 5)) 0x20000
  else
    match i with
    | 2 => (s.incSatBy Reg.tlnkXlost n).stick Pg.tlnk 0x10000
    | 3 => (s.incSatBy Reg.trigXlost n).stick Pg.trig 0x20000
    | 4 => (s.incSatBy Reg.lringXlost n).stick Pg.lring 0x40000
    | 17 => (s.incSatBy Reg.evbXlost n).stick Pg.evb 0x20000
    | 18 => (s.incSatBy Reg.seccXlost n).stick Pg.secc 0x40000
    | 19 => (s.incSatBy Reg.deccXlost n).stick Pg.decc 0x40000
    | 20 => (s.incSatBy Reg.ulnkXlost n).stick Pg.ulnk 0x10000
    | 21 => (s.incSatBy (Reg.drxXlost 0) n).stick (Pg.drx 0) 0x10000
    | 27 => (s.incSatBy Reg.slowXlost n).stick Pg.slow 0x10000
    | _ => s.incSatBy (Reg.sysIslLost i) n

/-- The crossings of island `i` are sealed: it is in reset, or they have not reopened (R37, R38). -/
def State.sealedOff (s : State) (i : Nat) : Bool := s.fab.inReset.getLsbD i || s.fab.isSealed.getLsbD i

/-- The crossing between islands `i` and `j` delivers now: neither side is sealed off or stopped (R37, R40). -/
def State.crosses (s : State) (i j : Nat) : Bool :=
  !s.sealedOff i && !s.sealedOff j && !s.fab.stopped.getLsbD i && !s.fab.stopped.getLsbD j

/-- The islands at the ends of the crossing that a data transfer takes: where it comes from and where it goes (R31). -/
def Xfer.ends : Xfer → Nat × Nat
  | .hit _ _ _ => (2, 4)
  | .out w => (5 + w.src / 8, 17)
  | .mem src _ _ => (src, 18)
  | .page _ _ _ => (4, 19)
  | .barWrite p bar4 _ _ | .barRead p bar4 _ _ => (22 + p.val, if bar4 then 19 else 18)

/-- A transfer from island `a` to island `b` is lost: it is counted on the side that is not in reset, on neither when both are,
and on a cluster's side at any crossing of a cluster (R37, R39, R405). -/
def State.xferLost (s : State) (a b : Nat) : State :=
  if s.fab.inReset.getLsbD a && s.fab.inReset.getLsbD b then s
  else
    let ecl := fun (i : Nat) => decide (5 ≤ i) && decide (i ≤ 16)
    if ecl a || ecl b then
      let n := if ecl a then a - 5 else b - 5
      (s.incSat (Reg.eclXlost n)).stick (Pg.ecl n) 0x20000
    else if s.fab.inReset.getLsbD a then s.crossLost b a 1
    else s.crossLost a b 1

/-- A data transfer is offered to its crossing: a sealed crossing loses it (R37, R38), one with a stopped side holds it, and what
comes after it on the same crossing waits behind it (R40); else `go` is its effect. -/
def State.offer (s : State) (x : Xfer) (go : State → State) : State :=
  let e := x.ends
  if s.sealedOff e.1 || s.sealedOff e.2 then s.xferLost e.1 e.2
  else if s.crosses e.1 e.2 && s.xfers.all (fun y => decide (y.ends ≠ e)) then go s
  else { s with xfers := s.xfers ++ [x] }

/-- The island that sends a register access of domain `d` or of requester `who` (R31, R43). -/
def State.fromIsland (s : State) (d : Dom) (who : Option Requester) : Nat :=
  match who, d with
  | some (.port p), _ => 22 + p.val
  | some (.queue _), _ => 17
  | some .downlink, _ => 21
  | some (.steward b), _ => 24 + b.val
  | none, .pcie0 => 22
  | none, .pcie1 => 23
  | none, .dl => 21
  | none, .stw => if s.fld Reg.stwRole 6 4 = 3 then 25 else 24

/-- A port answers memory requests: its link is up and its function is in D0 (R75). -/
def State.portAnswers (s : State) (p : Nat) : Bool :=
  let q := if p = 0 then s.fab.port0 else s.fab.port1
  q.linkUp && !q.d3

/-- A write of domain `d` can reach the register fabric now: a port's write needs a port that answers (R75). -/
def State.domAnswers (s : State) (d : Dom) : Bool :=
  match d with
  | .pcie0 => s.portAnswers 0
  | .pcie1 => s.portAnswers 1
  | _ => true

/-- PAGE_CTL.LOCK of a page (R18). -/
def State.locked (s : State) (p : Nat) : Bool := s.flag (Reg.pageCtl p) 2

/-- PAGE_CTL.SRST of a page: a page reset is under way (R94). -/
def State.srst (s : State) (p : Nat) : Bool := s.flag (Reg.pageCtl p) 1

/-- A write of `v` is discarded whole: a wrong KEY or a bit where the table says Must be 0 (R720). -/
def discardedWhole (r : RegRow) (v : Word) : Bool :=
  (v &&& word r.mbz != 0) ||
  (match r.key with
   | some k => decide (wfld v 31 16 ≠ k)
   | none => false)

/-- Whether a field value is one of the encodings not reserved (R20). -/
def encOk (e : EncRange) (v : Word) : Bool :=
  e.ok.any (fun iv => decide (iv.1 ≤ wfld v e.top e.bot) && decide (wfld v e.top e.bot ≤ iv.2))

/-- A written word in which every field with a reserved encoding carries the register's previous value (R20). -/
def keepReserved (es : List EncRange) (old v : Word) : Word :=
  es.foldl (fun acc e => if encOk e v then acc else setFld acc e.top e.bot (wfld old e.top e.bot)) v

/-- The bits of a register that a write changes for good (R18). -/
def rwBits (addr : Nat) : Word :=
  match regRow? addr with
  | some r => word r.rw
  | none => 0

/-- The effect of an accepted write on a register's own bits, by the access codes of R18; a reserved encoding is refused
by its field alone (R20). -/
def State.plainWrite (s : State) (addr : Nat) (v : Word) : State :=
  match regRow? addr with
  | none => s
  | some r =>
    let p := addr / 0x1000
    let old := s.rd addr
    let v' := keepReserved r.enc old v
    let wm := word r.rw ||| word r.rws ||| (if s.locked (ownPage p) then 0 else word r.rwl)
    let new := ((old &&& ~~~wm) ||| (v' &&& wm)) &&& ~~~(v &&& word r.w1c) ||| (v &&& word r.w1s)
    let s := s.wr addr new
    if r.enc.all (fun e => encOk e v) then s else s.refuse (ownPage p)

/-- The registers held in the CTRL island (R89). -/
def ctrlHeld (addr : Nat) : Bool :=
  let o := addr % 0x1000
  decide (addr / 0x1000 < 0x100) && (decide (o < 0x10) || decide (o = 0x14))

/-- The clock island that holds a register's block (PAGE_STAT.ISLAND, R89). -/
def islandOf (addr : Nat) : Nat := (pageInfo (addr / 0x1000)).island

/-- The domain-0 write to a page that another domain holds is counted (R110). -/
def State.countOverride (s : State) (d : Dom) (addr : Nat) : State :=
  match s.owner (ownPage (addr / 0x1000)) with
  | .held e => if d = .stw ∧ e ≠ .stw then s.incSat Reg.ownStwOverride else s
  | _ => s

/-- The island that acts on a firing's action: CTRL on a rendezvous, SLOW on the others (R179). -/
def actIsland (a : Nat) : Nat := if a = 6 then 26 else 27

/-- The state with access `h` held for island `i`. -/
def State.holdFor (s : State) (i : Nat) (h : HeldWrite) : State :=
  { s with fab := { s.fab with held := sset [] i (sget [] i s.fab.held ++ [h]) s.fab.held } }

/-- The state with access `h` held for the page reset of page `p`. -/
def State.holdSrst (s : State) (p : Nat) (h : HeldWrite) : State :=
  { s with fab := { s.fab with srstHeld := sset [] p (sget [] p s.fab.srstHeld ++ [h]) s.fab.srstHeld } }

/-- A warm reset has begun and host accesses still meet it (R96). -/
def State.inWarm (s : State) : Bool := decide (s.time.up < s.fab.warmEnd)

/-- The writes among held accesses. -/
def heldWrites (hs : List HeldWrite) : List HeldWrite := hs.filter (fun h => h.reader.isNone)

/-- A write of `v` from domain `d` reaches BAR0 offset `addr`; `who` names the command queue or steward that sends it. The
register fabric in reset discards it, counted on the sender's side (R37, R43), and stopped holds it (R40); absent pages discard it (R84), the
ownership check judges it (R98, R107), an island in reset discards it (R41), a stopped island holds up to eight (R91), a
page in page reset holds it (R94), a wrong KEY or a bit where the table says Must be 0 discards it whole (R720); else `eff`
is its effect. -/
def State.busWrite (s : State) (d : Dom) (addr : Nat) (v : Word) (eff : State → State) (who : Option Requester := none) :
    State :=
  let p := addr / 0x1000
  let i := islandOf addr
  if s.fab.inReset.getLsbD 26 then s.crossLost (s.fromIsland d who) 26 1
  else if s.inWarm then s
  else if s.fab.stopped.getLsbD 26 then s.holdFor 26 { dom := d, addr := addr, val := v, who := who }
  else if s.pageExists p = false then s
  else if s.mayWrite d addr = false then s.denyWrite d addr v
  else
    let s := s.countOverride d addr
    if ctrlHeld addr then s
    else if s.fab.inReset.getLsbD i then s.ctrlLost i 1
    else if s.fab.stopped.getLsbD i then
      if (heldWrites (sget [] i s.fab.held)).length < 8 then s.holdFor i { dom := d, addr := addr, val := v, who := who }
      else s.ctrlLost i 1
    else if s.srst (ownPage p) then s.holdSrst (ownPage p) { dom := d, addr := addr, val := v, who := who }
    else
      match regRow? addr with
      | some r => if discardedWhole r v then s.refuse (ownPage p) else eff s
      | none => eff s

/-- STW.ROLE state of steward `b`: 0 OFFLINE, 1 STARTING, 2 STANDBY, 3 ACTIVE, 4 FAILED (R606). -/
def State.stwState (s : State) (b : Nat) : Nat := if b = 0 then s.fld Reg.stwRole 2 0 else s.fld Reg.stwRole 6 4

/-- The ACTIVE steward, if there is one (R606). -/
def State.activeStw (s : State) : Option Nat :=
  if s.stwState 0 = 3 then some 0 else if s.stwState 1 = 3 then some 1 else none

/-- A register write that a port, the downlink or a steward sends: a port that does not answer takes none (R75), and a
steward that is not ACTIVE has its write discarded and counted (R607). -/
def State.hostWrite (s : State) (d : Dom) (addr : Nat) (v : Word) (eff : State → State) : State :=
  if d = .stw ∧ s.activeStw = none then s.incFSat Reg.stwXlost 15 0
  else if s.domAnswers d then s.busWrite d addr v eff
  else s

/-- The domain on whose copies a requester's reads act (R99): a command queue reads as the domain of its port (R458). -/
def State.reqDom (s : State) (r : Requester) : Nat :=
  match r with
  | .port p => 1 + p.val
  | .queue q => 1 + (s.flag (Reg.qcmdCtl q.val) 4).toNat
  | .downlink => 3
  | .steward _ => 0

/-- Enters or ends declared degradation `i`, and SYS.STATUS.DEGRADED follows (R58, R66). -/
def State.setDegraded (s : State) (i : Nat) (b : Bool) : State :=
  let m : BitVec 40 := BitVec.ofNat 40 (2 ^ i)
  let g := if b then s.fab.degraded ||| m else s.fab.degraded &&& ~~~m
  { s with fab := { s.fab with degraded := g } }.setFlag Reg.sysStatus 1 (g != 0)

/-- NR-0512 compatibility mode is in force on the uplink (ULNK.CTL.COMPAT). -/
def State.compat (s : State) : Bool := s.flag Reg.ulnkCtl 0

/-- The payload of an IDLE block (R465). -/
def idleWord : DWord := 0x1E00000000000000

/-- Draws the next free value's number. -/
def State.draw (s : State) : State := { s with fresh := s.fresh + 1 }

end Sys2Proof.Machine
end

