-- ==== Sys2Proof/Machine/Time.lean ====
section
/-!
DEFINITION. The time bases MTIME, WTIME and XTIME, their capture units and snapshots, and the commands that act on them
alone (R149 to R171, R186 to R192).
-/
namespace Sys2Proof.Machine

/-- The rounded XTIME increment of one crystal period, in units of 2^-32 tick (R154). -/
def State.xinc (s : State) : Nat :=
  let adj := signed 24 (s.fld Reg.clkXadj 23 0)
  ((40 * 2 ^ 32 : Nat) + (adj * (2 ^ 33 : Nat) + 500000000) / 1000000000 : Int).toNat

/-- TIME.WINC as a 32.32 number (R166). -/
def State.winc (s : State) : Nat := s.rd64 Reg.timeWincLo

/-- CLK.XRATIO as a 32.32 number (R171). -/
def State.xratio (s : State) : Nat := s.nat Reg.clkXratioLo + s.fld Reg.clkXratioHi 7 0 * 2 ^ 32

/-- Ticks per crystal period while the PLL runs on the crystal, in units of 2^-32 tick: XRATIO, or 40.0 where it is not valid or
HOLD_SRC says so (R173). -/
def State.holdRatio (s : State) : Nat :=
  if s.flag Reg.clkStatus 6 && !s.flag Reg.clkCtl 0 then s.xratio else 40 * 2 ^ 32

/-- The crystal periods that end in `n` ticks from now, and what then has run of the next in units of 2^-32 tick: at the rate of
the holdover while the PLL runs on the crystal (R173), else as the two oscillators happen to run (R153). -/
def State.xtalRun (s : State) (n : Nat) : Nat × Nat :=
  let m := s.time
  if m.xtal = false then (0, m.holdRem)
  else if s.flag Reg.clkStatus 3 then
    let q := m.holdRem + n * 2 ^ 32
    (q / s.holdRatio, q % s.holdRatio)
  else (Config.xtalPeriods (m.up + n) - Config.xtalPeriods m.up, 0)

/-- The time bases at MTIME tick `t`: MTIME counts ticks, WTIME takes one step every two ticks (R166), XTIME one increment
per crystal period (R154). Nothing moves back, and nothing moves while the bases stand still (R176). -/
def State.advanceTo (s : State) (t : Nat) : State :=
  let m := s.time
  if m.running = false ∨ t ≤ m.mtime then s
  else
    let up' := m.up + (t - m.mtime)
    let xp := s.xtalRun (t - m.mtime)
    { s with time := { m with
        mtime := t
        up := up'
        holdRem := xp.2
        wacc := (m.wacc + (up' / 2 - m.up / 2) * s.winc) % 2 ^ 96
        xacc := (m.xacc + xp.1 * s.xinc) % 2 ^ 96 } }

/-- WTIME and XTIME, with their fractions, as they stood `n` ticks ago (R166, R154, R173). -/
def State.basesAgo (s : State) (n : Nat) : Nat × Nat :=
  let m := s.time
  let u := m.up - n
  let xp := if m.xtal = false then 0
    else if s.flag Reg.clkStatus 3 then (n * 2 ^ 32 + s.holdRatio - 1 - m.holdRem) / s.holdRatio
    else Config.xtalPeriods m.up - Config.xtalPeriods u
  ((m.wacc + 2 ^ 96 - (m.up / 2 - u / 2) * s.winc) % 2 ^ 96, (m.xacc + 2 ^ 96 - xp * s.xinc) % 2 ^ 96)

/-- WTIME and XTIME, with their fractions, at MTIME tick `t`, which may lie ahead of now or behind it. -/
def State.basesAt (s : State) (t : Nat) : Nat × Nat :=
  if t < s.time.mtime then s.basesAgo (s.time.mtime - t)
  else ((s.advanceTo t).time.wacc, (s.advanceTo t).time.xacc)

/-- The state once `u` ticks have passed since the master PLL first locked; timers of a fixed length use this count, which
SYNC does not move. -/
def State.elapse (s : State) (u : Nat) : State := s.advanceTo (s.time.mtime + (u - s.time.up))

/-- The frame of a tick (R8). -/
abbrev frameOf (t : Nat) : Nat := t / 65536

/-- TIME.STATUS.EPHASE (R725). -/
def State.ephase (s : State) : Nat := s.fld Reg.timeStatus 7 6

/-- The first TIME-island clock edge at tick `t` or later (R725). -/
def State.edgeAt (s : State) (t : Nat) : Nat := t + (s.ephase + 4 - t % 4) % 4

/-- The tick count of the base that timer instance `i` belongs to (R177). -/
def State.baseTick (s : State) (i : Nat) : Nat :=
  if i < 8 then s.time.mtime
  else if i < 16 then s.time.wacc / 2 ^ 32
  else s.time.xacc / 2 ^ 32

/-- Bits 31:24 of the fraction of the base of instance `i`; 0 for MTIME (R187, R190). -/
def State.baseBin (s : State) (i : Nat) : Nat :=
  if i < 8 then 0
  else if i < 16 then s.time.wacc / 2 ^ 24 % 256
  else s.time.xacc / 2 ^ 24 % 256

/-- Capture unit `i` takes an event of source `src` whose time is MTIME `at'` bins and the fine bases `w` and `x`
(R186 to R188). -/
def State.captureUnit (s : State) (src at' w x : Nat) (rising : Bool) (i : Nat) : State :=
  let c := Reg.timeCapCtl i
  let edge := s.fld c 9 8
  let fits := decide (3 < src) || decide (edge = 2) || decide (edge = if rising then 0 else 1)
  if s.flag c 0 && decide (s.fld c 6 1 = src) && fits then
    if s.flag (Reg.timeCapStat i) 31 then (s.incSat (Reg.timeCapLost i)).stick Pg.time 0x20000
    else
      let b := if i < 8 then at' else if i < 16 then w / 2 ^ 24 else x / 2 ^ 24
      let s := s.wr (Reg.timeCapStat i) (word (2 ^ 31 + b % 256))
      let s := s.wr64 (Reg.timeCapLo i) (b / 256)
      s.raise Pg.time 0x8
  else s

/-- Every capture unit sees an event at a given time (R186, R261). -/
def State.captureAt (s : State) (src at' w x : Nat) (rising : Bool) : State :=
  (List.range 24).foldl (fun s i => s.captureUnit src at' w x rising i) s

/-- Every capture unit sees an event now (R186). -/
def State.capture (s : State) (src : Nat) : State :=
  s.captureAt src (s.time.mtime * 256) s.time.wacc s.time.xacc true

/-- A snapshot of the three bases into the block of domain `d` (R190). -/
def State.snapshot (s : State) (d : Nat) : State :=
  let s := s.wr64 (Reg.timeSnapMLo d) s.time.mtime
  let s := s.wr64 (Reg.timeSnapWLo d) (s.baseTick 8)
  let s := s.wr64 (Reg.timeSnapXLo d) (s.baseTick 16)
  let s := s.wr (Reg.timeSnapBin d) (word (s.baseBin 8 * 256 + s.baseBin 16))
  s.inc (Reg.timeSnapSeq d)

/-- Effect of a write of `v` to TIME.SNAP from domain `d` (R190). -/
def State.snapWrite (s : State) (d : Dom) (v : Word) : State := if v.getLsbD 0 then s.snapshot (domIdx d) else s

/-- Effect of a write of TIME.WINC_LO: staged only (R167). -/
def State.wincLoWrite (s : State) (v : Word) : State := { s with time := { s.time with wincStage := some v } }

/-- Effect of a write of TIME.WINC_HI: the 64-bit increment takes effect, or is refused out of range (R167). Where no LO has been
staged, the low word is the WINC_LO in force. DESIGN CHOICE (entry 62). -/
def State.wincHiWrite (s : State) (v : Word) : State :=
  let lo := s.time.wincStage.getD (s.rd Reg.timeWincLo)
  let n := v.toNat * 2 ^ 32 + lo.toNat
  let s := { s with time := { s.time with wincStage := none } }
  if 0x1FC000000 ≤ n ∧ n ≤ 0x204000000 then s.wr64 Reg.timeWincLo n else s.refuse Pg.time

/-- Effect of a write of TIME.WCTL: a WTIME load is scheduled or refused (R168, R169). -/
def State.wctlWrite (s : State) (v : Word) : State :=
  if v.getLsbD 0 = false then s
  else if s.flag Reg.timeStatus 1 ∨ s.rd64 Reg.timeWloadAtLo < s.now + 64 then s.refuse Pg.time
  else (s.setFlag Reg.timeWctl 0 true).setFlag Reg.timeStatus 2 true

/-- SNAP (R190): a write of TIME.SNAP from domain `d`. -/
def execSnap (d : Dom) (v : Word) (s : State) : Host.Outcome State Fault Refusal :=
  .next (s.hostWrite d Reg.timeSnap v (fun s => s.snapWrite d v))

/-- XADJ_WRITE (R154, R155): the ADJ value counts from the next crystal period. -/
def execXadjWrite (d : Dom) (v : Word) (s : State) : Host.Outcome State Fault Refusal :=
  .next (s.hostWrite d Reg.clkXadj v (fun s => s.plainWrite Reg.clkXadj v))

/-- WINC_LO_WRITE (R167). -/
def execWincLoWrite (d : Dom) (v : Word) (s : State) : Host.Outcome State Fault Refusal :=
  .next (s.hostWrite d Reg.timeWincLo v (fun s => s.wincLoWrite v))

/-- WINC_HI_WRITE (R167). -/
def execWincHiWrite (d : Dom) (v : Word) (s : State) : Host.Outcome State Fault Refusal :=
  .next (s.hostWrite d Reg.timeWincHi v (fun s => s.wincHiWrite v))

/-- WSTEP_SCHEDULE (R168, R169): a write of TIME.WCTL. -/
def execWstepSchedule (d : Dom) (v : Word) (s : State) : Host.Outcome State Fault Refusal :=
  .next (s.hostWrite d Reg.timeWctl v (fun s => s.wctlWrite v))

/-- XTAL_START (R723, R155): the crystal oscillates and XTIME counts. -/
def execXtalStart (s : State) : Host.Outcome State Fault Refusal :=
  .next ({ s with time := { s.time with xtal := true } }.setFlag Reg.clkStatus 5 true)

/-- XTAL_FAIL (R176): the crystal stops; while REF is lost all three bases stop with it. CLK.STATUS.PLL_SRC goes on showing the
crystal where it fails in holdover. DESIGN CHOICE (entry 82). -/
def execXtalFail (s : State) : Host.Outcome State Fault Refusal :=
  let hold := s.time.refLost
  let s := { s with time := { s.time with xtal := false, running := s.time.running && !hold } }
  .next (((s.setFlag Reg.clkStatus 5 false).raise Pg.clk 0x8).stick Pg.clk 0x20000)

/-- A spread lies outside the limits of R149: depth above 0.5 %, modulation outside 30 kHz to 33 kHz, a slope above 400 ppm per
µs, or a spread that is not downspread only. -/
def spreadOut (depth : Nat) (form : SpreadForm) : Bool :=
  decide (500 < depth) || decide (form.fmod < 30000) || decide (33000 < form.fmod) || decide (400 < form.slope) || !form.down

/-- SPREAD_REPORT (R152): once per second the monitor reports depth (0.001 %), modulation frequency (Hz), the steepest slope of
its profile (ppm per µs), whether it is downspread only, and the mean offset of REF, and flags a spread outside R149. -/
def execSpreadReport (depth : Nat) (form : SpreadForm) (offset : Word) (s : State) : Host.Outcome State Fault Refusal :=
  let spread := decide (50 ≤ depth)
  let s := s.wr Reg.clkSpread (word (Nat.min depth 0xFFFF * 2 ^ 16 + (if spread then Nat.min form.fmod 0xFFFF else 0)))
  let s := s.wr Reg.clkRefOffset offset
  let s := s.setFlag Reg.clkStatus 1 spread
  if spread && spreadOut depth form then
    .next ((s.raise Pg.clk 0x4).stick Pg.clk 0x10000)
  else .next s

/-- XRATIO_WINDOW (R171): a window of 2^25 crystal periods ends; a window in which REF stayed in range gives XRATIO. -/
def execXratioWindow (ratio : Nat) (refInRange : Bool) (s : State) : Host.Outcome State Fault Refusal :=
  if refInRange then
    let s := s.wr Reg.clkXratioLo (word ratio)
    let s := s.setF Reg.clkXratioHi 7 0 (ratio / 2 ^ 32)
    .next (s.setFlag Reg.clkStatus 6 true)
  else .next s

/-- TIME_OUT_PULSE_END (R179, R186): the pulse in progress ends after its last tick; an active-low TIME_OUT rises there. -/
def execTimeOutPulseEnd (s : State) : Host.Outcome State Fault Refusal :=
  match s.time.outEnd with
  | none => .next s
  | some e =>
    let s := s.advanceTo e
    let s := { s with time := { s.time with outEnd := none } }
    let b := s.basesAt e
    .next (if s.flag Reg.timeOutCtl 16 then s.captureAt 40 (e * 256) b.1 b.2 true else s)

end Sys2Proof.Machine
end

