-- ==== Sys2Proof/Machine/Memory.lean ====
section
/-!
DEFINITION. The hub's memories: per-byte SEC-DED, poison, DRAM pages, error accounting, injection, remapping, retirement
and the scrubber (R499 to R533, R722).
-/
namespace Sys2Proof.Machine

/-- The key of an address of a memory. -/
abbrev memKey (code addr : Nat) : Nat := code * 2 ^ 36 + addr

/-- The size of a memory in bytes (R31, R499, R509). -/
def memSize (code : Nat) : Nat :=
  if code = 0 then 0x3000000
  else if code < 13 then 0x40000
  else if code < 25 then 0x20000
  else 2 ^ 33

/-- The value of a segment map at `k`, 0 outside every segment. -/
def segGet (k : Nat) : List (Nat × Nat × Nat) → Nat
  | [] => 0
  | (lo, hi, v) :: r => if lo ≤ k ∧ k < hi then v else segGet k r

/-- A segment map without the keys from `a` to `b`. -/
def segCut (a b : Nat) : List (Nat × Nat × Nat) → List (Nat × Nat × Nat)
  | [] => []
  | (lo, hi, v) :: r =>
    (if lo < Nat.min hi a then [(lo, Nat.min hi a, v)] else [])
      ++ (if Nat.max lo b < hi then [(Nat.max lo b, hi, v)] else []) ++ segCut a b r

/-- Puts a segment in key order. -/
def segIns (x : Nat × Nat × Nat) : List (Nat × Nat × Nat) → List (Nat × Nat × Nat)
  | [] => [x]
  | y :: r => if x.1 < y.1 then x :: y :: r else y :: segIns x r

/-- Joins a segment with an adjacent one of the same value. -/
def segCons (x : Nat × Nat × Nat) : List (Nat × Nat × Nat) → List (Nat × Nat × Nat)
  | [] => [x]
  | y :: r => if x.2.1 = y.1 ∧ x.2.2 = y.2.2 then (x.1, y.2.1, x.2.2) :: r else x :: y :: r

/-- A segment map with the keys from `a` to `b` set to `v`. -/
def segSet (a b v : Nat) (m : List (Nat × Nat × Nat)) : List (Nat × Nat × Nat) :=
  if b ≤ a then m
  else
    let c := segCut a b m
    (if v = 0 then c else segIns (a, b, v) c).foldr segCons []

/-- The number of keys from `a` to `b` that lie in a segment. -/
def segCount (a b : Nat) (m : List (Nat × Nat × Nat)) : Nat :=
  m.foldl (fun n x => n + (Nat.min x.2.1 b - Nat.max x.1 a)) 0

/-- The background of a key: its byte, or `none` for poison. -/
def MemSt.back (m : MemSt) (k : Nat) : Option Byte :=
  match segGet k m.bg with
  | 0 => none
  | p + 1 => some (BitVec.ofNat 8 (p / 2 ^ (8 * (k % 4))))

/-- The byte held at a key, or `none` where it is poison. -/
def MemSt.byte (m : MemSt) (k : Nat) : Option Byte :=
  match m.cells.find? (fun c => decide (c.1 = k)) with
  | some c => some c.2
  | none => m.back k

/-- A memory with one byte stored; a byte equal to its background is not listed. -/
def MemSt.put (m : MemSt) (k : Nat) (b : Byte) : MemSt :=
  { m with cells := if m.back k = some b then m.cells.filter (fun c => decide (c.1 ≠ k)) else sins k b m.cells }

/-- The state with the memories changed by `f`. -/
def State.updMem (s : State) (f : MemSt → MemSt) : State := { s with mem := f s.mem }

/-- The canonical form of the listed bytes: keys rise and none equals its background. -/
def cellsWf (m : MemSt) : List Host.Cell → Bool
  | [] => true
  | [c] => decide (m.back c.1 ≠ some c.2)
  | c :: d :: r => decide (c.1 < d.1) && decide (m.back c.1 ≠ some c.2) && cellsWf m (d :: r)

/-- The canonical form of the memory. -/
def MemSt.wf (m : MemSt) : Bool := cellsWf m m.cells

/-- How a byte reads: its value, whether it was corrected, whether it is uncorrectable, and its syndrome code. -/
structure ByteRead where
  val : Byte := 0
  corr : Bool := false
  ue : Bool := false
  syn : Nat := 0
  deriving DecidableEq, Repr

/-- The decoding of a cell (R499, R503, R722). Poison lies two bits or more from every codeword, so with one bit flipped it is
none of them and never reads as clean. -/
def decodeCell (b : Option Byte) (mask : Nat) : ByteRead :=
  let n := popCount 13 mask
  match b with
  | none =>
    if n = 0 then { ue := true, syn := 31 }
    else
      let r := Config.eccDecode true 0 mask
      if r % 3 = 2 ∨ (n = 1 ∧ r % 3 = 0) then { ue := true, syn := 30 }
      else { val := BitVec.ofNat 8 (r / 3), corr := decide (r % 3 = 1), syn := if r % 3 = 1 then 1 + r / 3 / 256 % 13 else 0 }
  | some v =>
    if n = 0 then { val := v }
    else if n = 1 then { val := v, corr := true, syn := 1 + Nat.log2 mask }
    else if n = 2 then { ue := true, syn := 30 }
    else
      let r := Config.eccDecode false v mask
      if r % 3 = 2 then { ue := true, syn := 30 }
      else { val := BitVec.ofNat 8 (r / 3), corr := decide (r % 3 = 1), syn := if r % 3 = 1 then 1 + r / 3 / 256 % 13 else 0 }

/-- The registers of the bucket of memory `code`: CFG, STAT, CE and UE (R517, R519). -/
def bucketRegs (code : Nat) : Nat × Nat × Nat × Nat :=
  if code = 25 then (Reg.deccBcfg, Reg.deccBstat, Reg.deccCe, Reg.deccUe)
  else (Reg.seccBcfg code, Reg.seccBstat code, Reg.seccCe code, Reg.seccUe code)

/-- The page that accounts for a memory. -/
def bucketPage (code : Nat) : Nat := if code = 25 then Pg.decc else Pg.secc

/-- COUNT of a bucket becomes `n`: OVER follows it, and a crossing is signalled (R519, R520). -/
def State.setBucket (s : State) (code n : Nat) : State :=
  let (c, st, _, _) := bucketRegs code
  let lim := s.fld c 31 16
  let was := s.flag st 16
  let s := (s.setF st 15 0 n).setFlag st 16 (decide (lim < n))
  if decide (lim < n) && !was then s.raise (bucketPage code) 0x4 else s

/-- Effect of a write of a bucket's CFG: COUNT stays, and OVER is judged by the new LIMIT (R520). -/
def State.bucketCfgWrite (s : State) (code : Nat) (v : Word) : State :=
  let (c, st, _, _) := bucketRegs code
  (s.plainWrite c v).setBucket code (s.fld st 15 0)

/-- An entry of the SECC log (R521, R722). Word 0 of an entry written is never 0: it has UE set or names a syndrome. -/
def State.seccLogEntry (s : State) (code addr syn : Nat) (ue : Bool) : State :=
  let e := s.fld Reg.seccLogHead 3 0
  let full := decide (s.rd (Reg.seccLog e 0) ≠ 0)
  let s := s.wr (Reg.seccLog e 0) (word (packFields [(5, code), (1, ue.toNat), (5, 0), (5, syn), (16, 0)]))
  let s := (s.wr (Reg.seccLog e 1) (word addr)).wr64 (Reg.seccLog e 2) s.now
  let s := (s.setF Reg.seccLogHead 3 0 (e + 1)).incF Reg.seccLogHead 31 4
  let s := s.raise Pg.secc (if ue then 2 else 1)
  if full then s.raise Pg.secc 0x8 else s

/-- A corrected byte is counted, and logged when LOG_CE is 1 (R517, R518, R521). -/
def State.countCe (s : State) (code addr syn : Nat) : State :=
  let (_, st, ce, _) := bucketRegs code
  let s := (s.incSat ce).setBucket code (Nat.min (s.fld st 15 0 + 1) 65535)
  if s.flag Reg.seccCtl 0 then s.seccLogEntry code addr syn false else s

/-- An uncorrectable read is counted and logged with its first failing byte (R517, R521, R722). -/
def State.countUe (s : State) (code addr syn : Nat) : State :=
  let (_, _, _, ue) := bucketRegs code
  ((s.incSat ue).stick Pg.secc 0x10000).seccLogEntry code addr syn true

/-- Reads `n` bytes of an SRAM-class memory as one read: the bytes, with a free value for an uncorrectable one, and
whether the read is uncorrectable (R501, R502, R517). -/
def State.smRead (s : State) (code addr n : Nat) : State × List Byte × Bool :=
  let rs := (List.range n).map (fun i =>
    let k := memKey code (addr + i)
    decodeCell (s.mem.byte k) (sget 0 k s.mem.flips))
  let ue := rs.any (fun r => r.ue)
  let first := rs.findIdx (fun r => r.ue)
  let f := s.fresh
  let s := (List.range n).foldl (fun s i =>
    let r := rs.getD i {}
    if r.corr then s.countCe code (addr + i) r.syn
    else if r.ue && decide (i = first) then s.countUe code (addr + i) r.syn
    else s) s
  let s := if ue then { s with fresh := f + n } else s
  let bs := (List.range n).map (fun i =>
    let r := rs.getD i {}
    if r.ue then Config.freeByte (f + i) else r.val)
  (s, bs, ue)

/-- Writes one byte of an SRAM-class memory; an armed injection flips bits of it (R500, R523). -/
def State.smPut (s : State) (code addr : Nat) (b : Byte) : State :=
  let k := memKey code addr
  let armed := s.flag Reg.seccInject 31 && decide (s.fld Reg.seccInject 28 24 = code)
  let mask := if armed then s.fld Reg.seccInject 12 0 else 0
  let s := s.updMem (fun m => { m.put k b with flips := sset 0 k mask m.flips })
  if armed then s.setFlag Reg.seccInject 31 false else s

/-- Writes bytes of an SRAM-class memory at successive addresses (R500). -/
def State.smWrite (s : State) (code : Nat) : Nat → List Byte → State
  | _, [] => s
  | a, b :: r => (s.smPut code a b).smWrite code (a + 1) r

/-- Bytes from island `src` cross to the hub SRAM (R37, R40). -/
def State.memPut (s : State) (src a : Nat) (bs : List Byte) : State := s.offer (.mem src a bs) (fun s => s.smWrite 0 a bs)

/-- A read of `n` bytes of the hub SRAM from island `src`. A sealed crossing loses the transfer (R37); what the reader then takes
for its bytes is open: a free value (entry 86). -/
def State.memGet (s : State) (src a n : Nat) : State × List Byte × Bool :=
  if s.sealedOff src || s.sealedOff 18 then
    ({ s with fresh := s.fresh + n }.xferLost src 18, (List.range n).map (fun i => Config.freeByte (s.fresh + i)), false)
  else s.smRead 0 a n

/-- The memory island has no clock: what reads the hub SRAM waits (R40). -/
def State.memStill (s : State) : Bool := s.fab.stopped.getLsbD 18

/-- Fills a range of an SRAM-class memory with a repeated word, or with poison (R505, R528). -/
def State.smFill (s : State) (code lo hi : Nat) (pat : Option Word) : State :=
  let a := memKey code lo
  let b := memKey code hi
  let out := fun (k : Nat) => decide (k < a) || decide (b ≤ k)
  let s := s.updMem (fun m => { m with
    cells := m.cells.filter (fun c => out c.1)
    flips := m.flips.filter (fun c => out c.1)
    bg := segSet a b (match pat with
      | some w => w.toNat + 1
      | none => 0) m.bg })
  if s.flag Reg.seccInject 31 && decide (s.fld Reg.seccInject 28 24 = code) && decide (lo < hi) then
    (s.updMem (fun m => { m with flips := sset 0 a (s.fld Reg.seccInject 12 0) m.flips })).setFlag Reg.seccInject 31 false
  else s

/-- The number of bits that strength code `t` corrects (R510). -/
def bchBits (t : Nat) : Nat := nth [8, 16, 24, 32, 48, 64, 72, 72] t

/-- An entry of the DECC log (R521, R522). Word 0 of an entry written is never 0: it has UE set or counts bits. -/
def State.deccLogEntry (s : State) (page bits bursts : Nat) (ue : Bool) : State :=
  let e := s.fld Reg.deccLogHead 3 0
  let full := decide (s.rd (Reg.deccLog e 0) ≠ 0)
  let s := s.wr (Reg.deccLog e 0) (word (packFields [(1, ue.toNat), (7, bits), (2, 0), (22, page)]))
  let s := (s.wr (Reg.deccLog e 1) (word bursts)).wr (Reg.deccLog e 2) (word (bursts / 2 ^ 32))
  let s := s.wr64 (Reg.deccLog e 3) s.now
  let s := (s.setF Reg.deccLogHead 3 0 (e + 1)).incF Reg.deccLogHead 31 4
  let s := s.raise Pg.decc (if ue then 2 else 1)
  if full then s.stick Pg.decc 0x80000 else s

/-- Decodes one DRAM page as one read: whether it is corrected and whether it is uncorrectable, counted and logged
(R510, R512, R517, R518, R521, R522). -/
def State.pageRead (s : State) (page : Nat) : State × Bool × Bool :=
  let st := segGet page s.mem.written
  let n := sget 0 page s.mem.dflips
  if st = 0 ∨ bchBits (st - 1) < n then
    let s := ((s.incSat Reg.deccUe).incSat Reg.deccUePages).stick Pg.decc 0x10000
    (s.deccLogEntry page 0 0 true, false, true)
  else if n = 0 then (s, false, false)
  else
    let s := (s.incSat Reg.deccCe).incSat Reg.deccCePages
    let s := s.setBucket 25 (Nat.min (s.fld Reg.deccBstat 15 0 + 1) 65535)
    (if s.fld Reg.deccCtl 14 8 ≤ n then s.deccLogEntry page n 1 false else s, true, false)

/-- The metadata of a page (R368). -/
def State.pageMeta (s : State) (page : Nat) : List DWord := sget [0, 0, 0, 0] page s.mem.meta'

/-- Encodes a page that now holds `bytes` at offset `off`, with the strength of DECC.CTL.T and its metadata; an armed
injection flips bits of it (R512, R513, R515, R523). -/
def State.pagePut (s : State) (page off : Nat) (bytes : List Byte) (md : List DWord) : State :=
  let base := memKey 25 (page * 2048)
  let fresh := decide (segGet page s.mem.written = 0)
  let s := if fresh then s.updMem (fun m => { m with
      cells := m.cells.filter (fun c => decide (c.1 < base) || decide (base + 2048 ≤ c.1))
      bg := segSet base (base + 2048) 1 m.bg }) else s
  let s := s.updMem (fun m => (bytes.foldl (fun (a : MemSt × Nat) b => (a.1.put a.2 b, a.2 + 1)) (m, base + off)).1)
  let armed := s.flag Reg.deccInject 31
  let n := if armed then s.fld Reg.deccInject 6 0 else 0
  let s := s.updMem (fun m => { m with
    written := segSet page (page + 1) (s.fld Reg.deccCtl 2 0 + 1) m.written
    meta' := sset [0, 0, 0, 0] page md m.meta'
    dflips := sset 0 page n m.dflips })
  if armed then s.setFlag Reg.deccInject 31 false else s

/-- Writes bytes of a page, the whole page encoded directly: otherwise the page is read first, and an uncorrectable page refuses
the write (R513). The answer says whether the write was made. -/
def State.pageStore (s : State) (whole : Bool) (page off : Nat) (bytes : List Byte) : State × Bool :=
  let zero : List DWord := [0, 0, 0, 0]
  if whole ∨ segGet page s.mem.written = 0 then (s.pagePut page off bytes zero, true)
  else
    let (s, _, ue) := s.pageRead page
    if ue then ((s.incSat Reg.deccRmwFail).raise Pg.decc 0x8, false)
    else (s.pagePut page off bytes zero, true)

/-- Writes part of a page or a whole page: a part is one read-modify-write (R513). -/
def State.pageWrite (s : State) (page off : Nat) (bytes : List Byte) : State × Bool :=
  s.pageStore (decide (bytes.length = 2048)) page off bytes

/-- The byte of a page that a write leaves as it is: 0 in a page not WRITTEN (R513). -/
def State.pageByte (s : State) (page i : Nat) : Byte :=
  if segGet page s.mem.written = 0 then 0 else (s.mem.byte (memKey 25 (page * 2048 + i))).getD 0

/-- Writes the enabled bytes of a part of a page as one write (R79, R513). -/
def State.pageWriteSome (s : State) (page off : Nat) (bytes : List (Option Byte)) : State × Bool :=
  if bytes.all Option.isNone then (s, true)
  else s.pageStore (decide (bytes.length = 2048) && bytes.all Option.isSome) page off
    ((List.range bytes.length).map (fun i => (bytes.getD i none).getD (s.pageByte page (off + i))))

/-- Writes bytes to DRAM page by page, with fuel for the pages; it stops at the first page that refuses and answers how
many bytes were written (R513). -/
def State.dramWrite (s : State) : Nat → Nat → List Byte → Nat → State × Nat
  | 0, _, _, n => (s, n)
  | fuel + 1, a, bs, n =>
    if bs = [] then (s, n)
    else
      let k := Nat.min bs.length (2048 - a % 2048)
      let (s, ok) := s.pageWrite (a / 2048) (a % 2048) (bs.take k)
      if ok then s.dramWrite fuel (a + k) (bs.drop k) (n + k) else (s, n)

/-- Reads `n` bytes of DRAM: every page covered is one page read; an uncorrectable page gives free values (R502, R512). -/
def State.dramRead (s : State) (a n : Nat) : State × List Byte × Bool :=
  if n = 0 then (s, [], false)
  else
    let p0 := a / 2048
    let cnt := (a + n - 1) / 2048 + 1 - p0
    let r := (List.range cnt).foldl (fun (x : State × List Nat) i =>
      let (s, _, ue) := x.1.pageRead (p0 + i)
      (s, if ue then (p0 + i) :: x.2 else x.2)) (s, [])
    let s := r.1
    let bad := r.2
    let f := s.fresh
    let bs := (List.range n).map (fun i =>
      if bad.contains ((a + i) / 2048) then Config.freeByte (f + i) else (s.mem.byte (memKey 25 (a + i))).getD 0)
    (if bad = [] then s else { s with fresh := f + n }, bs, bad ≠ [])

/-- A page of the DRAM, as written by the Tail writer or found by extraction: its 256 words. -/
def State.pageWords (s : State) (page : Nat) : List DWord :=
  (List.range 256).map (fun i => BitVec.ofNat 64 (leNat ((List.range 8).map (fun j =>
    (s.mem.byte (memKey 25 (page * 2048 + i * 8 + j))).getD 0))))

/-- Reads bytes of any memory as one read. -/
def State.memRead (s : State) (code addr n : Nat) : State × List Byte × Bool :=
  if code = 25 then s.dramRead addr n else s.smRead code addr n

/-- TAIL.PAGES and DECC.RETIRED follow the RETIRED marks and the region (R363). -/
def State.showPages (s : State) : State :=
  let a := s.fld Reg.tailRegionFirst 12 0 * 512
  let b := (s.fld Reg.tailRegionLast 12 0 + 1) * 512
  let s := s.wr Reg.deccRetired (word (segCount 0 (2 ^ 22) s.mem.retired))
  s.wr Reg.tailPages (word ((b - a) - segCount a b s.mem.retired))

/-- The unit of the scrubber in a memory (R528). -/
def scrubUnit (code : Nat) : Nat := if code < 13 then 8 else if code < 25 then 4 else 2048

/-- The Tail overlay runs (R364, R365, R529). -/
def State.tailRunning (s : State) : Bool := s.flag Reg.tailStatus 0

/-- GO is refused (R529). -/
def State.scrubRefused (s : State) (v : Word) : Bool :=
  let m := wfld v 12 8
  let mode := wfld v 1 0
  let lo := s.rd64 Reg.scrubStartLo
  let hi := s.rd64 Reg.scrubEndLo
  let u := scrubUnit m
  decide (hi ≤ lo) || decide (memSize m < hi) || decide (lo % u ≠ 0) || decide (hi % u ≠ 0) || decide (mode = 3)
    || decide (wfld v 5 4 = 3) || decide (25 < m) || (decide (m = 25) && decide (s.variant = .s)) || s.mem.scrub.isSome
    || (decide (mode = 2) && decide (13 ≤ m) && decide (m < 25)
        && (List.range 8).any (fun e => decide (s.fld (Reg.eclEstat (m - 13) e) 2 0 ≠ 0)))
    || (decide (mode = 2) && decide (m = 25) && s.tailRunning
        && decide (lo < (s.fld Reg.tailRegionLast 12 0 + 1) * 2 ^ 20) && decide (s.fld Reg.tailRegionFirst 12 0 * 2 ^ 20 < hi))

/-- Effect of a write of SCRUB.CTL (R528, R529). -/
def State.scrubCtlWrite (s : State) (v : Word) : State :=
  if v.getLsbD 31 = false then s.plainWrite Reg.scrubCtl v
  else if s.scrubRefused v then (s.plainWrite Reg.scrubCtl (setBit v 31 false)).refuse Pg.scrub
  else
    let s := (s.plainWrite Reg.scrubCtl v).setF Reg.scrubStat 2 0 1
    s.updMem (fun m => { m with scrub := some ⟨wfld v 12 8, wfld v 1 0, wfld v 5 4, s.rd64 Reg.scrubStartLo,
      s.rd64 Reg.scrubEndLo, s.time.up⟩ })

/-- What a scrubber operation has found (R532): units read, corrected, uncorrectable, first and last failing address. -/
structure ScrubRes where
  read : Nat := 0
  corr : Nat := 0
  unc : Nat := 0
  first : Option Nat := none
  last : Nat := 0
  deriving DecidableEq, Repr

/-- The result with one more unit at address `a`. -/
def ScrubRes.add (r : ScrubRes) (a : Nat) (corr unc : Bool) : ScrubRes :=
  { read := r.read + 1
    corr := r.corr + corr.toNat
    unc := r.unc + unc.toNat
    first := if corr || unc then some (r.first.getD a) else r.first
    last := if corr || unc then a else r.last }

/-- One unit of CHECK or SCRUB: decoded, and in SCRUB written back when it had a corrected error, but for bytes that nothing
could correct (R501, R528, R531). -/
def State.scrubOne (s : State) (o : ScrubOp) (r : ScrubRes) (a : Nat) : State × ScrubRes :=
  if o.mem = 25 then
    let p := a / 2048
    if segGet p s.mem.written = 0 then (s, r)
    else
      let (s, corr, ue) := s.pageRead p
      let s := if corr && decide (o.mode = 1) then s.pagePut p 0 [] (s.pageMeta p) else s
      (s, r.add a corr ue)
  else
    let u := scrubUnit o.mem
    let rd := fun (i : Nat) => decodeCell (s.mem.byte (memKey o.mem (a + i))) (sget 0 (memKey o.mem (a + i)) s.mem.flips)
    let corr := (List.range u).any (fun i => (rd i).corr)
    let (s', _, ue) := s.smRead o.mem a u
    let s' := if corr && decide (o.mode = 1) then
        ((List.range u).filter (fun i => !(rd i).ue)).foldl (fun s i => s.smPut o.mem (a + i) (rd i).val) s'
      else s'
    (s', r.add a corr ue)

/-- FILL of a DRAM range (R528). -/
def State.dramFill (s : State) (lo hi : Nat) (pat : Option Word) : State :=
  let a := memKey 25 lo
  let b := memKey 25 hi
  let pg := fun (p : Nat) => decide (p < lo / 2048) || decide (hi / 2048 ≤ p)
  let clear := fun (m : MemSt) => { m with
    cells := m.cells.filter (fun c => decide (c.1 < a) || decide (b ≤ c.1))
    meta' := m.meta'.filter (fun c => pg c.1)
    dflips := m.dflips.filter (fun c => pg c.1) }
  match pat with
  | none => s.updMem (fun m => { clear m with
      bg := segSet a b 0 m.bg, written := segSet (lo / 2048) (hi / 2048) 0 m.written })
  | some w =>
    let s := s.updMem (fun m => { clear m with
      bg := segSet a b (w.toNat + 1) m.bg
      written := segSet (lo / 2048) (hi / 2048) (s.fld Reg.deccCtl 2 0 + 1) m.written })
    if s.flag Reg.deccInject 31 then
      (s.updMem (fun m => { m with dflips := sset 0 (lo / 2048) (s.fld Reg.deccInject 6 0) m.dflips })).setFlag Reg.deccInject 31 false
    else s

/-- The first `n` units of the scrubber's operation (R528); a FILL decodes none (R532). -/
def State.scrubUnits (s : State) (o : ScrubOp) (n : Nat) : State × ScrubRes :=
  let u := scrubUnit o.mem
  if o.mode = 2 then
    let hi := o.lo + n * u
    let pat := if o.pat = 0 then some 0 else if o.pat = 1 then none else some (s.rd Reg.scrubPattern)
    (if o.mem = 25 then s.dramFill o.lo hi pat else s.smFill o.mem o.lo hi pat, {})
  else (List.range n).foldl (fun x i => x.1.scrubOne o x.2 (o.lo + i * u)) (s, {})

/-- The results of an operation that has run for `ticks` ticks (R532). -/
def State.scrubReport (s : State) (r : ScrubRes) (ticks : Nat) : State :=
  let s := ((s.wr Reg.scrubRead (word r.read)).wr Reg.scrubCorr (word r.corr)).wr Reg.scrubUncorr (word r.unc)
  let s := (s.wr64 Reg.scrubFirstLo (r.first.getD 0)).wr64 Reg.scrubLastLo r.last
  let s := s.wr Reg.scrubElapsed (word ((ticks + 1999) / 2000))
  let s := s.updMem (fun m => { m with scrub := none })
  if r.unc = 0 then s else (s.raise Pg.scrub 0x2).stick Pg.scrub 0x10000

/-- The scrubber's operation is carried out and its results are reported (R532). -/
def State.scrubRun (s : State) (o : ScrubOp) (ticks : Nat) : State :=
  let x := s.scrubUnits o ((o.hi - o.lo) / scrubUnit o.mem)
  let s := x.1.scrubReport x.2 ticks
  ((s.setFlag Reg.scrubCtl 31 false).setF Reg.scrubStat 2 0 2).raise Pg.scrub 0x1

/-- A SCRUB page reset ends a running operation after its current unit, with the results so far; how many units have run is
a free value (R530, R533). -/
def State.scrubAbort (s : State) : State :=
  match s.mem.scrub with
  | none => s
  | some o =>
    let n := 1 + Config.freeNat s.fresh % ((o.hi - o.lo) / scrubUnit o.mem)
    let x := s.draw.scrubUnits o n
    (x.1.scrubReport x.2 (s.time.up - o.start)).setF Reg.scrubStat 2 0 4

/-- Effect of a write to a remap entry: a refused PAGE and BURST keep their values, and VALID takes effect (R20, R524). The copy
to or from the spare keeps the contents of the page. -/
def State.remapWrite (s : State) (r : Nat) (v : Word) : State :=
  let k := Reg.deccRemap r
  let t := s.plainWrite k v
  if s.flag k 31 && decide (t.fld k 27 0 ≠ s.fld k 27 0) then (t.setF k 27 0 (s.fld k 27 0)).refuse Pg.decc else t

/-- Whether a list of page indices rises strictly and stays in range (R526). -/
def retireListOk : List Nat → Bool
  | [] => true
  | [p] => decide (p < 2 ^ 22)
  | p :: q :: r => decide (p < q) && decide (p < 2 ^ 22) && retireListOk (q :: r)

/-- Effect of a write of DECC.RETIRE_CTL (R526). -/
def State.retireCtlWrite (s : State) (v : Word) : State :=
  let s := s.plainWrite Reg.deccRetireCtl (setBit v 31 false)
  if v.getLsbD 31 = false then s
  else if s.tailRunning then s.refuse Pg.decc
  else
    let n := s.fld Reg.deccRetireCount 16 0
    let base := s.fld Reg.deccRetireBase 12 0 * 2 ^ 20
    let (s, bs, ue) := s.dramRead base (if base + 4 * n ≤ 2 ^ 33 then 4 * n else 0)
    let l := (List.range n).map (fun i => leNat ((bs.drop (4 * i)).take 4))
    if ue || decide (2 ^ 33 < base + 4 * n) || !retireListOk l then s.setFlag Reg.deccRetireCtl 0 true
    else (s.updMem (fun m => { m with retired := l.foldl (fun a p => segSet p (p + 1) 1 a) [] })).showPages

/-- Effect of a write of DECC.RETIRE_ADD (R527). -/
def State.retireAddWrite (s : State) (v : Word) : State :=
  if v.getLsbD 31 then
    let p := wfld v 21 0
    (s.updMem (fun m => { m with retired := segSet p (p + 1) 1 m.retired })).showPages
  else s

/-- Effect of a write of DECC.CTL: a strength above 32 is refused while the Tail overlay runs (R20, R365). -/
def State.deccCtlWrite (s : State) (v : Word) : State :=
  if s.tailRunning && decide (3 < wfld v 2 0) then
    ((s.plainWrite Reg.deccCtl (setFld v 2 0 (s.fld Reg.deccCtl 2 0))).refuse Pg.decc).stick Pg.decc 0x20000
  else s.plainWrite Reg.deccCtl v

/-- SCRUB_CHECK (R528): a write of SCRUB.CTL with MODE 0. -/
def execScrubCheck (d : Dom) (v : Word) (s : State) : Host.Outcome State Fault Refusal :=
  let v := setFld v 1 0 0
  .next (s.hostWrite d Reg.scrubCtl v (fun s => s.scrubCtlWrite v))

/-- SCRUB_SCRUB (R531): a write of SCRUB.CTL with MODE 1. -/
def execScrubScrub (d : Dom) (v : Word) (s : State) : Host.Outcome State Fault Refusal :=
  let v := setFld v 1 0 1
  .next (s.hostWrite d Reg.scrubCtl v (fun s => s.scrubCtlWrite v))

/-- SCRUB_FILL (R528): a write of SCRUB.CTL with MODE 2. -/
def execScrubFill (d : Dom) (v : Word) (s : State) : Host.Outcome State Fault Refusal :=
  let v := setFld v 1 0 2
  .next (s.hostWrite d Reg.scrubCtl v (fun s => s.scrubCtlWrite v))

/-- SCRUB_DONE (R532): the operation has taken `ticks` ticks. -/
def execScrubDone (ticks : Nat) (s : State) : Host.Outcome State Fault Refusal :=
  match s.mem.scrub with
  | none => .next s
  | some o => .next ((s.elapse (o.start + ticks)).scrubRun o ticks)

/-- BUCKET_LEAK (R519): the next leak boundary of bucket `k`. -/
def execBucketLeak (k : Fin 26) (s : State) : Host.Outcome State Fault Refusal :=
  let (c, st, _, _) := bucketRegs k
  let p := s.fld c 15 0 * 2000000
  if p = 0 then .next s
  else
    let t := Nat.max s.now (sget 0 k s.mem.leaked)
    let b := (t + p - 1) / p * p
    let s := s.advanceTo b
    let s := s.updMem (fun m => { m with leaked := sset 0 k (b + 1) m.leaked })
    let n := s.fld st 15 0
    .next (if n = 0 then s else s.setBucket k (n - 1))

/-- SECC_INJECT_ARM (R523). -/
def execSeccInjectArm (d : Dom) (v : Word) (s : State) : Host.Outcome State Fault Refusal :=
  .next (s.hostWrite d Reg.seccInject v (fun s => s.plainWrite Reg.seccInject v))

/-- DECC_INJECT_ARM (R523). -/
def execDeccInjectArm (d : Dom) (v : Word) (s : State) : Host.Outcome State Fault Refusal :=
  .next (s.hostWrite d Reg.deccInject v (fun s => s.plainWrite Reg.deccInject v))

/-- REMAP_WRITE. -/
def execRemapWrite (d : Dom) (r : Fin 32) (v : Word) (s : State) : Host.Outcome State Fault Refusal :=
  .next (s.hostWrite d (Reg.deccRemap r) v (fun s => s.remapWrite r v))

/-- RETIRE_LOAD. -/
def execRetireLoad (d : Dom) (v : Word) (s : State) : Host.Outcome State Fault Refusal :=
  .next (s.hostWrite d Reg.deccRetireCtl v (fun s => s.retireCtlWrite v))


end Sys2Proof.Machine
end

