-- ==== Sys2Proof/Machine/Rle.lean ====
section
/-!
DEFINITION. The run-length compressor (R379 to R385): code words, blocks and streams. A closed block leaves as a packet for
its queue.
-/
namespace Sys2Proof.Machine

/-- The state with the stores of the ACQ island changed by `f`. -/
def State.updAcq (s : State) (f : AcqSt → AcqSt) : State := { s with acq := f s.acq }

/-- The state with the queues changed by `f`. -/
def State.updQue (s : State) (f : QueSt → QueSt) : State := { s with que := f s.que }

/-- The number of leading bytes equal to `b`. -/
def runLen (b : Byte) : List Byte → Nat
  | [] => 0
  | c :: r => if c = b then runLen b r + 1 else 0

/-- The number of bytes a literal takes, at most `n`; `none` when that depends on input still to come (R380). -/
def litLen (ended : Bool) : Nat → List Byte → Option Nat
  | 0, _ => some 0
  | _ + 1, [] => if ended then some 0 else none
  | _ + 1, [b] => if b = 0 then some 0 else if ended then some 1 else none
  | n + 1, b :: c :: r => if b = 0 ∨ b = c then some 0 else (litLen ended n (c :: r)).map (· + 1)

/-- The next code word and the input bytes it stands for; `none` when no input is left or when the choice depends on input
still to come (R379, R380). -/
def rleCode (ended : Bool) (bs : List Byte) : Option (List Byte × Nat) :=
  match bs with
  | [] => none
  | b :: _ =>
    let r := runLen b bs
    let waits := !ended && decide (r = bs.length)
    if b = 0 then
      let n := Nat.min r 65535
      if waits && decide (r < 65535) then none
      else if n ≤ 64 then some ([BitVec.ofNat 8 (0x40 + n - 1)], n)
      else some (0xC0 :: leBytes 2 n, n)
    else if 2 ≤ r then
      let n := Nat.min r 4294967295
      if waits && decide (r < 4294967295) then none
      else if n ≤ 65 then some ([BitVec.ofNat 8 (0x80 + n - 2), b], n)
      else some (0xC1 :: b :: leBytes 4 n, n)
    else (litLen ended 5 bs).map (fun n => (BitVec.ofNat 8 n :: bs.take n, n))

/-- The block size that RLE.CTL.BLOCK selects (R381). -/
def State.rleSize (s : State) : Nat := 1024 * 2 ^ s.fld Reg.rleCtl 1 0

/-- The bytes of a block: header and padded payload (R381, R382, R384). -/
def rleBlock (num seq size : Nat) (last : Bool) (coded raw : List Byte) : List Byte :=
  let asRaw := decide (raw.length ≤ coded.length)
  let body := if asRaw then raw else coded
  let w0 := packFields [(4, 1), (1, asRaw.toNat), (1, last.toNat), (2, 0), (16, num), (8, 0), (32, seq)]
  let w1 := packFields [(32, raw.length), (16, body.length), (16, 0)]
  leBytes 8 w0 ++ leBytes 8 w1 ++ body ++ List.replicate (size - 16 - body.length) 0

/-- Stream `key` of the compressor. -/
def State.rle (s : State) (key : Nat) : RleStream := sget {} key s.acq.streams

/-- The state with stream `key` replaced. -/
def State.setRle (s : State) (key : Nat) (x : RleStream) : State :=
  s.updAcq (fun a => { a with streams := sset {} key x a.streams })

/-- The number of the stream of a key (R378, R414). -/
def rleNum (key : Nat) : Nat := if key < 0x10000 then key else key % 0x8000

/-- The key of stream `n` of engine `e` (R414). -/
def rleKey (e n : Nat) : Nat := 0x10000 + e * 0x8000 + n

/-- A block of stream `key` goes to its queue: an engine stream as EVB.RLEQ says, an extraction to the queue of its request
(R378, R414). -/
def State.rleSend (s : State) (key : Nat) (bytes : List Byte) (last : Bool) : State :=
  if 0x10000 ≤ key then
    if s.flag Reg.evbRleq 31 then
      s.updQue (fun q => { q with packets := q.packets ++ [{ queue := s.fld Reg.evbRleq 5 0, src := 1, payload := bytes, last := last }] })
    else s
  else
    match s.acq.cur with
    | none => s
    | some c => s.updQue (fun q => { q with packets := q.packets ++ [{ queue := c.req.queue, src := 2, payload := bytes, last := last, waits := true }] })

/-- Closes the open block of stream `key` (R381 to R384). -/
def State.rleClose (s : State) (key : Nat) (last : Bool) : State :=
  let x := s.rle key
  if x.size = 0 then s
  else
    let s := s.rleSend key (rleBlock (rleNum key) x.seq x.size last x.coded x.raw) last
    let s := s.inc Reg.rleBlocks
    let s := if x.raw.length ≤ x.coded.length then s.inc Reg.rleRaw else s
    let s := s.updAcq (fun a => { a with rleIn := a.rleIn + x.raw.length, rleOut := a.rleOut + x.size })
    let s := (s.wr Reg.rleInKib (word (s.acq.rleIn / 1024))).wr Reg.rleOutKib (word (s.acq.rleOut / 1024))
    s.setRle key { x with seq := x.seq + 1, size := 0, coded := [], raw := [] }

/-- Codes the input of stream `key` as far as it determines code words, with fuel for the code words (R380, R381). -/
def State.rleRun (s : State) (key : Nat) : Nat → State
  | 0 => s
  | n + 1 =>
    let x := s.rle key
    match rleCode x.ended x.input with
    | none => s
    | some (cw, k) =>
      let s := if x.size ≠ 0 ∧ x.size - 16 < x.coded.length + 6 then s.rleClose key false else s
      let x := s.rle key
      let x := if x.size = 0 then { x with size := s.rleSize } else x
      let x := { x with input := x.input.drop k, coded := x.coded ++ cw, raw := x.raw ++ x.input.take k }
      (s.setRle key x).rleRun key n

/-- RLE_INPUT on stream `key`: every code word that the input received so far determines. -/
def State.rleInput (s : State) (key : Nat) : State := s.rleRun key (s.rle key).input.length

/-- The end of stream `key` closes the open block with LAST (R383). -/
def State.rleFinish (s : State) (key : Nat) : State :=
  if (s.rle key).ended then
    let s := (s.rleInput key).rleClose key true
    s.setRle key {}
  else s

/-- Bytes join stream `key`; a stream that has ended is finished before a new one begins. -/
def State.rleFeed (s : State) (key : Nat) (bs : List Byte) : State :=
  let s := s.rleFinish key
  let x := s.rle key
  s.setRle key { x with input := x.input ++ bs }

/-- The end of stream `key` has come. -/
def State.rleEnd (s : State) (key : Nat) : State :=
  let x := s.rle key
  s.setRle key { x with ended := true }

/-- The streams of engine `e` that have received words since its previous marker end (R414). -/
def State.rleMarker (s : State) (e : Nat) : State :=
  s.acq.streams.foldl (fun s x => if rleKey e 0 ≤ x.1 ∧ x.1 < rleKey (e + 1) 0 then s.rleEnd x.1 else s) s

/-- RLE_INPUT. -/
def execRleInput (key : Nat) (s : State) : Host.Outcome State Fault Refusal := .next (s.rleInput key)

/-- RLE_STREAM_END. -/
def execRleStreamEnd (key : Nat) (s : State) : Host.Outcome State Fault Refusal := .next (s.rleFinish key)

end Sys2Proof.Machine
end

