-- ==== Sys2Proof/Machine/Tile.lean ====
section
/-!
DEFINITION. The Filien tiles: edges, hit formation, rate monitors and quench, derandomisers, injection, calibration, tile
power and the tile control bus (R193 to R254, R295 to R304).
-/
namespace Sys2Proof.Machine

/-- Channel `c` of tile `t`. -/
def State.chan (s : State) (t c : Nat) : Chan := sget {} (t * 128 + c) s.det.chans

/-- The state with channel `c` of tile `t` changed by `f`. -/
def State.updChan (s : State) (t c : Nat) (f : Chan → Chan) : State :=
  { s with det := { s.det with chans := sset {} (t * 128 + c) (f (s.chan t c)) s.det.chans } }

/-- Tile `t`. -/
def State.tile (s : State) (t : Nat) : Tile := sget {} t s.det.tiles

/-- The state with tile `t` changed by `f`. -/
def State.updTile (s : State) (t : Nat) (f : Tile → Tile) : State :=
  { s with det := { s.det with tiles := sset {} t (f (s.tile t)) s.det.tiles } }

/-- Tile link `n`. -/
def State.link (s : State) (n : Nat) : Link := sget {} n s.det.links

/-- The state with link `n` changed by `f`. -/
def State.updLink (s : State) (n : Nat) (f : Link → Link) : State :=
  { s with det := { s.det with links := sset {} n (f (s.link n)) s.det.links } }

/-- A TILE or CHAN word as the tile holds it (R227). -/
def State.tsd (s : State) (k : Nat) : Word := sget (resetOf k) k s.det.tside

/-- Writes a TILE or CHAN word as the tile holds it. -/
def State.tsdSet (s : State) (k : Nat) (w : Word) : State :=
  { s with det := { s.det with tside := sset (resetOf k) k w s.det.tside } }

/-- Adds 1 to a saturating counter field that the tile holds. -/
def State.tsdIncF (s : State) (k hi lo : Nat) : State :=
  s.tsdSet k (setFld (s.tsd k) hi lo (Nat.min (wfld (s.tsd k) hi lo + 1) (2 ^ (hi + 1 - lo) - 1)))

/-- A configuration word as it has arrived at tile `t` (R200, R216). -/
def State.tcfg (s : State) (t k : Nat) : Word := sget (resetOf k) k (s.tile t).cfg

/-- Sets a configuration word of tile `t`. -/
def State.tcfgSet (s : State) (t k : Nat) (w : Word) : State :=
  s.updTile t (fun x => { x with cfg := sset (resetOf k) k w x.cfg })

/-- The power state of tile `t` (R221): 0 OFF, 1 RAMP, 2 CONFIG, 3 CALIB, 4 LIVE, 5 FAULT. -/
def State.pwr (s : State) (t : Nat) : Nat := s.fld (Reg.tileStatus t) 2 0

/-- CHAN.CFG of a channel as the tile holds it. -/
def State.ccfg (s : State) (t c : Nat) : Word := s.tcfg t (Reg.chanCfg t c)

/-- The channel is masked (R215). -/
def State.masked (s : State) (t c : Nat) : Bool := (s.ccfg t c).getLsbD 16

/-- An effective threshold in quarters of the LSB (R199). -/
def effThr (dac trim : Nat) : Nat := Int.toNat (min (max ((4 * dac : Nat) + signed 6 trim) 0) 4095)

/-- The effective THU threshold of the channel does not exceed its effective THL threshold (R202). -/
def State.thrOrder (s : State) (t c : Nat) : Bool :=
  let w := sget (resetOf (Reg.tileThr t)) (Reg.tileThr t) (s.tile t).thr
  let v := sget (resetOf (Reg.chanCfg t c)) (Reg.chanCfg t c) (s.tile t).thr
  decide (effThr (wfld w 25 16) (wfld v 13 8) ≤ effThr (wfld w 9 0) (wfld v 5 0))

/-- The bin that the tile's table for words of frame `f` gives for raw code `raw` of the interpolator of channel `c` (R231,
R236, R244). -/
def State.lutBin (s : State) (t c f raw : Nat) : Nat :=
  let ti := s.tile t
  nth (sget [] (c / 8) (if f < ti.lutsFrom then ti.lutsOld else ti.luts)) raw % 256

/-- The frame whose table converts an edge at `tick`: that of the hit in formation, for every word of a frame is converted
with one table (R244). -/
def State.edgeFrame (s : State) (t c tick : Nat) : Nat :=
  match (s.chan t c).hit with
  | some h => h.lead / 2 ^ 24
  | none => frameOf tick

/-- The time of an edge in bins from the MTIME epoch (R229, R233). -/
def State.edgeTime (s : State) (t c tick raw : Nat) : Nat := tick * 256 + s.lutBin t c (s.edgeFrame t c tick) raw

/-- Background collection is on in tile `t` and not paused (R243). -/
def State.bgCollects (s : State) (t : Nat) : Bool :=
  let c := s.tcfg t (Reg.tileCalCtl t)
  decide (s.pwr t = 4) && c.getLsbD 0 && !c.getLsbD 2 && !(s.tile t).running

/-- The interpolator of channel `c` converts an edge of a hit: background collection gathers its raw code (R231, R243). -/
def State.bgGather (s : State) (t c raw : Nat) : State :=
  if s.bgCollects t then
    s.updTile t (fun x =>
      let g := sget [] (c / 8) x.bgHist
      { x with bgHist := sins (c / 8) (sins raw (sget 0 raw g + 1) g) x.bgHist })
  else s

/-- An edge at `T` lies in the dead time of 1.6 ns (819.2 bins) after the last accepted edge (R203). -/
def inDead (last : Option Nat) (T : Nat) : Bool :=
  match last with
  | some l => decide (T ≤ l + 819)
  | none => false

/-- The mask and quench gate lets the channel through and the tile produces hits (R205, R240, R253, R729). -/
def State.gateOpen (s : State) (t c : Nat) : Bool :=
  decide (s.pwr t = 4) && !s.masked t c && !(s.chan t c).quenched && !(s.tile t).running

/-- Word 1 of a frame header: the counts of the frame before, PREV_HITS 0 in the first header after LIVE (R253, R254). -/
def headerWord1 (first : Bool) (n : FrameCnt) : DWord :=
  BitVec.ofNat 64 (packFields [(14, if first then 0 else n.hits), (14, Nat.min n.drops 16383), (8, Nat.min n.markers 255),
    (12, Nat.min n.pile 4095), (16, 0)])

/-- Per-frame counts for the header that follows; a header that waits for the words before it to leave shows them as they
stand (R253, R254). -/
def State.updCnt (s : State) (t f : Nat) (g : FrameCnt → FrameCnt) : State :=
  s.updTile t (fun x =>
    let n := g (sget {} f x.cnts)
    { x with
      cnts := sset {} f n x.cnts
      headers := x.headers.map (fun h => if h.1 = f + 1 then (h.1, h.2.1, headerWord1 (decide (x.liveFrom = some h.1)) n) else h) })

/-- The hit word in formation in a channel: one that the gate has let through (R729). -/
def Chan.inFormation (ch : Chan) : Option HitForm :=
  match ch.hit with
  | some h => if h.passed then some h else none
  | none => none

/-- An edge in dead time: PILE in the hit word in formation, or in the next one, and the counts; the frame is that of the hit
word in formation, or the edge's own where there is none (R203, R254). -/
def State.pileEdge (s : State) (t c tick : Nat) : State :=
  match (s.chan t c).inFormation with
  | some h =>
    let s := s.updChan t c (fun x => { x with hit := some { h with pile := true } })
    let s := s.tsdIncF (Reg.chanQpile t c) 15 0
    s.updCnt t (h.lead / 2 ^ 24) (fun n => { n with pile := n.pile + 1 })
  | none =>
    if s.gateOpen t c then
      let s := s.updChan t c (fun x => { x with pileNext := true })
      let s := s.tsdIncF (Reg.chanQpile t c) 15 0
      s.updCnt t (frameOf tick) (fun n => { n with pile := n.pile + 1 })
    else s

/-- A hit word (R245). -/
def hitWord (c kind lead slew width : Nat) (sat pile : Bool) : DWord :=
  BitVec.ofNat 64 (packFields [(7, c), (3, kind), (24, lead % 2 ^ 24), (12, slew), (16, width), (1, sat.toNat), (1, pile.toNat)])

/-- TLEAD of a hit word in bins from the start of its frame. -/
def tleadOf (w : DWord) : Nat := dfld w 53 30

/-- Puts a word into a derandomiser in the order of TLEAD (R252). -/
def derandInsert (f : Nat) (w : DWord) : List (Nat × DWord) → List (Nat × DWord)
  | [] => [(f, w)]
  | (g, v) :: r => if f < g ∨ (f = g ∧ tleadOf w < tleadOf v) then (f, w) :: (g, v) :: r else (g, v) :: derandInsert f w r

/-- The tile sends words of frame `f`: it is LIVE and `f` is not before its first header (R253). -/
def State.sends (s : State) (t f : Nat) : Bool :=
  decide (s.pwr t = 4) && (match (s.tile t).liveFrom with
    | some g => decide (g ≤ f)
    | none => false)

/-- A dropped hit word is counted in the tile's word at `k`, in STICKY.DROP and for the header (R205, R254). -/
def State.countDrop (s : State) (t k f : Nat) : State :=
  let s := (s.tsdIncF k 31 0).stick (Pg.tile t) 0x20000
  s.updCnt t f (fun n => { n with drops := n.drops + 1 })

/-- The channel has words in the transition store (R280). -/
def Tile.storeHas (x : Tile) (c : Nat) : Bool := x.tstore.any (fun e => decide (e.1 = c))

/-- A word goes into the transition store, and TLNK TSTORE keeps the peak (R280, R281). -/
def State.storeWord (s : State) (t c f : Nat) (w : DWord) : State :=
  let s := s.updTile t (fun x => { x with tstore := x.tstore ++ [(c, f, w)] })
  s.setF (Reg.tlnkTstore t) 8 0 (Nat.max (s.fld (Reg.tlnkTstore t) 8 0) (s.tile t).tstore.length)

/-- A hit word of frame `f` enters the derandomiser; one that finds it full enters the transition store while the frame
before is closing, and is else counted in DROP_FULL (R205, R280). -/
def State.pushWord (s : State) (t c f : Nat) (w : DWord) : State :=
  let ti := s.tile t
  if (s.chan t c).derand.length < 8 then
    (s.updChan t c (fun x => { x with derand := derandInsert f w x.derand })).updCnt t f (fun n => { n with hits := n.hits + 1 })
  else if ti.sendFrame < f ∧ ti.tstore.length < 256 then
    (s.storeWord t c f w).updCnt t f (fun n => { n with hits := n.hits + 1 })
  else s.countDrop t (Reg.chanDropFull t c) f

/-- The newest entry of channel `c` in a transition store, oldest first, replaced by a word of frame `f`. -/
def storeReplace (c f : Nat) (w : DWord) (l : List (Nat × Nat × DWord)) : List (Nat × Nat × DWord) :=
  let r := l.reverse
  let i := r.findIdx (fun e => decide (e.1 = c))
  (setNth r i (c, f, w)).reverse

/-- A quench or release marker enters the derandomiser; when it is full the marker replaces the newest hit word held,
which is counted in DROP_FULL (R208, R209, R211). A masked channel puts out none (R215). -/
def State.pushMarker (s : State) (t c T : Nat) (release : Bool) : State :=
  let f := T / 2 ^ 24
  let w := hitWord c 4 T release.toNat 0 false false
  if s.masked t c || !s.sends t f then s
  else
    let ch := s.chan t c
    let ti := s.tile t
    let count := fun (s : State) => s.updCnt t f (fun n => { n with hits := n.hits + 1, markers := n.markers + 1 })
    if ch.derand.length < 8 then
      count (s.updChan t c (fun x => { x with derand := derandInsert f w x.derand }))
    else
      let old := match (ti.tstore.filter (fun e => decide (e.1 = c))).getLast? with
        | some e => e.2.1
        | none => (ch.derand.getLast?.map Prod.fst).getD f
      let s := if ti.storeHas c then s.updTile t (fun x => { x with tstore := storeReplace c f w x.tstore })
        else s.updChan t c (fun x => { x with derand := x.derand.dropLast ++ [(f, w)] })
      let s := s.updCnt t old (fun n => { n with hits := n.hits - 1 })
      count (s.countDrop t (Reg.chanDropFull t c) old)

/-- CHAN.STATUS.QUENCHED and TILE.QUENCHEDk of a channel as the tile holds them (R213). -/
def State.showQuenched (s : State) (t c : Nat) (b : Bool) : State :=
  let s := s.tsdSet (Reg.chanStatus t c) (setBit (s.tsd (Reg.chanStatus t c)) 0 b)
  let s := s.tsdSet (Reg.tileQuenched t (c / 32)) (setBit (s.tsd (Reg.tileQuenched t (c / 32))) (c % 32) b)
  s.setDegraded (24 + t) ((List.range 4).any (fun k => s.tsd (Reg.tileQuenched t k) != 0))

/-- The tile quenches the channel at time `T` (R208, R213). -/
def State.quench (s : State) (t c T : Nat) : State :=
  let s := (s.updChan t c (fun x => { x with quenched := true, quiet := 0 })).showQuenched t c true
  let s := s.tsdIncF (Reg.chanQpile t c) 31 16
  ((s.pushMarker t c T false).raise (Pg.tile t) 0x4).stick (Pg.tile t) 0x10000

/-- The channel is released at tick `tick` (R210 to R213). -/
def State.unquench (s : State) (t c tick : Nat) : State :=
  let s := (s.updChan t c (fun x => { x with quenched := false, quiet := 0, count := 0 })).showQuenched t c false
  (s.pushMarker t c (tick * 256) true).raise (Pg.tile t) 0x8

/-- A QCLR that takes effect at the tile now (R210, R212); a channel that is not quenched has nothing to release. -/
def State.qclr (s : State) (t c : Nat) : State :=
  if (s.chan t c).quenched then s.unquench t c s.now else s

/-- Brings the rate-monitor windows of a channel up to the window that holds frame `f`: the count belongs to the oldest
window not yet ended, and windows after it had no edge (R207, R210, R728). -/
def State.rollWindows (s : State) (t c f : Nat) : State :=
  let ch := s.chan t c
  let w := 2 ^ wfld (s.tcfg t (Reg.chanQlim t c)) 18 16
  let lim := wfld (s.tcfg t (Reg.chanQlim t c)) 15 0
  let start := Nat.max ch.winStart (s.tile t).monFrom
  let part := ch.part || decide (ch.winStart ≤ (s.tile t).monFrom)
  let b1 := (start / w + 1) * w
  if f < b1 then s
  else
    let bn := f / w * w
    let more := (bn - b1) / w
    let hold := wfld (s.ccfg t c) 23 20
    let q1 := if part then 0 else if ch.count ≤ lim then ch.quiet + 1 else 0
    let q := q1 + more
    let s := if part && decide (more = 0) then s
      else s.tsdSet (Reg.chanStatus t c)
        (setFld (s.tsd (Reg.chanStatus t c)) 31 16 (if more = 0 then Nat.min ch.count 65535 else 0))
    let s := s.updChan t c (fun x => { x with count := 0, quiet := q, winStart := bn, part := false })
    if ch.quenched && (s.ccfg t c).getLsbD 19 && decide (hold ≤ q) then
      s.unquench t c ((b1 + (hold - q1) * w) * 65536)
    else s

/-- The rate monitor takes a THL leading edge outside dead time (R207, R208, R210); `T` is the time a marker carries. The
channel is quenched at the edge whose count is QLIMIT + 1; where QLIMIT has been lowered below a count already past it, the
window in progress quenches no more. DESIGN CHOICE (entry 70). -/
def State.monitorEdge (s : State) (t c tick T : Nat) : State :=
  let s := s.rollWindows t c (frameOf tick)
  let s := s.updChan t c (fun x => { x with count := x.count + 1 })
  let s := s.tsdSet (Reg.chanEdges t c) (s.tsd (Reg.chanEdges t c) + 1)
  let ch := s.chan t c
  let lim := wfld (s.tcfg t (Reg.chanQlim t c)) 15 0
  if decide (lim ≠ 0) && decide (ch.count = lim + 1) && !ch.quenched then s.quench t c T else s

/-- A decision of condition `cond` (0 SLEW, 1 TIMEOUT, 2 WIDTH, 3 RUNT) of a channel at tick `tick` (R299 to R304). -/
def State.decideCond (s : State) (t c cond tick : Nat) : State :=
  if s.sends t (frameOf tick) && !(s.tile t).running && (s.tcfg t (Reg.trigCen cond (t * 4 + c / 32))).getLsbD (c % 32) then
    s.updTile t (fun x => { x with dec := sset 0 (tick * 4 + cond) (sget 0 (tick * 4 + cond) x.dec + 1) x.dec })
  else s

/-- The TIMEOUT condition of a hit in formation, once (R299). -/
def State.decideTimeout (s : State) (t c : Nat) (h : HitForm) : State :=
  if h.timedOut then s
  else
    let due := h.lead / 256 + wfld (s.tcfg t (Reg.trigTcondA t)) 9 0
    let s := s.updChan t c (fun x => { x with hit := x.hit.map (fun g => { g with timedOut := true }) })
    if h.passed then s.decideCond t c 1 due else s

/-- The hit as it closes at time `T`: a THU leading edge counts only before it (R246, R247). -/
def HitForm.upTo (h : HitForm) (T : Nat) : HitForm :=
  { h with thu := h.thu.filter (fun u => decide (u < T)) }

/-- Closes the hit in formation at time `T`: its word waits for its release (R204, R246 to R249). -/
def State.closeHit (s : State) (t c T : Nat) (ov : Bool) (h0 : HitForm) : State :=
  let s := s.updChan t c (fun x => { x with hit := none })
  let h := h0.upTo T
  if h.passed then
    let d := match h.thu with
      | some u => u - h.lead
      | none => 0
    let satS := decide (4095 < d)
    let kind := if h.injected then 3 else if ov then 2 else if h.thu.isNone then 1 else 0
    let width := if ov then 65535 else Nat.min ((T - h.lead) / 4) 65535
    let w := hitWord c kind h.lead (Nat.min d 4095) width (satS || ov) h.pile
    let rel := (Nat.max (h.lead + 2560) T + 255) / 256
    s.updChan t c (fun x => { x with done := x.done ++ [⟨w, h.lead / 2 ^ 24, rel⟩] })
  else s

/-- The rate monitor works in CALIB and LIVE (R207). -/
def State.monitors (s : State) (t : Nat) : Bool := decide (s.pwr t = 3) || decide (s.pwr t = 4)

/-- An overlength hit closes 1,024 ticks after its leading edge (R249, R301). -/
def State.overlength (s : State) (t c : Nat) : State :=
  match (s.chan t c).hit with
  | none => s
  | some h =>
    let T := h.lead + 1024 * 256
    let s := s.advanceTo (T / 256)
    (s.decideTimeout t c h).closeHit t c T true h

/-- A hit that has reached 1,024 ticks without a THL trailing edge is overlength, and has closed before any edge at or
after that moment (R246, R249). -/
def State.lateClose (s : State) (t c tick raw : Nat) : State :=
  match (s.chan t c).hit with
  | some h => if h.lead + 1024 * 256 ≤ s.edgeTime t c tick raw then s.overlength t c else s
  | none => s

/-- A THL leading edge (R203 to R208, R727, R729). -/
def State.thlLead (s : State) (t c tick raw : Nat) : State :=
  if s.monitors t = false then s
  else
    let s := (s.lateClose t c tick raw).advanceTo tick
    let T := s.edgeTime t c tick raw
    let ch := s.chan t c
    if inDead ch.thlLast T then s.pileEdge t c tick
    else
      let early := match ch.leadLast with
        | some l => decide (T < l + 2560)
        | none => false
      let noHit := early || ch.thlHigh
      let s := s.monitorEdge t c tick (if noHit then tick * 256 else T)
      if noHit then s.pileEdge t c tick
      else
        let order := s.thrOrder t c
        let before := match ch.thuLead with
          | some u => decide (T ≤ u.1 * 256 + s.lutBin t c (frameOf tick) u.2 + 64)
          | none => false
        let inj := (s.ccfg t c).getLsbD 18 && (match (s.tile t).injLast with
          | some i => decide (i ≤ tick) && decide (tick < i + 64)
          | none => false)
        let h : HitForm := { lead := T, thu := if order || before then some T else none, injected := inj,
                             pile := ch.pileNext, passed := s.gateOpen t c }
        let s := s.updChan t c (fun x => { x with
          thlHigh := true, thlLast := some T, leadLast := some T, thuLead := none, hit := some h
          pileNext := if h.passed then false else x.pileNext })
        let s := if h.passed || (!ch.quenched && (s.chan t c).quenched) then s.bgGather t c raw else s
        let s := match ch.thuLead with
          | some u => if h.passed && before then s.bgGather t c u.2 else s
          | none => s
        if h.passed && (order || before) then s.decideCond t c 0 tick else s

/-- A THU leading edge (R203, R247, R299, R300, R727). -/
def State.thuLead (s : State) (t c tick raw : Nat) : State :=
  if s.monitors t = false then s
  else
    let s := (s.lateClose t c tick raw).advanceTo tick
    let T := s.edgeTime t c tick raw
    let ch := s.chan t c
    if ch.thuHigh then s
    else if inDead ch.thuLast T then s.pileEdge t c tick
    else
      let s := s.updChan t c (fun x => { x with thuHigh := true, thuLast := some T })
      match ch.hit with
      | none => s.updChan t c (fun x => { x with thuLead := some (tick, raw) })
      | some h =>
        if h.thu.isNone then
          let s := s.updChan t c (fun x => { x with hit := some { h with thu := some T } })
          let s := if h.passed then s.bgGather t c raw else s
          if h.passed && decide (tick - h.lead / 256 ≤ wfld (s.tcfg t (Reg.trigTcondA t)) 23 16) then s.decideCond t c 0 tick
          else s
        else s

/-- A THU trailing edge (R203, R230, R727). -/
def State.thuTrail (s : State) (t c tick raw : Nat) : State :=
  if s.monitors t = false then s
  else
    let s := (s.lateClose t c tick raw).advanceTo tick
    let T := s.edgeTime t c tick raw
    let ch := s.chan t c
    if ch.thuHigh = false then s
    else if inDead ch.thuLast T then s.pileEdge t c tick
    else s.updChan t c (fun x => { x with thuHigh := false, thuLast := some T })

/-- A THL trailing edge: it ends the hit in formation and decides WIDTH and RUNT (R204, R248, R299 to R302, R727). -/
def State.thlTrail (s : State) (t c tick raw : Nat) : State :=
  if s.monitors t = false then s
  else
    let s := (s.lateClose t c tick raw).advanceTo tick
    let T := s.edgeTime t c tick raw
    let ch := s.chan t c
    if ch.thlHigh = false then s
    else if inDead ch.thlLast T then s.pileEdge t c tick
    else
      let s := s.updChan t c (fun x => { x with thlHigh := false, thlLast := some T })
      match ch.hit with
      | none => s
      | some h0 =>
        let h := h0.upTo T
        let s := if h.passed then s.bgGather t c raw else s
        let d := tick - h.lead / 256
        let s := if wfld (s.tcfg t (Reg.trigTcondA t)) 9 0 < d then s.decideTimeout t c h else s
        let b := s.tcfg t (Reg.trigTcondB t)
        let s := if h.passed && decide (wfld b 9 0 ≤ d) && decide (d < wfld b 25 16) then s.decideCond t c 2 tick else s
        let s := if h.passed && h.thu.isNone && decide (wfld (s.tcfg t (Reg.trigTcondC t)) 9 0 ≤ d) then
          s.decideCond t c 3 tick else s
        s.closeHit t c T false h

/-- The rate cap in force on the tile in frame `f`, in units of 10 kHz; 0 is none (R206). -/
def capAt (f : Nat) : List (Nat × Nat) → Nat
  | [] => 0
  | (g, c) :: r => if g ≤ f then c else capAt f r

/-- The token bucket brought from tick `a` to tick `now`; caps are oldest first, and `prev` is the one before (R206).
One token is 200,000 units and the depth is 8 tokens. -/
def bucketTo (prev : Nat) : List (Nat × Nat) → Nat → Nat → Nat → Nat
  | [], tok, a, now => Nat.min 1600000 (tok + prev * (now - a))
  | (f, c) :: r, tok, a, now =>
    let b := f * 65536
    if b ≤ a then bucketTo c r tok a now
    else if now < b then Nat.min 1600000 (tok + prev * (now - a))
    else
      let tok := Nat.min 1600000 (tok + prev * (b - a))
      bucketTo c r (if prev = 0 ∧ c ≠ 0 then 1600000 else tok) b now

/-- The oldest hit word of a channel leaves the hit former: stages 4 and 5 of the pipeline (R204 to R206). -/
def State.hitRelease (s : State) (t c : Nat) : State :=
  match (s.chan t c).done with
  | [] => s
  | d :: r =>
    let s := s.advanceTo d.release
    let s := s.updChan t c (fun x => { x with done := r })
    if s.sends t d.frame = false then s
    else
      let ch := s.chan t c
      let caps := (s.tile t).caps
      let cap := capAt d.frame caps
      let tok := bucketTo 0 caps.reverse ch.tokens ch.tokTick s.now
      if cap = 0 then s.pushWord t c d.frame d.word
      else
        let pass := decide (200000 ≤ tok)
        let s := s.updChan t c (fun x => { x with tokens := if pass then tok - 200000 else tok, tokTick := s.now })
        if pass then s.pushWord t c d.frame d.word else s.countDrop t (Reg.chanDropCap t c) d.frame

/-- The configuration words of tile `t` in the order of its PAGE_CHECK (R228). -/
def coveredWords (t : Nat) : List Nat :=
  [Reg.tileCtl t, Reg.tileThr t, Reg.tileInjCtl t, Reg.tileInjPeriod t, Reg.tileInjCount t, Reg.tileCalCtl t]
    ++ (List.range 128).flatMap (fun c => [Reg.chanCfg t c, Reg.chanQlim t c])
    ++ [Reg.trigTcondA t, Reg.trigTcondB t, Reg.trigTcondC t]
    ++ (List.range 4).flatMap (fun c => (List.range 4).map (fun k => Reg.trigCen c (t * 4 + k)))

/-- A covered word as it enters the check: INJ_CTL.EN and CAL_CTL.RUN enter as 0 (R228). -/
def checkWord (t k : Nat) (w : Word) : Word :=
  if k = Reg.tileInjCtl t then setBit w 0 false
  else if k = Reg.tileCalCtl t then setBit w 1 false
  else w

/-- The check of tile `t` over words read by `get` (R228). -/
def tileCheckOf (t : Nat) (get : Nat → Word) : Word :=
  crc32c ((coveredWords t).flatMap (fun k => wordBytes (checkWord t k (get k))))

/-- TILEn.PAGE_CHECK (R228). -/
def State.tileCheck (s : State) (t : Nat) : Word := tileCheckOf t s.rd

/-- The tile's read-back check word (R228). -/
def State.tileReadback (s : State) (t : Nat) : Word := tileCheckOf t (s.tcfg t)

/-- CAL_STAT.STATE as the tile holds it: source run, background collection or inactive (R240, R243). -/
def State.showCal (s : State) (t : Nat) : State :=
  let k := Reg.tileCalStat t
  let c := s.tcfg t (Reg.tileCalCtl t)
  let v := if (s.tile t).running then 1
    else if decide (s.pwr t = 4) && c.getLsbD 0 && !c.getLsbD 2 then 2 else 0
  s.tsdSet k (setFld (s.tsd k) 2 0 v)

/-- The striping of link `n` in frame `f` is on 3 lanes, as the tile has it (R290 to R292). -/
def State.threeIn (s : State) (n f : Nat) : Bool :=
  let l := s.link n
  match l.own, l.changeAt with
  | some m, _ => decide (popCount 4 m = 3)
  | none, some g =>
    decide (popCount 4 (if g ≤ f ∧ l.told.isSome then l.changeTo else s.fld (Reg.tlnkLstat n) 11 8) = 3)
  | none, none => decide (s.fld (Reg.tlnkLstat n) 2 0 = 3)

/-- The cap of R291 holds on tile `t` in frame `f`: from the first frame on 3 lanes until the first back on 4, a link in HUNT
in between included. -/
def State.threeCap (s : State) (n f : Nat) : Bool :=
  s.threeIn n f || (decide (s.fld (Reg.tlnkLstat n) 2 0 = 1) && (s.link n).three)

/-- The rate cap that the hub puts in force on tile `t` for frame `f`: the lowest that applies (R60, R206). -/
def State.capFor (s : State) (t f : Nat) : Nat :=
  if s.modeNow = 5 then 25
  else if s.compat then 90
  else if s.threeCap t f then 150
  else 0

/-- TILEn.STATUS.CAP (R206, R227). -/
def State.showCap (s : State) (t : Nat) : State :=
  s.setF (Reg.tileStatus t) 15 8 (if s.pwr t = 4 then capAt s.time.frame (s.tile t).caps else 0)

/-- Configuration words are loaded into the tile from the shadow (R221). -/
def State.loadTile (s : State) (t : Nat) : State :=
  let ks := (coveredWords t).filter (fun k => s.rd k != resetOf k)
  s.updTile t (fun x => { x with cfg := ks.foldl (fun m k => sset (resetOf k) k (s.rd k) m) [], cbus := [], cbusMore := [] })

/-- The tile receives a configuration or command word (R200, R216, R241, R303, R728); a re-stripe command and a transmit preset
wait for their frame (R290, R712). -/
def State.deliver (s : State) (t k : Nat) (w : Word) : State :=
  let p := k / 0x1000
  let o := k % 0x1000
  if k = Reg.tlnkLstat t ∨ k = Reg.agePreset t then s
  else if p = Pg.chan t ∧ o % 0x20 = 0xC then if w.getLsbD 0 then s.qclr t (o / 0x20) else s
  else if k = Reg.tileCalCtl t then
    let run := w.getLsbD 1
    let s := s.tcfgSet t k (setBit w 1 false)
    (if run then s.updTile t (fun x => { x with runReq := true }) else s).showCal t
  else if k = Reg.tileInjCtl t then
    let was := (s.tcfg t k).getLsbD 0
    let s := s.tcfgSet t k w
    if w.getLsbD 0 && !was then (s.updTile t (fun x => { x with injNext := none })).tsdSet (Reg.tileInjSent t) 0 else s
  else if p = Pg.chan t ∧ o % 0x20 = 0x4 then
    let c := o / 0x20
    if wfld (s.tcfg t k) 18 16 = wfld w 18 16 then s.tcfgSet t k w
    else
      let s := s.rollWindows t c s.time.frame
      (s.tcfgSet t k w).updChan t c (fun x => { x with
        count := 0, quiet := 0, part := true, winStart := s.time.frame })
  else
    let s' := s.tcfgSet t k w
    if k = Reg.tileThr t ∨ (p = Pg.chan t ∧ o % 0x20 = 0) then s'.updTile t (fun x => { x with thrNew := true }) else s'

/-- Commands that wait move into the queue while it has room for them (R298). -/
def Tile.refill (x : Tile) : Tile :=
  { x with
    cbus := x.cbus ++ x.cbusMore.take (64 - x.cbus.length)
    cbusMore := x.cbusMore.drop (64 - x.cbus.length) }

/-- A command frame for tile `t` joins its queue of 64, behind those that wait for a place in it; a tile that has not yet been
configured, or has no supply, is loaded from the shadow at power-up instead (R221, R298). -/
def State.enqTile (s : State) (t k : Nat) (w : Word) : State :=
  if 2 ≤ s.pwr t ∧ s.pwr t ≤ 4 then s.updTile t (fun x => { x with cbusMore := x.cbusMore ++ [(k, w)] }.refill) else s

/-- The tile takes commands: it has been configured and has its supply (R216, R221). -/
def State.tileListens (s : State) (t : Nat) : Bool := decide (2 ≤ s.pwr t) && decide (s.pwr t ≤ 4)

/-- The link takes part in arbitration: its tile is LIVE and it is FULL, THREE or in a lossless CHANGE (R284). -/
def State.linkTakesPart (s : State) (n : Nat) : Bool :=
  let st := s.fld (Reg.tlnkLstat n) 2 0
  decide (s.pwr n = 4) && (decide (st = 2) || decide (st = 3) || (decide (st = 4) && (s.link n).lossless))

/-- A link that begins or stops to be a requester (R283, R284), TLNK.ARB and the degradation of R291 follow its state. -/
def State.linkSync (s : State) (n : Nat) : State :=
  let b := s.linkTakesPart n
  let s := if b = (s.link n).requester then s
    else s.updLink n (fun l => { l with requester := b, holds := none, received := 0, closedTo := 0, buf := [] })
  let st := s.fld (Reg.tlnkLstat n) 2 0
  let three := decide (popCount 4 (s.fld (Reg.tlnkLstat n) 11 8) = 3) && (decide (st = 3) || (decide (st = 4) && (s.link n).lossless))
  (s.setFlag Reg.tlnkArb n b).setDegraded n three

/-- The link of a tile without supply is OFF, and its words in intake are discarded (R284, R289). -/
def State.linkOff (s : State) (n : Nat) : State :=
  let s := s.updLink n (fun _ => {})
  let s := ((s.setF (Reg.tlnkLstat n) 2 0 0).setF (Reg.tlnkLstat n) 15 12 0).setF (Reg.tlnkLstat n) 11 8 0
  (s.setFlag Reg.tlnkArb n false).setDegraded n false

/-- What a tile loses with its supply: quench states, channel contents, runs and waiting commands (R214, R221, R222). -/
def State.tileClear (s : State) (t : Nat) : State :=
  let s := { s with det := { s.det with chans := s.det.chans.filter (fun e => decide (e.1 / 128 ≠ t)) } }
  let s := (List.range 4).foldl (fun s k => s.tsdSet (Reg.tileQuenched t k) 0) s
  let s := (List.range 128).foldl (fun s c =>
    s.tsdSet (Reg.chanStatus t c) (setBit (s.tsd (Reg.chanStatus t c)) 0 false)) s
  let s := s.updTile t (fun x => { cbusHeld := x.cbusHeld, caps := x.caps })
  let s := (s.setFlag (Reg.tileCalCtl t) 1 false).setDegraded (24 + t) false
  (s.linkOff t).showCal t

/-- The tile enters power state `p` of R221 with a FAULT_CODE. -/
def State.setPwr (s : State) (t p code : Nat) : State :=
  ((s.setF (Reg.tileStatus t) 2 0 p).setF (Reg.tileStatus t) 7 4 code).showCap t

/-- The tile goes OFF, a switch-on still awaited with it, and keeps its FAULT_CODE (R221). -/
def State.tileOff (s : State) (t : Nat) : State :=
  (s.tileClear t).setPwr t 0 (s.fld (Reg.tileStatus t) 7 4)

/-- The tile enters FAULT (R222). -/
def State.tileFault (s : State) (t code : Nat) : State :=
  (((s.tileClear t).setPwr t 5 code).raise (Pg.tile t) 0x2).stick (Pg.tile t) 0x80000

/-- The module is out of Umbra or an Umbra-to-Idle preparation runs, so that tiles are powered (R221). -/
def State.tilesWanted (s : State) : Bool := decide (s.modeNow ≠ 0) || s.mode.prep

/-- The switch-on of an OFF tile is set, 10 µs × n after `start` (R221). -/
def State.tilePower (s : State) (t : Nat) : State :=
  if decide (s.pwr t = 0) && !s.flag (Reg.tileCtl t) 8 && s.tilesWanted then
    s.updTile t (fun x => { x with onAt := some (s.time.up + 20000 * t) })
  else s

/-- Holds a write to a TILE or CHAN page while the tile's command queue is full; otherwise `eff` is its effect (R298). -/
def State.withRoom (s : State) (t : Nat) (d : Dom) (k : Nat) (v : Word) (eff : State → State) : State :=
  if (decide (64 ≤ (s.tile t).cbus.length) || !(s.tile t).cbusHeld.isEmpty) && s.tileListens t then s.updTile t (fun x => { x with cbusHeld := x.cbusHeld ++ [{ dom := d, addr := k, val := v }] }) else eff s

/-- Effect of a write of TILEn.CTL (R198, R221). -/
def State.tileCtlWrite (s : State) (t : Nat) (v : Word) : State :=
  let k := Reg.tileCtl t
  let old := s.rd k
  let locked := decide (1 < s.modeNow) && decide (wfld v 2 0 ≠ wfld old 2 0)
  let v := if locked then setFld v 2 0 (wfld old 2 0) else v
  let s := if locked then s.refuse (Pg.tile t) else s
  let s := (s.plainWrite k v).enqTile t k ((s.plainWrite k v).rd k)
  if s.flag k 8 && !old.getLsbD 8 then s.tileOff t
  else if !s.flag k 8 && old.getLsbD 8 then s.tilePower t
  else s

/-- Effect of a write of TILEn.CAL_CTL (R241). -/
def State.calCtlWrite (s : State) (t : Nat) (v : Word) : State :=
  let k := Reg.tileCalCtl t
  let ok := (decide (s.modeNow = 1) || decide (s.modeNow = 5)) && decide (s.pwr t = 4)
  let s := if v.getLsbD 1 && !ok then s.refuse (Pg.tile t) else s
  let s := s.plainWrite k (if ok then v else setBit v 1 false)
  s.enqTile t k (setBit (s.rd k) 1 (v.getLsbD 1 && ok))

/-- Effect of a write to a register of page TILEt or CHANt, or of a TCOND or CEN word of tile `t` (R198 to R241). -/
def State.tileWrite (s : State) (t : Nat) (d : Dom) (k : Nat) (v : Word) : State :=
  let eff := fun (s : State) =>
    if k / 0x1000 = Pg.tile t ∧ k % 0x1000 < 0x40 then s.headerBits (Pg.tile t) (k % 0x1000) v
    else if k = Reg.tileCtl t then s.tileCtlWrite t v
    else if k = Reg.tileCalCtl t then s.calCtlWrite t v
    else if k / 0x1000 = Pg.chan t ∧ k % 0x20 = 0xC then if v.getLsbD 0 then s.enqTile t k 1 else s
    else if k ∈ coveredWords t then
      let s := s.plainWrite k v
      s.enqTile t k (s.rd k)
    else s.plainWrite k v
  if k / 0x1000 = Pg.trig then eff s else s.withRoom t d k v eff

/-- Writes that were held for a full command queue are performed while it has room (R298). -/
def State.drainHeld (s : State) (t : Nat) : State :=
  let l := (s.tile t).cbusHeld
  l.foldl (fun s h => s.tileWrite t h.dom h.addr h.val) (s.updTile t (fun x => { x with cbusHeld := [] }))

/-- One copy of a command frame with a corrected error is counted (R296, TLNK CBUS). -/
def State.cbusCopy (s : State) (t err : Nat) : State := if err = 1 then s.incFSat (Reg.tlnkCbus t) 31 16 else s

/-- The preset on its way to tile `t` has been discarded (R297, R712). -/
def State.presetLost (s : State) (t : Nat) : State :=
  { s with age := { s.age with presets := s.age.presets.filter (fun p => decide (p.1 ≠ t)) } }

/-- The command at the head of the tile's queue is sent twice and acted on, or discarded (R296 to R298). -/
def State.tileCommand (s : State) (t first second : Nat) : State :=
  match (s.tile t).cbus with
  | [] => s.drainHeld t
  | (k, w) :: r =>
    let s := s.emit (.tileFrame t k w)
    let s := s.updTile t (fun x => { x with cbus := r }.refill)
    let s := (s.cbusCopy t first).cbusCopy t second
    let s := if first = 2 ∧ second = 2 then
        let s := (s.incFSat (Reg.tlnkCbus t) 15 0).stick Pg.tlnk 0x100000
        if k = Reg.tileCalCtl t ∧ w.getLsbD 1 then s.setFlag k 1 false
        else if k = Reg.tlnkLstat t then s.updLink t (fun l => { l with told := none })
        else if k = Reg.agePreset t then s.presetLost t
        else s
      else s.deliver t k w
    s.drainHeld t

/-- Every command accepted before now is sent, and each arrives (R298). -/
def State.sendQueued (s : State) (t : Nat) : State :=
  (List.range ((s.tile t).cbus.length + (s.tile t).cbusMore.length)).foldl (fun s _ => s.tileCommand t 0 0) s

/-- The histogram's table: LUT[r] = floor(256 (S(r) + H(r)/2) / N), an empty code taking the bin of the next lower code
with conversions (R237); `none` when the histogram fails R238. -/
def lutOf (h : List Nat) : Option (List Nat) :=
  let n := h.foldl (· + ·) 0
  let step := fun (acc : Nat × Nat × List Nat) (x : Nat) =>
    let bin := if x = 0 then acc.2.1 else 256 * (2 * acc.1 + x) / (2 * n)
    (acc.1 + x, bin, acc.2.2 ++ [bin])
  let l := (h.foldl step (0, 0, [])).2.2
  if n = 2 ^ 20 ∧ h.length = 384 ∧ (List.range 256).all (fun b => l.contains b) then some l else none

/-- Tables by interpolator of a list of histograms, `none` when one of them fails. -/
def lutsOf : Nat → List (List Nat) → Option (List (Nat × List Nat))
  | _, [] => some []
  | i, h :: r =>
    match lutOf h, lutsOf (i + 1) r with
    | some l, some m => some ((i, l) :: m)
    | _, _ => none

/-- The source run of a tile ends with the histograms of its 16 interpolators (R237, R238, R241, R242, R244, R253). -/
def State.sourceRunEnd (s : State) (t : Nat) (hists : List (List Nat)) : State :=
  if (s.tile t).running = false then s
  else
    let s := (s.updTile t (fun x => { x with running := false })).setFlag (Reg.tileCalCtl t) 1 false
    let res := if hists.length = 16 then lutsOf 0 hists else none
    match res with
    | none =>
      if s.pwr t = 3 then (s.tileFault t 3).drainHeld t
      else (s.setFlag (Reg.tileCalStat t) 3 true).showCal t
    | some m =>
      let s := s.updTile t (fun x => { x with lutsNew := m })
      if s.pwr t = 3 then
        let f := s.time.frame
        let s := s.updTile t (fun x => { x with liveFrom := some (f + 1), sendFrame := f })
        (((s.setPwr t 4 0).raise (Pg.tile t) 0x1).showCal t).linkSync t
      else s.showCal t

/-- A histogram of 384 raw codes: the conversions gathered and those of `more`. -/
def histOf (g : List (Nat × Nat)) (more : List Nat) : List Nat :=
  (List.range 384).map (fun r => sget 0 r g + nth more r)

/-- A background histogram of interpolator `k` completes: the conversions gathered from the edges, and those `more` that came
between them (R243). -/
def State.bgHistogram (s : State) (t k : Nat) (more : List Nat) : State :=
  if s.bgCollects t then
    let hist := histOf (sget [] k (s.tile t).bgHist) more
    let s := s.updTile t (fun x => { x with bgHist := sset [] k [] x.bgHist })
    match lutOf hist with
    | none => s
    | some l =>
      let cur := sget [] k (s.tile t).luts
      let far := (List.range 384).any (fun r => decide (nth l r > nth cur r + 2) || decide (nth cur r > nth l r + 2))
      if far then s.setFlag (Reg.tileCalStat t) 4 true
      else s.updTile t (fun x => { x with bgNew := sins k l x.bgNew })
  else s

/-- Tables switch at the start of frame `f` (R244). Where a background candidate and a source-run table of one interpolator wait
for the same frame start, the source run's is taken; a waiting candidate outlives HOLD. DESIGN CHOICE (entry 81). -/
def State.switchTables (s : State) (t f : Nat) : State :=
  let ti := s.tile t
  let hold := (s.tcfg t (Reg.tileCalCtl t)).getLsbD 2
  let bg := if hold then [] else ti.bgNew.filter (fun e => !ti.lutsNew.any (fun g => decide (g.1 = e.1)))
  let new := ti.lutsNew ++ bg
  if new = [] then s
  else
    let k := Reg.tileCalStat t
    let top := new.foldl (fun a e => Nat.max a e.1) 0
    let s := s.updTile t (fun x => { x with
      lutsOld := x.luts, lutsFrom := f
      luts := new.foldl (fun m e => sins e.1 e.2 m) x.luts
      lutsNew := [], bgNew := if hold then x.bgNew else [], calNewAt := some f })
    let w := setFld (setFld (s.tsd k) 31 16 (wfld (s.tsd k) 31 16 + new.length)) 11 8 top
    ((s.tsdSet k w).tsdSet (Reg.tileCalFrameLo t) (word f)).tsdSet (Reg.tileCalFrameHi t) (word (f / 2 ^ 32 % 65536))

/-- Thresholds and trims that have arrived take effect at the start of frame `f` (R200, R202). THR_ORDER is raised where the tile
finds the order wrong and did not hold it so before, a bit that outlives its supply. DESIGN CHOICE (entry 80). -/
def State.applyThr (s : State) (t f : Nat) : State :=
  if (s.tile t).thrNew = false then s
  else
    let thrAddr := fun (k : Nat) => decide (k = Reg.tileThr t) || (decide (k / 0x1000 = Pg.chan t) && decide (k % 0x20 = 0))
    let s := s.updTile t (fun x => { x with thr := x.cfg.filter (fun e => thrAddr e.1), thrNew := false, thrNewAt := some f })
    (List.range 128).foldl (fun s c =>
      let o := s.thrOrder t c
      let k := Reg.chanStatus t c
      let s := if o && !(s.tsd k).getLsbD 2 then s.raise (Pg.tile t) 0x20 else s
      s.tsdSet k (setBit (s.tsd k) 2 o)) s

/-- What tile `t` does at the start of frame `f`: votes (R226), thresholds, tables, source runs, the cap in force and the
start of injection (R131, R200, R206, R218, R226, R240, R244). -/
def State.tileFrameStart (s : State) (t f votes : Nat) : State :=
  let powered := s.monitors t || decide (s.pwr t = 2)
  let s := if votes = 0 then s
    else ((s.tsdSet (Reg.tileSeuCount t) (word (Nat.min ((s.tsd (Reg.tileSeuCount t)).toNat + votes) 0xFFFFFFFF))).raise
      (Pg.tile t) 0x80).stick (Pg.tile t) 0x40000
  if powered = false then s
  else
    let s := (s.applyThr t f).switchTables t f
    let s := if (s.tile t).runReq then s.updTile t (fun x => { x with runReq := false, running := true }) else s
    let cap := s.capFor t f
    let s := if capAt f (s.tile t).caps = cap then s else s.updTile t (fun x => { x with caps := (f, cap) :: x.caps })
    let inj := s.tcfg t (Reg.tileInjCtl t)
    let first := f * 65536 + wfld inj 31 16
    let next := if decide (s.modeNow = 5) && inj.getLsbD 0 then some ((s.tile t).injNext.getD first) else none
    let s := s.updTile t (fun x => { x with injNext := next })
    (s.showCap t).showCal t

/-- One pulse of the test pulser (R217, R218, R220): it stops where the pulses sent equal INJ_COUNT, so a count lowered to no more
than those sent stops it no longer. DESIGN CHOICE (entry 80). -/
def State.injPulse (s : State) (t : Nat) : State :=
  match (s.tile t).injNext with
  | none => s
  | some i =>
    if decide (s.modeNow = 5) && (s.tcfg t (Reg.tileInjCtl t)).getLsbD 0 then
      let s := s.advanceTo i
      let n := (s.tsd (Reg.tileInjSent t)).toNat + 1
      let cnt := (s.tcfg t (Reg.tileInjCount t)).toNat
      let s := s.tsdSet (Reg.tileInjSent t) (word n)
      let s := s.updTile t (fun x => { x with
        injLast := some i, injNext := some (i + (s.tcfg t (Reg.tileInjPeriod t)).toNat) })
      if cnt ≠ 0 ∧ n = cnt then
        let k := Reg.tileInjCtl t
        let s := (s.setFlag k 0 false).tcfgSet t k (setBit (s.tcfg t k) 0 false)
        (s.updTile t (fun x => { x with injNext := none })).raise (Pg.tile t) 0x40
      else s
    else s

/-- A TILE page reset: the configuration of R228 stays, EN and RUN return to 0, interrupt, sticky and reported fields
return to reset, FAULT_CODE stays, and the tile powers down and, where wanted, up again (R214, R221, R225). -/
def State.tileReset (s : State) (t : Nat) : State :=
  let mine := fun (k : Nat) => decide (k / 0x1000 = Pg.tile t) || decide (k / 0x1000 = Pg.chan t)
  let keep := fun (e : Nat × Word) => !mine e.1 || decide (e.1 ∈ coveredWords t)
  let code := s.fld (Reg.tileStatus t) 7 4
  let s := { s with regs := s.regs.filter keep
                    det := { s.det with tside := s.det.tside.filter (fun e => !mine e.1) } }
  let s := (s.setFlag (Reg.tileInjCtl t) 0 false).setFlag (Reg.tileCalCtl t) 1 false
  let s := s.tileClear t
  (s.setPwr t 0 code).tilePower t

/-- THL_LEADING_EDGE. -/
def execThlLeadingEdge (t : Fin 16) (c : Fin 128) (tick : Nat) (raw : Fin 384) (s : State) : Host.Outcome State Fault Refusal :=
  .next (s.thlLead t c tick raw)

/-- THU_LEADING_EDGE. -/
def execThuLeadingEdge (t : Fin 16) (c : Fin 128) (tick : Nat) (raw : Fin 384) (s : State) : Host.Outcome State Fault Refusal :=
  .next (s.thuLead t c tick raw)

/-- THL_TRAILING_EDGE. -/
def execThlTrailingEdge (t : Fin 16) (c : Fin 128) (tick : Nat) (raw : Fin 384) (s : State) : Host.Outcome State Fault Refusal :=
  .next (s.thlTrail t c tick raw)

/-- THU_TRAILING_EDGE. -/
def execThuTrailingEdge (t : Fin 16) (c : Fin 128) (tick : Nat) (raw : Fin 384) (s : State) : Host.Outcome State Fault Refusal :=
  .next (s.thuTrail t c tick raw)

/-- OVERLENGTH_CLOSE (R249). -/
def execOverlengthClose (t : Fin 16) (c : Fin 128) (s : State) : Host.Outcome State Fault Refusal :=
  .next (s.overlength t c)

/-- COND_TIMEOUT (R299): the timer of the hit in formation expires. -/
def execCondTimeout (t : Fin 16) (c : Fin 128) (s : State) : Host.Outcome State Fault Refusal :=
  match (s.chan t c).hit with
  | none => .next s
  | some h => .next ((s.advanceTo (h.lead / 256 + wfld (s.tcfg t (Reg.trigTcondA t)) 9 0)).decideTimeout t c h)

/-- HIT_RELEASE (R204). -/
def execHitRelease (t : Fin 16) (c : Fin 128) (s : State) : Host.Outcome State Fault Refusal :=
  .next (s.hitRelease t c)

/-- QUENCH_WINDOW_END (R210): the window in progress ends. -/
def execQuenchWindowEnd (t : Fin 16) (c : Fin 128) (s : State) : Host.Outcome State Fault Refusal :=
  if s.monitors t then
    let w := 2 ^ wfld (s.tcfg t (Reg.chanQlim t c)) 18 16
    let start := Nat.max (s.chan t c).winStart (s.tile t).monFrom
    let s := s.advanceTo ((start / w + 1) * w * 65536)
    .next (s.rollWindows t c (frameOf s.now))
  else .next s

/-- QCLR (R212, R298): a write of CHAN.CMD.QCLR reaches the tile behind the commands accepted before it, or is lost when both
copies are uncorrectable (R297). -/
def execQclr (d : Dom) (t : Fin 16) (c : Fin 128) (v : Word) (lost : Bool) (s : State) : Host.Outcome State Fault Refusal :=
  .next (s.hostWrite d (Reg.chanCmd t c) v (fun s =>
    s.withRoom t d (Reg.chanCmd t c) v (fun s =>
      if v.getLsbD 0 = false ∨ s.tileListens t = false then s
      else
        let s := (s.sendQueued t).enqTile t (Reg.chanCmd t c) 1
        if lost then s.tileCommand t 2 2 else s.tileCommand t 0 0)))

/-- QWIN_CHANGE (R298, R728): a write of CHAN.QLIM reaches the tile behind the commands accepted before it and takes effect
there at once. -/
def execQwinChange (d : Dom) (t : Fin 16) (c : Fin 128) (v : Word) (s : State) : Host.Outcome State Fault Refusal :=
  let k := Reg.chanQlim t c
  .next (s.hostWrite d k v (fun s =>
    s.withRoom t d k v (fun s =>
      let s := s.plainWrite k v
      if s.tileListens t then (((s.sendQueued t).enqTile t k (s.rd k))).tileCommand t 0 0 else s)))

/-- TILE_CTL_WRITE (R198). -/
def execTileCtlWrite (d : Dom) (t : Fin 16) (v : Word) (s : State) : Host.Outcome State Fault Refusal :=
  .next (s.hostWrite d (Reg.tileCtl t) v (fun s => s.tileWrite t d (Reg.tileCtl t) v))

/-- INJECTION_PULSE (R218). -/
def execInjectionPulse (t : Fin 16) (s : State) : Host.Outcome State Fault Refusal := .next (s.injPulse t)

/-- TILE_SWITCH_ON (R221): the supply goes on and the tile enters RAMP. -/
def execTileSwitchOn (t : Fin 16) (s : State) : Host.Outcome State Fault Refusal :=
  match (s.tile t).onAt with
  | none => .next s
  | some a =>
    let s := s.elapse a
    if s.pwr t ≠ 0 ∨ s.tilesWanted = false ∨ s.flag (Reg.tileCtl t) 8 then .next (s.updTile t (fun x => { x with onAt := none }))
    else
    let s := s.updTile t (fun x => { x with onAt := none, rampAt := s.time.up, mismatches := 0 })
    .next (s.setPwr t 1 0)

/-- TILE_ANSWER (R221): the tile answers, its configuration fields are sent and its link hunts for lock (R289). -/
def execTileAnswer (t : Fin 16) (s : State) : Host.Outcome State Fault Refusal :=
  if s.pwr t = 1 then
    let s := (s.loadTile t).setPwr t 2 0
    let s := s.updLink t (fun _ => { huntAt := s.time.up, creditAt := s.time.up })
    .next ((s.setF (Reg.tlnkLstat t) 2 0 1).drainHeld t)
  else .next s

/-- TILE_ANSWER_TIMEOUT (R221): no answer within 1 ms. -/
def execTileAnswerTimeout (t : Fin 16) (s : State) : Host.Outcome State Fault Refusal :=
  if s.pwr t = 1 then .next (((s.elapse ((s.tile t).rampAt + 2000000)).tileFault t 1).drainHeld t) else .next s

/-- TILE_READBACK_CHECK (R221): the read-back check word is compared with TILEn.PAGE_CHECK. -/
def execTileReadbackCheck (t : Fin 16) (check : Word) (s : State) : Host.Outcome State Fault Refusal :=
  if s.pwr t ≠ 2 then .next s
  else if check = s.tileCheck t then
    let s := s.updTile t (fun x => { x with mismatches := 0, runReq := true, thrNew := true, monFrom := s.time.frame })
    .next (s.setPwr t 3 0)
  else if (s.tile t).mismatches = 0 then .next (((s.loadTile t).updTile t (fun x => { x with mismatches := 1 })).drainHeld t)
  else .next ((s.tileFault t 2).drainHeld t)

/-- TILE_OVERCURRENT (R221). -/
def execTileOvercurrent (t : Fin 16) (s : State) : Host.Outcome State Fault Refusal :=
  if 1 ≤ s.pwr t ∧ s.pwr t ≤ 4 then .next ((s.tileFault t 4).drainHeld t) else .next s

/-- SOURCE_RUN_REQUEST (R241): a write of TILEn.CAL_CTL. -/
def execSourceRunRequest (d : Dom) (t : Fin 16) (v : Word) (s : State) : Host.Outcome State Fault Refusal :=
  .next (s.hostWrite d (Reg.tileCalCtl t) v (fun s => s.tileWrite t d (Reg.tileCalCtl t) v))

/-- SOURCE_RUN_COMPLETE (R242). -/
def execSourceRunComplete (t : Fin 16) (hists : List (List Nat)) (s : State) : Host.Outcome State Fault Refusal :=
  .next (s.sourceRunEnd t hists)

/-- BG_HISTOGRAM_COMPLETE (R243). -/
def execBgHistogramComplete (t : Fin 16) (k : Fin 16) (hist : List Nat) (s : State) : Host.Outcome State Fault Refusal :=
  .next (s.bgHistogram t k hist)

/-- BASELINE_RESTORER_SAT (R195). -/
def execBaselineRestorerSat (t : Fin 16) (c : Fin 128) (sat : Bool) (s : State) : Host.Outcome State Fault Refusal :=
  let k := Reg.chanStatus t c
  let s' := s.tsdSet k (setBit (s.tsd k) 1 sat)
  .next (if sat && !(s.tsd k).getLsbD 1 then s'.raise (Pg.tile t) 0x10 else s')

end Sys2Proof.Machine
end

