-- ==== Sys2Proof/Machine/TileLink.lean ====
section
/-!
DEFINITION. The tile links and hub intake: frame closing in the tile, lanes and re-striping, frame headers, count blocks
and intake arbitration (R272 to R294, R734).
-/
namespace Sys2Proof.Machine

/-- LSTAT.STATE of link `n` (R289). -/
def State.lst (s : State) (n : Nat) : Nat := s.fld (Reg.tlnkLstat n) 2 0

/-- The lanes of link `n` that are in lock and enabled. -/
def State.lanesUp (s : State) (n : Nat) : Nat :=
  Nat.land (s.fld (Reg.tlnkLstat n) 15 12) (15 - s.fld (Reg.tlnkCtl n) 3 0)

/-- A block of a tile link: its sync header, 1 of a hit word and 2 of a link control block, and its payload (R273). -/
structure LinkBlock where
  sync : Nat
  payload : DWord
  deriving DecidableEq, Repr

/-- The block of a hit word (R273). -/
def hitBlock (w : DWord) : LinkBlock := ⟨1, w⟩

/-- A fill block: every payload bit is 0 (R273). -/
def fillBlock : LinkBlock := ⟨2, 0⟩

/-- A block of a frame header: word 0, whose bits [59:56] are 1 (R253), or word 1, which follows it as a control block. That word
1 has the sync header of a control block is DEDUCED (entry 63). -/
def headerBlock (w : DWord) : LinkBlock := ⟨2, w⟩

/-- The status block of a lane: the lane number and the low 16 bits of the frame number (R275). That they lie in bits [17:16] and
[15:0] is DESIGN CHOICE (entry 63). -/
def statusBlock (lane frame : Nat) : LinkBlock :=
  ⟨2, BitVec.ofNat 64 (packFields [(4, 0), (4, 2), (38, 0), (2, lane), (16, frame)])⟩

/-- A count block, whose content the hub consumes (R276); that it is not spelt out is DESIGN CHOICE (entry 63). -/
def countBlockOf : LinkBlock := ⟨2, BitVec.ofNat 64 (packFields [(4, 0), (4, 3), (56, 0)])⟩

/-- Bits [59:56] of a link control block: its kind (R273). -/
def LinkBlock.kind (b : LinkBlock) : Nat := dfld b.payload 59 56

/-- The block as the hub sees it: as sent, with an invalid sync header (`err` = 1), or as a control block of a kind not used
(`err` = 2). -/
def LinkBlock.seen (b : LinkBlock) (err : Nat) : LinkBlock :=
  if err = 0 then b else if err = 1 then ⟨0, b.payload⟩ else ⟨2, b.payload ||| 0xF00000000000000⟩

/-- A block that the hub does not discard: a valid sync header, and in a control block a kind that is used (R273, R278). -/
def LinkBlock.valid (b : LinkBlock) : Bool := decide (b.sync = 1) || (decide (b.sync = 2) && decide (b.kind ≤ 3))

/-- The lanes over which tile `n` stripes its blocks: all four in HUNT, else the active ones, or those it went on with where its
re-stripe command was discarded (R274, R289, R297). -/
def State.stripe (s : State) (n : Nat) : List Nat :=
  if s.lst n = 1 then [0, 1, 2, 3]
  else (List.range 4).filter (fun k => ((s.link n).own.getD (s.fld (Reg.tlnkLstat n) 11 8)).testBit k)

/-- The lane that carries the next block of link `n`: the (i mod k)-th of the stripe carries block i (R274). -/
def State.laneOf (s : State) (n : Nat) : Nat := (s.stripe n).getD ((s.link n).turn % (s.stripe n).length) 0

/-- Tile `n` puts a block on the next lane of the stripe (R272 to R274). -/
def State.putBlock (s : State) (n : Nat) (b : LinkBlock) : State :=
  (s.emit (.tileBlock n (s.laneOf n) b.sync b.payload)).updLink n (fun l => { l with turn := (l.turn + 1) % (s.stripe n).length })

/-- One unit of control credit: 128 blocks at 13.2 ns a block and lane, in the unit of `Link.credit` (R272, R276). -/
abbrev creditUnit : Nat := 16896

/-- The control credit of link `n` now, capped at 16 (R276). -/
def State.creditNow (s : State) (n : Nat) : Nat :=
  let l := s.link n
  Nat.min (16 * creditUnit) (l.credit + 5 * (s.stripe n).length * (s.time.up - l.creditAt))

/-- The control credit of link `n` brought up to now, less `k` credits (R276). -/
def State.creditDraw (s : State) (n k : Nat) : State :=
  let c := s.creditNow n
  s.updLink n (fun l => { l with credit := c - k * creditUnit, creditAt := s.time.up })

/-- Sets the state and the striped lanes of link `n`; where the lanes change, striping begins again at the lowest (R274). -/
def State.setLink (s : State) (n st active : Nat) : State :=
  let same := decide (s.fld (Reg.tlnkLstat n) 11 8 = active)
  let s := (s.creditDraw n 0).updLink n (fun l => { l with turn := if same then l.turn else 0 })
  ((s.setF (Reg.tlnkLstat n) 2 0 st).setF (Reg.tlnkLstat n) 11 8 active).linkSync n

/-- The lanes of link `n` lie within 16 blocks of each other, so that the hub absorbs their skew, and the status blocks received
last on them name one frame (R275). A tile that is not LIVE sends no header and so no status block; how late the lanes are is
known from their lock until then. DESIGN CHOICE (entry 63). -/
def State.deskewed (s : State) (n : Nat) : Bool :=
  let k := fun (i : Nat) => sget 0 i (s.link n).skew
  let seen := (s.link n).statusRx
  (List.range 4).all (fun i => (List.range 4).all (fun j => decide (k i - k j ≤ 16))) &&
    seen.all (fun a => seen.all (fun b => decide (a.2 = b.2)))

/-- The hub commands tile `n` on its control bus to re-stripe onto `lanes` at frame `f` (R290, R292). The layout of the
command is DESIGN CHOICE (entry 63): its address is that of LSTAT, its data frame × 16 + lanes. -/
def State.tellRestripe (s : State) (n f lanes : Nat) : State :=
  (s.updLink n (fun l => { l with told := some (f, lanes) })).enqTile n (Reg.tlnkLstat n) (word (f * 16 + lanes))

/-- The first frame that starts at least 8,192 ticks after now (R290, R292). -/
def State.namedFrame (s : State) : Nat := (s.now + 8192 + 65535) / 65536

/-- A link in HUNT comes up on 4 lanes that are deskewed, or on exactly 3 after 100 µs (R275, R289). -/
def State.huntEval (s : State) (n : Nat) : State :=
  let up := s.lanesUp n
  let late := decide ((s.link n).huntAt + 200000 ≤ s.time.up)
  if s.lst n ≠ 1 then s
  else if up = 15 ∧ s.deskewed n then (s.updLink n (fun l => { l with carryFrom := s.time.frame + 1 })).setLink n 2 15
  else if popCount 4 up = 3 ∧ late then
    ((s.updLink n (fun l => { l with carryFrom := s.time.frame + 1 })).setLink n 3 up).raise Pg.tlnk (2 ^ n)
  else s

/-- A link enters HUNT from an up state (R289). -/
def State.toHunt (s : State) (n : Nat) : State :=
  let s := s.updLink n (fun l => { l with
    huntAt := s.time.up, downSent := false, changeAt := none, lossless := false, three := s.threeCap n s.time.frame
    own := none, told := none, statusRx := [], turn := 0 })
  ((s.setLink n 1 0).raise Pg.tlnk (2 ^ (16 + n))).huntEval n

/-- A lossless change of link `n` to the lanes `to` at a named frame (R292, R294). -/
def State.changeLossless (s : State) (n lanes : Nat) : State :=
  let s := s.updLink n (fun l => { l with lossless := true, changeAt := some s.namedFrame, changeTo := lanes })
  (s.setLink n 4 (s.fld (Reg.tlnkLstat n) 11 8)).tellRestripe n s.namedFrame lanes

/-- A lane of a FULL link loses lock: words are discarded from now, the tile is commanded to re-stripe onto the other lanes at
the named frame, and the frames up to then are lost, each counted once; the link runs on 3 lanes from that frame (R290). -/
def State.changeLossy (s : State) (n : Nat) : State :=
  let up := s.lanesUp n
  let f := s.time.frame
  let r := s.namedFrame
  let fs := ((List.range (r - f)).map (fun i => f + i)).filter (fun g => decide (g ∉ (s.link n).lossFrames))
  let s := s.updLink n (fun l => { l with
    lossless := false, changeAt := some r, changeTo := up, carryFrom := r, lossFrames := l.lossFrames ++ fs })
  let s := { s with det := { s.det with incomplete := s.det.incomplete ++ fs.map (fun g => (g, n)) } }
  (((s.setLink n 4 (s.fld (Reg.tlnkLstat n) 11 8)).tellRestripe n r up).incSatBy (Reg.tlnkLossFrames n) fs.length).stick Pg.tlnk 0x20000

/-- What the loss of an enabled lane does to link `n` (R289, R290, R293). A lane that a CHANGE to 3 lanes leaves out is no
further lane. -/
def State.laneLost (s : State) (n lane : Nat) : State :=
  let st := s.lst n
  let act := (s.rd (Reg.tlnkLstat n)).getLsbD (8 + lane)
  let back := decide (st = 4) && (s.link n).lossless && decide ((s.link n).changeTo = 15) && !act
  if st < 2 then s
  else if back then (s.updLink n (fun l => { l with lossless := false, changeAt := none })).setLink n 3 (s.fld (Reg.tlnkLstat n) 11 8)
  else if decide (st = 4) && !(s.link n).changeTo.testBit lane && decide (3 ≤ popCount 4 (s.lanesUp n)) then s
  else if popCount 4 (s.lanesUp n) < 3 then s.toHunt n
  else if st = 2 then s.changeLossy n
  else if st = 3 ∧ act = false then s
  else s.toHunt n

/-- An invalid sync header on a lane (R277). -/
def State.syncErr (s : State) (n lane k : Nat) : State := s.incFSatBy (Reg.tlnkSyncErr n) (8 * lane + 7) (8 * lane) k

/-- A frame is closed at intake when it has ended, no requester holds it or a frame before it, and none of its words is
queued (R283). -/
def State.intakeClosed (s : State) (f : Nat) : Bool :=
  decide (f < s.time.frame) && (List.range 16).all (fun n =>
    let l := s.link n
    !l.requester || ((match l.holds with
      | some h => decide (f < Nat.max h l.closedTo)
      | none => true) && l.buf.all (fun e => decide (f < e.1))))

/-- WAIT_MAX at the global close of frame `f` (TLNK.WAIT_MAX). -/
def State.noteClose (s : State) (f : Nat) : State :=
  let fresh := match s.det.closedFrame with
    | some g => decide (g < f)
    | none => true
  if fresh && s.intakeClosed f then
    let s := { s with det := { s.det with closedFrame := some f } }
    s.setF Reg.tlnkWaitMax 15 0 (Nat.min 65535 (Nat.max (s.fld Reg.tlnkWaitMax 15 0) (s.now - (f + 1) * 65536)))
  else s

/-- The channel holds a hit of frame `f` that it has not released. -/
def Chan.owes (ch : Chan) (f : Nat) : Bool :=
  ch.done.any (fun d => decide (d.frame ≤ f)) || (match ch.hit with
    | some h => h.passed && decide (h.lead / 2 ^ 24 ≤ f)
    | none => false)

/-- A channel releases all of its hit words up to frame `f`, as every channel has by the bound of R279. -/
def State.flushChan (s : State) (t c f : Nat) : State :=
  let h := (s.chan t c).hit
  let s := if (match h with
    | some g => decide (g.lead / 2 ^ 24 ≤ f)
    | none => false) then s.overlength t c else s
  let n := ((s.chan t c).done.filter (fun d => decide (d.frame ≤ f))).length
  (List.range n).foldl (fun s _ => s.hitRelease t c) s

/-- A frame header (R253). -/
def State.frameHeader (s : State) (t f : Nat) : DWord × DWord :=
  let ti := s.tile t
  let w0 := packFields [(4, t), (4, 1), (1, (s.threeIn t f).toNat), (1, (decide (capAt f ti.caps ≠ 0)).toNat),
    (1, (decide (ti.thrNewAt = some f)).toNat), (1, (decide (ti.calNewAt = some f)).toNat), (4, 0), (48, f)]
  (BitVec.ofNat 64 w0, headerWord1 (decide (ti.liveFrom = some f)) (sget {} (f - 1) ti.cnts))

/-- The words of TILEn and CHANn that count blocks report (R227, R276). -/
def reported (t : Nat) : List Nat :=
  [Reg.tileInjSent t, Reg.tileSeuCount t, Reg.tileQuenched t 0, Reg.tileQuenched t 1, Reg.tileQuenched t 2,
    Reg.tileQuenched t 3, Reg.tileCalStat t, Reg.tileCalFrameLo t, Reg.tileCalFrameHi t]
    ++ (List.range 128).flatMap (fun c =>
      [Reg.chanStatus t c, Reg.chanEdges t c, Reg.chanDropCap t c, Reg.chanDropFull t c, Reg.chanQpile t c])

/-- The words that the count blocks of the frame just closed carry: those that differ from the hub's copies. DESIGN CHOICE
(entry 63). -/
def State.countWords (s : State) (t : Nat) : List Nat := (reported t).filter (fun k => s.tsd k != s.rd k)

/-- The tile closes the frame it is sending (R279); its header follows the words still queued (R253). -/
def State.tileFrameClose (s : State) (t : Nat) : State :=
  let n := (s.tile t).sendFrame
  if decide (s.pwr t = 4) && (s.tile t).liveFrom.isSome then
    let s := s.advanceTo ((n + 1) * 65536)
    let owing := (List.range 128).filter (fun c => (s.chan t c).owes n)
    let s := if owing = [] then s else owing.foldl (fun s c => s.flushChan t c n) (s.advanceTo ((n + 1) * 65536 + 1040))
    let h := s.frameHeader t (n + 1)
    s.updTile t (fun x => { x with
      sendFrame := n + 1, headers := x.headers ++ [(n + 1, h.1, h.2)], countDue := true, counts := s.countWords t })
  else s

/-- The place of a word of frame `f` in its channel's order: its TLEAD in bins from the MTIME epoch (R252). -/
def wordAt (f : Nat) (w : DWord) : Nat := f * 2 ^ 24 + tleadOf w

/-- The hit former of a channel holds a hit that leads before `a`, so that no word from `a` on may leave yet (R252). -/
def Chan.formsBefore (ch : Chan) (a : Nat) : Bool :=
  ch.done.any (fun d => decide (wordAt d.frame d.word < a)) || (match ch.inFormation with
    | some h => decide (h.lead < a)
    | none => false)

/-- The frame of the word that requester `c` of the tile's arbiter offers: the oldest of a channel's derandomiser, or of the
transition store, which is requester 128; a word that would overtake an earlier one of its channel is not offered (R252, R280,
R282). -/
def State.nextFrame (s : State) (t c : Nat) : Option Nat :=
  let ti := s.tile t
  if c < 128 then
    match (s.chan t c).derand with
    | [] => none
    | (f, w) :: _ =>
      let a := wordAt f w
      if (s.chan t c).formsBefore a || ti.tstore.any (fun e => decide (e.1 = c) && decide (wordAt e.2.1 e.2.2 < a)) then none
      else some f
  else
    match ti.tstore with
    | [] => none
    | (k, f, w) :: _ =>
      let a := wordAt f w
      if (s.chan t k).formsBefore a || (s.chan t k).derand.any (fun e => decide (wordAt e.1 e.2 < a)) then none else some f

/-- The tile holds a word of a frame before `f`. -/
def State.holdsBefore (s : State) (t f : Nat) : Bool :=
  (List.range 128).any (fun c => (s.chan t c).derand.any (fun e => decide (e.1 < f))) ||
    (s.tile t).tstore.any (fun e => decide (e.2.1 < f))

/-- The requester that the tile's arbiter serves next: lowest frame first, round-robin within it, never past a header that
waits (R252, R253, R282). -/
def State.arbTile (s : State) (t : Nat) : Option (Nat × Nat) :=
  let ti := s.tile t
  let order := (List.range 129).map (fun i => (ti.rr + i) % 129)
  let cand := order.filterMap (fun c => (s.nextFrame t c).map (fun f => (c, f)))
  let best := cand.foldl (fun (a : Option (Nat × Nat)) e =>
    match a with
    | none => some e
    | some b => if e.2 < b.2 then some e else some b) none
  match best, ti.headers with
  | some (c, f), [] => if f ≤ ti.sendFrame then some (c, f) else none
  | some (c, f), (g, _) :: _ => if f < g then some (c, f) else none
  | none, _ => none

/-- Takes the word that requester `c` offers. -/
def State.takeWord (s : State) (t c : Nat) : State × DWord :=
  if c < 128 then
    match (s.chan t c).derand with
    | e :: r => (s.updChan t c (fun x => { x with derand := r }), e.2)
    | [] => (s, 0)
  else
    match (s.tile t).tstore with
    | e :: r => (s.updTile t (fun x => { x with tstore := r }), e.2.2)
    | [] => (s, 0)

/-- A hit word arrives at intake, which takes it for one of the frame that the link holds (R283 to R286). -/
def State.intakeWord (s : State) (n : Nat) (w : DWord) : State :=
  let l := s.link n
  match l.requester, l.holds with
  | true, some f =>
    let s := s.updLink n (fun x => { x with received := x.received + 1 })
    if f < l.closedTo then s.incSat (Reg.tlnkLateWords n)
    else s.updLink n (fun x => { x with buf := x.buf ++ [(f, w)] })
  | _, _ => s

/-- The next block that the tile has ready for a lane of the stripe: the lane's status block of the frame just begun while at
least 3 control credits remain, else the next hit word, else fill (R273, R275, R276, R282). -/
def State.nextBlock (s : State) (t lane : Nat) : State × LinkBlock :=
  if (s.link t).status.contains lane && decide (3 * creditUnit ≤ s.creditNow t) then
    let f := (s.link t).statusFrame
    ((s.creditDraw t 1).updLink t (fun l => { l with status := l.status.filter (fun k => decide (k ≠ lane)) }), statusBlock lane f)
  else
    match s.arbTile t with
    | none => (s, fillBlock)
    | some (c, _) =>
      let (s, w) := s.takeWord t c
      (s.updTile t (fun x => { x with rr := (c + 1) % 129 }), hitBlock w)

/-- The hub takes a block from `lane` by its sync header and kind: a hit word goes to intake, which has none in HUNT; a status
block of a lane in lock deskews it; any other, and any block while the tile stripes onto other lanes than the hub, is
discarded (R273, R275, R278, R285, R289). -/
def State.takeBlock (s : State) (t lane : Nat) (b : LinkBlock) : State :=
  if (s.link t).own.isSome then s
  else if b.sync = 1 then s.intakeWord t b.payload
  else if decide (b.sync = 2) && decide (b.kind = 2) && s.flag (Reg.tlnkLstat t) (12 + lane) then
    (s.updLink t (fun l => { l with
      statusRx := sins (dfld b.payload 17 16) (dfld b.payload 15 0) l.statusRx })).huntEval t
  else s

/-- The next block of the link goes to the next lane of the stripe and is taken (R273, R274). -/
def State.oneBlock (s : State) (t err : Nat) : State :=
  let lane := s.laneOf t
  let (s, b) := s.nextBlock t lane
  (s.putBlock t b).takeBlock t lane (b.seen err)

/-- The blocks before the next one of `lane` come first, in the order of the stripe and whole (R274). -/
def State.toLane (s : State) (t lane : Nat) : Nat → State
  | 0 => s
  | n + 1 => if s.laneOf t = lane then s else (s.oneBlock t 0).toLane t lane n

/-- One block of the tile link on a lane, and before it those that the stripe puts on the lanes before: in HUNT the tile's words
are lost; a lane outside the stripe carries fill blocks; a block with an invalid sync header or kind is discarded (R273, R274,
R278, R289, R292). -/
def State.linkBlock (s : State) (t lane err : Nat) : State :=
  let s := if err = 1 then s.syncErr t lane 1 else s
  if s.lst t = 0 then s
  else if (s.stripe t).contains lane = false then s.emit (.tileBlock t lane fillBlock.sync fillBlock.payload)
  else (s.toLane t lane 4).oneBlock t err

/-- A frame header is sent once no older word waits, word 0 on `lane` after the blocks of the lanes before it and word 1 as the
next block, and reaches intake (R253, R273, R274, R276, R283, R287). In HUNT it is lost; one with an invalid block is discarded
(R278). -/
def State.headerRx (s : State) (t lane err : Nat) : State :=
  match (s.tile t).headers with
  | [] => s
  | (f, w0, w1) :: r =>
    if s.holdsBefore t f || decide (s.lst t = 0) then s
    else
      let s := if err = 1 then s.syncErr t lane 1 else s
      let s := s.toLane t lane (if (s.stripe t).contains lane then 4 else 0)
      let l := s.link t
      let s := (s.updTile t (fun x => { x with headers := r, cnts := x.cnts.filter (fun e => decide (f ≤ e.1)) })).creditDraw t 2
      let s := (s.putBlock t (headerBlock w0)).putBlock t (headerBlock w1)
      let s := s.updLink t (fun x => { x with status := s.stripe t, statusFrame := f % 65536 })
      if s.lst t < 2 ∨ ((headerBlock w0).seen err).valid = false ∨ l.own.isSome ∨ l.requester = false ∨ f < l.carryFrom then s
      else
        let prev := dfld w1 63 50
        let s := if prev = l.received ∨ f - 1 ∈ l.lossFrames then s
          else
            let s := { s with det := { s.det with incomplete := s.det.incomplete ++ [(f - 1, t)] } }
            ((s.incSatBy (Reg.tlnkMissWords t) (prev - l.received)).incSat (Reg.tlnkMissFrames t)).stick Pg.tlnk 0x40000
        let s := s.updLink t (fun x => { x with holds := some f, received := 0 })
        let s := { s with det := { s.det with headers := sins (f * 16 + t) (w0, w1) s.det.headers } }
        s.noteClose (f - 1)

/-- The words that one count block carries, so that 48 of them carry all that a frame can report (R276). DESIGN CHOICE
(entry 63). -/
abbrev countChunk : Nat := 14

/-- The next count block of the frame is sent on `lane`, after the blocks of the lanes before it, while at least 3 control credits
remain (R274, R276), and is received: the hub's copies of the words it carries are refreshed (R227). The last one of the frame
carries the check word, and one that differs from PAGE_CHECK makes the hub resend every configuration field (R288); CAL_CTL.RUN
is a command and is not repeated (R297). An invalid one is discarded (R278). -/
def State.countBlock (s : State) (t lane err : Nat) : State :=
  if (s.tile t).countDue && (s.link t).requester && decide (3 * creditUnit ≤ s.creditNow t) then
    let s := if err = 1 then s.syncErr t lane 1 else s
    let s := s.toLane t lane (if (s.stripe t).contains lane then 4 else 0)
    let ks := (s.tile t).counts.take countChunk
    let rest := (s.tile t).counts.drop countChunk
    let s := (s.updTile t (fun x => { x with countDue := decide (rest ≠ []), counts := rest })).creditDraw t 1
    let s := s.putBlock t countBlockOf
    if (countBlockOf.seen err).valid = false ∨ (s.link t).own.isSome then s
    else
    let s := ks.foldl (fun s k =>
      if k = Reg.tileCalStat t then s.wr k ((s.tsd k &&& 0xFFFF0F07) ||| (s.rd k &&& 0x18)) else s.wr k (s.tsd k)) s
    if rest ≠ [] ∨ s.tileReadback t = s.tileCheck t then s
    else
      let word := fun (s : State) (k : Nat) => if k = Reg.tileCalCtl t then setBit (s.rd k) 1 false else s.rd k
      ((coveredWords t).foldl (fun s k => s.enqTile t k (word s k)) s).stick Pg.tlnk 0x40000
  else s

/-- The lowest frame that a requester has queued or holds. -/
def Link.lowest (l : Link) : Option Nat :=
  match l.buf, l.holds with
  | e :: _, some h => some (Nat.min e.1 (Nat.max h l.closedTo))
  | e :: _, none => some e.1
  | [], some h => some (Nat.max h l.closedTo)
  | [], none => none

/-- The link whose word passes next at intake: the lowest frame held by any requester first, then round-robin over the
clusters and over the links of a cluster (R282, R283). -/
def State.arbIntake (s : State) : Option (Nat × Nat × DWord) :=
  let can := fun (n : Nat) =>
    match (s.link n).buf with
    | [] => false
    | e :: _ => (s.link n).requester && (List.range 16).all (fun m =>
        !(s.link m).requester || (match (s.link m).lowest with
          | some g => decide (e.1 ≤ g)
          | none => true))
  let cl := (List.range 4).map (fun i => (s.det.rrGlobal + i) % 4)
  let ls := cl.flatMap (fun j => (List.range 4).map (fun i => 4 * j + (sget 0 j s.det.rrCluster + i) % 4))
  match ls.find? can with
  | none => none
  | some n => ((s.link n).buf.head?).map (fun e => (n, e.1, e.2))

/-- Takes the word of link `n` out of intake and moves the round-robin on. -/
def State.intakeTake (s : State) (n : Nat) : State :=
  let s := s.updLink n (fun x => { x with buf := x.buf.drop 1 })
  { s with det := { s.det with
      rrGlobal := (n / 4 + 1) % 4, rrCluster := sset 0 (n / 4) ((n % 4 + 1) % 4) s.det.rrCluster } }

/-- Effect of a write of LANE_DIS (R294). -/
def State.laneDisWrite (s : State) (n : Nat) (v : Word) : State :=
  let old := s.fld (Reg.tlnkCtl n) 3 0
  let new := wfld v 3 0
  if 1 < popCount 4 new then s.refuse Pg.tlnk
  else
    let s := s.plainWrite (Reg.tlnkCtl n) v
    let s := (List.range 4).foldl (fun s k =>
      if old.testBit k ∨ !new.testBit k then s
      else if s.lst n = 2 then s.changeLossless n (15 - 2 ^ k)
      else s.laneLost n k) s
    s.huntEval n

/-- A TLNK page reset (R734). -/
def State.tlnkReset (s : State) : State :=
  let keep := fun (k : Nat) => decide (k / 0x1000 ≠ Pg.tlnk) || decide (k = Reg.tlnkArb)
    || (List.range 16).any (fun n => decide (k = Reg.tlnkLstat n))
  let s := { s with regs := s.regs.filter (fun e => keep e.1) }
  (List.range 16).foldl (fun s n => s.huntEval n) s

/-- TILE_FRAME_CLOSE. -/
def execTileFrameClose (t : Fin 16) (s : State) : Host.Outcome State Fault Refusal := .next (s.tileFrameClose t)

/-- TILE_LINK_BLOCK. -/
def execTileLinkBlock (t : Fin 16) (lane : Fin 4) (err : Fin 3) (s : State) : Host.Outcome State Fault Refusal :=
  .next (s.linkBlock t lane err)

/-- LANE_BLOCK_LOCK (R275, R277, R289): the lane gains block lock; its blocks arrive some blocks late. -/
def execLaneBlockLock (t : Fin 16) (lock : LaneLock) (s : State) : Host.Outcome State Fault Refusal :=
  if s.lst t = 0 ∨ s.flag (Reg.tlnkLstat t) (12 + lock.lane) then .next s
  else
    let s := s.setFlag (Reg.tlnkLstat t) (12 + lock.lane) true
    let s := s.updLink t (fun l => { l with
      lockedAt := sset 0 lock.lane s.time.up l.lockedAt, skew := sset 0 lock.lane lock.skew l.skew
      statusRx := l.statusRx.filter (fun e => decide (e.1 ≠ lock.lane.val)) })
    .next (s.huntEval t)

/-- LANE_LOCK_LOSS (R277, R289, R290, R293): 16 invalid sync headers within 64 blocks, of which `headers` are counted now. -/
def execLaneLockLoss (t : Fin 16) (lane : Fin 4) (headers : Nat) (s : State) : Host.Outcome State Fault Refusal :=
  if s.flag (Reg.tlnkLstat t) (12 + lane) then
    let s := s.setFlag (Reg.tlnkLstat t) (12 + lane) false
    let s := (s.syncErr t lane headers).incFSat (Reg.tlnkLockLoss t) (8 * lane + 7) (8 * lane)
    .next (if s.flag (Reg.tlnkCtl t) lane then s else s.laneLost t lane)
  else .next (s.syncErr t lane headers)

/-- LINK_HUNT_TIMEOUT (R289): 100 µs have passed since the link entered HUNT. DOWN is reported with fewer than 3 enabled lanes in
lock; four that are not deskewed hunt on. -/
def execLinkHuntTimeout (t : Fin 16) (s : State) : Host.Outcome State Fault Refusal :=
  if s.lst t ≠ 1 then .next s
  else
    let s := (s.elapse ((s.link t).huntAt + 200000)).huntEval t
    if s.lst t = 1 ∧ popCount 4 (s.lanesUp t) < 3 ∧ (s.link t).downSent = false then
      .next ((s.updLink t (fun l => { l with downSent := true })).raise Pg.tlnk (2 ^ (16 + t.val)))
    else .next s

/-- LINK_RESTRIPE (R290, R292): the named frame starts and the link runs on its new lanes. A tile whose command for it was
discarded (R297) goes on with the lanes it had, and the hub makes nothing of its blocks. DESIGN CHOICE (entry 63). -/
def execLinkRestripe (t : Fin 16) (s : State) : Host.Outcome State Fault Refusal :=
  match s.lst t, (s.link t).changeAt with
  | 4, some f =>
    let s := s.advanceTo (f * 65536)
    let l := s.link t
    if Nat.land l.changeTo (s.lanesUp t) ≠ l.changeTo then .next (s.toHunt t)
    else
      let mine := l.own.getD (s.fld (Reg.tlnkLstat t) 11 8)
      let own := if l.told = some (f, l.changeTo) ∨ mine = l.changeTo then none else some mine
      let s := s.updLink t (fun x => { x with lossless := false, changeAt := none, told := none, own := own })
      let st := if l.changeTo = 15 then 2 else 3
      let s := s.setLink t st l.changeTo
      .next (if st = 3 then s.raise Pg.tlnk (2 ^ t.val) else s)
  | _, _ => .next s

/-- LANE_RETURN_TIMER (R292): the missing lane has held lock for 1 ms. -/
def execLaneReturnTimer (t : Fin 16) (s : State) : Host.Outcome State Fault Refusal :=
  let miss := Nat.land (s.lanesUp t) (15 - s.fld (Reg.tlnkLstat t) 11 8)
  if s.lst t = 3 ∧ miss ≠ 0 then
    let s := s.elapse (sget 0 (Nat.log2 miss) (s.link t).lockedAt + 2000000)
    .next (s.changeLossless t 15)
  else .next s

/-- LANE_DIS_WRITE (R294). -/
def execLaneDisWrite (d : Dom) (t : Fin 16) (v : Word) (s : State) : Host.Outcome State Fault Refusal :=
  .next (s.hostWrite d (Reg.tlnkCtl t) v (fun s => s.laneDisWrite t v))

/-- COUNT_BLOCK_RX. -/
def execCountBlockRx (b : BlockRx) (s : State) : Host.Outcome State Fault Refusal :=
  .next (s.countBlock b.tile b.lane b.err)

end Sys2Proof.Machine
end

