-- ==== Sys2Proof/Machine/Evb.lean ====
section
/-!
DEFINITION. The event builder: events, tags, the event store, completion, event format and admission (R422 to R437).
-/
namespace Sys2Proof.Machine

/-- The state with the event builder's own state changed by `f`. -/
def State.updEvb (s : State) (f : EvbSt → EvbSt) : State := { s with evb := f s.evb }

/-- A free place among `cap`: any free one may be taken, as `hint` decides (the manual fixes no arrangement). -/
def pickPlace (cap : Nat) (used : List Nat) (hint : Nat) : Option Nat :=
  if hint % cap ∉ used ∧ 0 < cap then some (hint % cap)
  else (List.range (Nat.min cap (used.length + 1))).find? (fun i => decide (i ∉ used))

/-- The tile-frame (t, f) was reported incomplete, or lost words for want of a place (R287, R290, R344). -/
def State.incompleteTF (s : State) (t f : Nat) : Bool := decide ((f, t) ∈ s.det.incomplete) || decide ((t, f) ∈ s.acq.lost)

/-- LANES3, CAP, THR_NEW and CAL_NEW of the header of tile `t` for frame `f`, 0 when none was received (R253). -/
def State.hdrFlags (s : State) (t f : Nat) : Nat := dfld (sget (0, 0) (f * 16 + t) s.det.headers).1 55 52

/-- The engine `e` of the rotation of dispatch group `j` at place `k` (R386). -/
def engAt (j k : Nat) : Nat := (3 * j + k % 3) * 8 + k / 3

/-- The dispatch group of engine `e`. -/
def engGroup (e : Nat) : Nat := e / 24

/-- Engine `e` beside its registers. -/
def State.engine (s : State) (e : Nat) : Eng := sget {} e s.eng.engs

/-- The last frame that matters to an event: the frame of the group, or the frame that contains E − 1 (R422). -/
def Ev.target (v : Ev) : Nat := if v.kind = 1 ∨ v.kind = 2 then frameOf (v.hi - 1) else v.frame

/-- Engine `e` takes part in the event (R422). -/
def Ev.concerns (v : Ev) (e : Nat) : Bool := decide (v.kind = 1) || decide (v.kind = 2) || decide (engGroup e = v.group)

/-- Every engine concerned has passed its marker of the event's frame, and no word of the event waits at an output arbiter
(R409, R422). -/
def State.evPassed (s : State) (v : Ev) : Bool :=
  (List.range 96).all (fun e => !v.concerns e || decide (v.target < sget 0 (s.modeOf v.target) (s.engine e).passed))
    && s.eng.out.all (fun w => decide (w.ev ≠ v.num))

/-- EVB.STATUS.TAGS follows the tags in use. -/
def State.showTags (s : State) : State :=
  s.setF Reg.evbStatus 25 16 (s.evb.evs.filter (fun v => decide (v.tag < 512))).length

/-- A tag is free. -/
def State.tagFree (s : State) (t : Nat) : Bool := decide (t < 512) && s.evb.evs.all (fun v => decide (v.tag ≠ t))

/-- A free tag, or 512 when there is none (R424). -/
def State.pickTag (s : State) : Nat :=
  (pickPlace 512 ((s.evb.evs.map (fun v => v.tag)).filter (fun t => decide (t < 512))) (Config.freeNat s.fresh)).getD 512

/-- A dropped event is counted in DROPp and in the cause counter of its row (R424, R425, R435). -/
def State.countEvDrop (s : State) (prio cause bits : Nat) : State :=
  (((s.incSat cause).incSat (Reg.evbDrop prio)).raise Pg.evb (0x10 + bits)).stick Pg.evb 0x10000

/-- The destination of an event of mode `m` (R430, R431): queue or lanes, its number, and the lane-bound count after it. -/
def State.evDest (s : State) (kind m frame group : Nat) : Bool × Nat × Nat :=
  let d := s.nat Reg.evbDest
  let b := 8 * (m - 2)
  if d.testBit (b + 7) then (true, nfld d (b + 5) b, s.evb.laneCount)
  else if kind = 0 ∨ kind = 3 then (false, (frame + group) % 4, s.evb.laneCount)
  else (false, s.evb.laneCount % 4, s.evb.laneCount + 1)

/-- The priority of an event (R434). -/
def State.evPrio (s : State) (kind group src : Nat) : Nat :=
  if kind = 4 then s.fld Reg.evbPrio 19 18
  else if kind = 1 ∨ kind = 2 then s.fld Reg.evbPrio (2 * src + 9) (2 * src + 8)
  else s.fld Reg.evbPrio (2 * group + 1) (2 * group)

/-- An event opens: it takes a destination, an EVSEQ and a free tag, or is dropped for want of one (R422, R424, R430 to
R434). The fields of `v` beside these are those of the event. The answer is the event's number. -/
def State.evOpen (s : State) (v : Ev) : State × Nat :=
  let (q, dn, cnt) := s.evDest v.kind v.mode v.frame v.group
  let key := if q then dn else 64 + dn
  let seq := sget 0 key s.evb.seqs
  let pr := s.evPrio v.kind v.group v.accSrc
  let n := s.evb.nextNum
  let t := s.pickTag
  let w := { v with num := n, tag := t, isQ := q, dnum := dn, evseq := seq % 2 ^ 32, prio := pr }
  let s := s.draw.updEvb (fun b => { b with
    evs := b.evs ++ [w], nextNum := n + 1, seqs := sset 0 key (seq + 1) b.seqs, laneCount := cnt })
  let s := if t = 512 then s.countEvDrop pr Reg.evbTagDrop 1 else s
  (s.showTags, n)

/-- The number of an event that never opens: its words are discarded (R732). -/
def State.evNone (s : State) : State × Nat := (s.updEvb (fun b => { b with nextNum := b.nextNum + 1 }), s.evb.nextNum)

/-- The event of a STREAM or CALIBRATE frame and dispatch group; it opens at the first word or marker (R422), unless an EVB page
reset came in that frame or later (R732). -/
def State.streamEv (s : State) (mode frame group : Nat) : State × Nat :=
  let kind := if mode = 5 then 3 else 0
  if frame < s.evb.since then s.evNone else
  match s.evb.evs.find? (fun v => decide (v.kind = kind) && decide (v.frame = frame) && decide (v.group = group)) with
  | some v => (s, v.num)
  | none => s.evOpen {
      num := 0, kind := kind, mode := mode, frame := frame, group := group, tag := 512,
      tick := frame * 65536, lo := frame * 65536, hi := (frame + 1) * 65536 }

/-- The SUMMARY event of a frame and dispatch group; it opens at the first marker word (R422, R423, R732). -/
def State.summaryEv (s : State) (mode frame group : Nat) : State × Nat :=
  if frame < s.evb.since then s.evNone else
  match s.evb.evs.find? (fun v => decide (v.kind = 4) && decide (v.frame = frame) && decide (v.group = group)) with
  | some v => (s, v.num)
  | none => s.evOpen {
      num := 0, kind := 4, mode := mode, frame := frame, group := group, tag := 512,
      tick := frame * 65536, lo := frame * 65536, hi := (frame + 1) * 65536 }

/-- The state with event `n` changed by `f`. -/
def State.updEv (s : State) (n : Nat) (f : Ev → Ev) : State :=
  s.updEvb (fun b => { b with evs := b.evs.map (fun v => if v.num = n then f v else v) })

/-- Event number `n`, if it is known. -/
def State.ev? (s : State) (n : Nat) : Option Ev := s.evb.evs.find? (fun v => decide (v.num = n))

/-- Places of the event store in use: those of events in flight and of admitted events that wait for their lanes (R425). -/
def State.storeUsed (s : State) : List Nat :=
  s.evb.evs.flatMap (fun v => v.words.map (fun w => w.place) ++ v.body)
    ++ s.evb.lanes.flatMap (fun g => g.2.flatMap (fun l => l.body))
    ++ s.lane.groups.flatMap (fun g => (g.2.tx.filter (fun v => !v.begun)).flatMap (fun v => v.places))

/-- Writes a 64-bit word to a place of the event store, if one is free (R425). -/
def State.storePut (s : State) (w : DWord) : State × Option Nat :=
  let cap := s.fld Reg.evbStore 25 16 * 8192
  match pickPlace cap s.storeUsed (Config.freeNat s.fresh) with
  | none => (s, none)
  | some p => (s.draw.memPut 17 (s.fld Reg.evbStore 9 0 * 65536 + 8 * p) (leBytes 8 w.toNat), some p)

/-- Reads the word at a place of the event store: an uncorrectable word reads all ones (R507). The second answer says
whether it was uncorrectable. -/
def State.storeGet (s : State) (p : Nat) : State × DWord × Bool :=
  let (s, bs, ue) := s.memGet 17 (s.fld Reg.evbStore 9 0 * 65536 + 8 * p) 8
  (s, if ue then BitVec.ofNat 64 (2 ^ 64 - 1) else BitVec.ofNat 64 (leNat bs), ue)

/-- A word accepted by an engine port, or a bypass word, joins its event (R423 to R426). -/
def State.evWord (s : State) (n frame typ num origin : Nat) (w : DWord) : State :=
  match s.ev? n with
  | none => s
  | some v =>
    if v.forced then s.incSat Reg.evbLateWords
    else if v.tag = 512 then s
    else
      match s.storePut w with
      | (s, none) => s.updEv n (fun v => { v with storeDrop := true })
      | (s, some p) => s.updEv n (fun v => { v with words := v.words ++ [⟨frame, typ, num, origin, p⟩] })

/-- A word of event `n` was dropped by an engine cap (R408, R427). -/
def State.evCapDrop (s : State) (n : Nat) : State := s.updEv n (fun v => { v with dropped := v.dropped + 1 })

/-- Event `n` gives its tag back; it stays known only when it was completed by force (R424, R426). -/
def State.evFree (s : State) (n : Nat) : State :=
  let off := fun (v : Ev) => if v.num = n then { v with tag := 512, words := [], body := [], heads := [] } else v
  let stay := fun (v : Ev) => decide (v.num ≠ n) || v.forced
  (s.updEvb (fun b => { b with evs := (b.evs.map off).filter stay })).showTags

/-- Events that no longer hold a tag are forgotten once every engine concerned has passed its marker. -/
def State.evForget (s : State) : State :=
  s.updEvb (fun b => { b with evs := b.evs.filter (fun v => decide (v.tag < 512) || !s.evPassed v) })

/-- The frames of an event's window, for its segments. -/
def Ev.frames (v : Ev) : List Nat :=
  if v.kind = 1 ∨ v.kind = 2 then [frameOf v.lo] ++ (if frameOf v.lo < v.target then [frameOf v.lo + 1] else [])
  else [v.frame]

/-- A segment word (R428). -/
def segWord (tile fdelta typ origin : Nat) (inc : Bool) (flags engine count : Nat) : DWord :=
  BitVec.ofNat 64 (packFields [(4, tile), (1, fdelta), (1, typ), (2, origin), (1, inc.toNat), (4, flags), (7, engine),
    (24, 0), (20, count)])

/-- The segments of an event in order: (frame, TYPE, tile or engine, ORIGIN) and the places of their words (R428, R429). -/
def State.evSegs (s : State) (v : Ev) : List ((Nat × Nat × Nat × Nat) × List Nat) :=
  let tiles := if v.kind = 4 then [] else if v.kind = 1 ∨ v.kind = 2 then List.range 16
    else (List.range 4).map (fun i => 4 * v.group + i)
  v.frames.flatMap (fun f => (List.range 2).flatMap (fun ty => (List.range 96).flatMap (fun n =>
    let ws := v.words.filter (fun w => decide (w.frame = f) && decide (w.typ = ty) && decide (w.num = n))
    let segs := (List.range 4).filterMap (fun o =>
      let ps := (ws.filter (fun w => decide (w.origin = o))).map (fun w => w.place)
      if ps = [] then none else some ((f, ty, n, o), ps))
    if segs = [] && decide (ty = 0) && decide (n ∈ tiles) && s.incompleteTF n f then [((f, 0, n, 0), [])] else segs)))

/-- The segment word of a segment (R428). -/
def State.segOf (s : State) (v : Ev) (g : (Nat × Nat × Nat × Nat) × List Nat) : DWord :=
  let (f, ty, n, o) := g.1
  let fd := f - frameOf v.lo
  if ty = 0 then segWord n fd 0 o (s.incompleteTF n f) (s.hdrFlags n f) 0 g.2.length
  else segWord (4 * engGroup n) fd 1 o false 0 n g.2.length

/-- The frame headers that begin the body of a STREAM or CALIBRATE event: tile and both words (R429). -/
def State.evHeaders (s : State) (v : Ev) : List (Nat × DWord × DWord) :=
  if v.kind = 0 ∨ v.kind = 3 then
    ((List.range 4).map (fun i => 4 * v.group + i)).filterMap (fun t =>
      if (s.link t).requester then
        (s.det.headers.find? (fun h => decide (h.1 = v.frame * 16 + t))).map (fun h => (t, h.2.1, h.2.2))
      else none)
  else []

/-- The eight words of an event header (R427). `post` is the POST_VALID field. -/
def evHeader (v : Ev) (tiles words segs post : Nat) (inc : Bool) : List DWord :=
  let has := fun (o : Nat) => (v.words.any (fun w => decide (w.origin = o))).toNat
  [packFields [(4, 1), (3, v.kind), (2, v.prio), (9, v.tag), (1, v.isQ.toNat), (6, v.dnum), (1, v.clipped.toNat),
      (1, v.ov.toNat), (1, inc.toNat), (1, has 1), (1, has 2), (1, has 3), (1, v.forced.toNat), (32, v.evseq)],
    v.tick, v.lo, v.hi,
    packFields [(8, v.accId), (3, v.accSrc), (5, 0), (16, tiles), (32, v.recSeq)],
    packFields [(32, words), (16, segs), (16, 0)],
    packFields [(16, v.tick - v.lo), (16, post), (32, v.dropped)], 0].map (BitVec.ofNat 64)

/-- The words of an event in order: a place for a word that an engine sent, the word itself for a header word (R427 to
R429). -/
def State.evWords (s : State) (v : Ev) : List (Nat ⊕ DWord) :=
  let hs := s.evHeaders v
  let segs := s.evSegs v
  let tiles := (List.range 16).foldl (fun a t =>
    if hs.any (fun h => decide (h.1 = t)) || segs.any (fun g => decide (g.1.2.1 = 0) && decide (g.1.2.2.1 = t)) then
      a + 2 ^ t else a) 0
  let inc := v.incomplete || segs.any (fun g => decide (g.1.2.1 = 0) && s.incompleteTF g.1.2.2.1 g.1.1)
  let body : List (Nat ⊕ DWord) := hs.flatMap (fun h => [Sum.inr h.2.1, Sum.inr h.2.2])
    ++ segs.flatMap (fun g => Sum.inr (s.segOf v g) :: g.2.map Sum.inl)
  let span := v.hi - v.tick
  let post := if span < 65536 then span else Config.freeNat s.fresh % 65536
  (evHeader v tiles body.length segs.length post inc).map Sum.inr ++ body

/-- Gives the header words of event `n` places in the event store; the answer lists the places of all words in order and
the positions of the header words, or is `none` once a place is missing (R425). -/
def State.evPlace (s : State) (n : Nat) : List (Nat ⊕ DWord) → Nat → State × Option (List Nat × List Nat)
  | [], _ => (s, some ([], []))
  | Sum.inl p :: r, i =>
    let (s, l) := s.evPlace n r (i + 1)
    (s, l.map (fun x => (p :: x.1, x.2)))
  | Sum.inr w :: r, i =>
    match s.storePut w with
    | (s, none) => (s, none)
    | (s, some p) =>
      let (s, l) := (s.updEv n (fun v => { v with body := v.body ++ [p] })).evPlace n r (i + 1)
      (s, l.map (fun x => (p :: x.1, i :: x.2)))

/-- It is the turn of complete event `v` at its destination: in EVSEQ order none before it holds a tag, in order of completion
none that completed before it is still to be offered (R433). -/
def State.evTurn (s : State) (v : Ev) : Bool :=
  let ordered := s.flag Reg.evbOrder (if v.isQ then 1 else 0)
  s.evb.evs.all (fun w =>
    !(decide (w.tag < 512) && decide (w.isQ = v.isQ) && decide (w.dnum = v.dnum) &&
      (if ordered then decide (w.num < v.num) else w.complete && !w.offered && decide (w.doneAt < v.doneAt))))

/-- Reads the words of an event for its packet, up to a header word that reads uncorrectable (R507): the bytes, and whether
the packet is cut short there. -/
def State.evBytes (s : State) (heads : List Nat) : List Nat → Nat → State × List Byte × Bool
  | [], _ => (s, [], false)
  | p :: r, i =>
    let (s, w, ue) := s.storeGet p
    if ue && decide (i ∈ heads) then (s, [], true)
    else
      let (s, bs, cut) := s.evBytes heads r (i + 1)
      (s, leBytes 8 w.toNat ++ bs, cut)

/-- The next complete queue-bound event whose turn it is becomes a packet of its queue, with fuel for those that follow it;
it keeps its tag and its places until the writer has taken or dropped the packet (R424, R425, R430, R433). -/
def State.evToQueue (s : State) : Nat → State
  | 0 => s
  | n + 1 =>
    match s.evb.evs.find? (fun v => v.complete && v.isQ && decide (v.tag < 512) && !v.offered && s.evTurn v) with
    | none => s
    | some v =>
      let (s, bs, cut) := s.evBytes v.heads v.body 0
      let p : Packet := { queue := v.dnum, src := 0, payload := bs, trunc := cut, ev := some v.num }
      let s := s.updQue (fun q => { q with packets := q.packets ++ [p] })
      (s.updEv v.num (fun v => { v with offered := true })).evToQueue n

/-- The writer has placed or dropped packet `p`: an event gives its tag and its places back, and the next may follow
(R424, R425, R433). -/
def State.evWritten (s : State) (p : Packet) : State :=
  match p.ev with
  | some n => (s.evFree n).evToQueue s.evb.evs.length
  | none => s

/-- Event `v` is complete as it stands: it is dropped for want of store space, or written out and offered (R422, R425). -/
def State.evFinish (s : State) (v : Ev) : State :=
  let drop := fun (s : State) => ((s.evFree v.num).countEvDrop v.prio Reg.evbStoreDrop 2).evToQueue s.evb.evs.length
  if v.storeDrop then drop s
  else
    match s.evPlace v.num (s.evWords v) 0 with
    | (s, none) => drop s
    | (s, some (body, heads)) =>
      let s := s.draw.updEv v.num (fun v => { v with
        complete := true, doneAt := s.evb.dones, words := [], body := body, heads := heads })
      let s := s.updEvb (fun b => { b with dones := b.dones + 1 })
      s.evToQueue s.evb.evs.length

/-- The event in flight that holds tag `t`. -/
def State.evTag? (s : State) (t : Nat) : Option Ev := s.evb.evs.find? (fun v => decide (v.tag = t) && decide (t < 512))

/-- Header allowance per frame (R436). -/
def State.allowRate (s : State) : Nat := if s.compat then 288 else 640

/-- A frame start raises the header allowance of each group (R436). -/
def State.allowFrame (s : State) : State :=
  let r := s.allowRate
  let up := fun (m : List (Nat × Nat)) (g : Nat) => sset 0 g (Nat.min (sget 0 g m + r) (2 * r)) m
  s.updEvb (fun b => { b with allow := (List.range 4).foldl up b.allow })

/-- The header allowances are full, and lane-bound events count from 0, when a mode takes effect (R431, R436). -/
def State.allowFull (s : State) : State :=
  let r := s.allowRate
  s.updEvb (fun b => { b with laneCount := 0, allow := (List.range 4).foldl (fun m g => sset 0 g (2 * r) m) b.allow })

/-- A complete lane-bound event is judged for admission (R435, R436). -/
def State.evAdmit (s : State) (v : Ev) : State :=
  let g := v.dnum
  let gone := fun (s : State) => s.evFree v.num
  let bytes := 8 * v.body.length
  if s.flag Reg.evbStatus g ∨ s.fld Reg.ulnkGstat (4 * g + 3) (4 * g) = 0 then gone (s.countEvDrop v.prio Reg.evbLaneDrop 0)
  else if sget 0 g s.evb.allow < v.heads.length then gone (s.countEvDrop v.prio Reg.evbHdrDrop 4)
  else if s.fld Reg.evbLimit (8 * v.prio + 7) (8 * v.prio) * 16384 < s.nat (Reg.evbGqBytes g) + bytes then
    gone (s.countEvDrop v.prio Reg.evbLaneDrop 0)
  else
    let s := s.updEvb (fun b => { b with
      allow := sset 0 g (sget 0 g b.allow - v.heads.length) b.allow
      lanes := sset [] g (sget [] g b.lanes ++ [⟨v.evseq, v.prio, v.body, v.heads⟩]) b.lanes })
    gone ((s.inc Reg.evbEvents).incBy (Reg.evbGqBytes g) bytes)

/-- Every event in flight is discarded and its tag freed; nothing is counted (R139, R732). -/
def State.evbDiscard (s : State) : State := (s.updEvb (fun b => { b with evs := [] })).showTags

/-- Effect of a write to an EVB register (R430, R433, R435, EVB.STORE): a change of ORDER may let a complete event that waited be
offered. -/
def State.evbWrite (s : State) (k : Nat) (v : Word) : State :=
  let idle := decide (s.modeNow ≤ 1)
  if k = Reg.evbStore ∧ !idle ∧ wfld v 25 16 ≠ s.fld k 25 16 then
    (s.plainWrite k (setFld v 25 16 (s.fld k 25 16))).refuse Pg.evb
  else if k = Reg.evbOrder then (s.plainWrite k v).evToQueue s.evb.evs.length
  else if k = Reg.evbDest ∧ !v.getLsbD 31 then (s.plainWrite k (setBit v 31 true)).refuse Pg.evb
  else if k = Reg.evbLimit ∧ (wfld v 15 8 < wfld v 7 0 ∨ wfld v 23 16 < wfld v 15 8 ∨ wfld v 31 24 < wfld v 23 16) then
    s.refuse Pg.evb
  else s.plainWrite k v

/-- EVENT_COMPLETE (R422): every engine concerned has passed its marker. -/
def execEventComplete (tag : Fin 512) (s : State) : Host.Outcome State Fault Refusal :=
  match s.evTag? tag with
  | none => .next s
  | some v => .next (if !v.complete && s.evPassed v && !s.memStill then s.evFinish v else s)

/-- EVENT_FORCED (R426): MTIME reaches the event's end tick plus 8 frames. -/
def execEventForced (tag : Fin 512) (s : State) : Host.Outcome State Fault Refusal :=
  match s.evTag? tag with
  | none => .next s
  | some v =>
    if v.complete || s.memStill then .next s
    else
      let s := (s.advanceTo (v.hi + 524288)).updEv v.num (fun v => { v with forced := true })
      .next (((s.incSat Reg.evbForced).raise Pg.evb 0x8).evFinish { v with forced := true })

/-- EVENT_ADMIT (R435). -/
def execEventAdmit (tag : Fin 512) (s : State) : Host.Outcome State Fault Refusal :=
  match s.evTag? tag with
  | none => .next s
  | some v => .next (if v.complete && !v.isQ && s.evTurn v then s.evAdmit v else s)

end Sys2Proof.Machine
end

