-- ==== Sys2Proof/Machine/Trigger.lean ====
section
/-!
DEFINITION. The trigger block: fast-path reports, coincidence rules, trigger-primitive blocks and the accept router's
inputs (R305 to R326).
-/
namespace Sys2Proof.Machine

/-- The state with the trigger block's own state changed by `f`. -/
def State.updTrig (s : State) (f : TrigSt → TrigSt) : State := { s with trig := f s.trig }

/-- The island that an accept's source lies in (R320): TRIG itself, DLNK, or the cluster that an engine's source names. -/
def acceptIsland (src : Nat) : Nat := if src % 8 = 4 then 5 + src / 8 else if src = 2 then 21 else 3

/-- The island that an alert's source lies in (R369): ACQ itself, TIME, DLNK, TRIG, or an engine's cluster. -/
def alertIsland (src : Nat) : Nat :=
  if src % 8 = 4 then 5 + src / 8
  else
    match src with
    | 1 => 0
    | 2 => 21
    | 3 => 3
    | _ => 4

/-- An accept sets out for the router (R320); a sealed crossing loses it (R37). An engine's source is 4 + 8 × its
cluster. -/
def State.sendAccept (s : State) (src tick id : Nat) : State :=
  if s.sealedOff 3 then s.crossLost (acceptIsland src) 3 1
  else s.updTrig (fun x => { x with fly := x.fly ++ [(src, tick, id % 256)] })

/-- An alert sets out for the Tail ring (R369); a sealed crossing loses it (R37). -/
def State.sendAlert (s : State) (src tick code : Nat) : State :=
  if s.sealedOff 4 then s.crossLost (alertIsland src) 4 1
  else s.updTrig (fun x => { x with alerts := x.alerts ++ [(src, tick, code % 256)] })

/-- A message joins the TBUS transmit queue, which holds 16 (R332). -/
def State.tbusQueue (s : State) (type arg tick : Nat) : State :=
  if s.tbus.txq.length < 16 then { s with tbus := { s.tbus with txq := s.tbus.txq ++ [(type, arg, tick)] } }
  else ((s.incSat Reg.tbusTxDrop).raise Pg.tbus 0x8).stick Pg.tbus 0x20000

/-- Trigger primitives are formed in frame `f` (R119). -/
def State.formsTp (s : State) (f : Nat) : Bool :=
  let m := s.modeOf f
  decide (2 ≤ m) || (decide (m = 1) && s.flag Reg.modeCtl 0)

/-- An entry joins the trigger-primitive queue, which holds 32; one that finds it full is discarded (R318, R319). -/
def State.tpPush (s : State) (marker : Bool) (payload : Nat) : State × Bool :=
  if s.trig.tpq.length < 32 then
    let s := s.updTrig (fun x => { x with tpq := x.tpq ++ [(marker, payload)] })
    (s.setF Reg.tpathQpeak 5 0 (Nat.max (s.fld Reg.tpathQpeak 5 0) s.trig.tpq.length), true)
  else (((s.incSat Reg.tpathDrop).raise Pg.tpath 0x1).stick Pg.tpath 0x10000, false)

/-- The exclusive OR of the 4-bit groups of `n`, over `k` groups. -/
def xorNibbles : Nat → Nat → Nat
  | 0, _ => 0
  | k + 1, n => Nat.xor (n % 16) (xorNibbles k (n / 16))

/-- The payload of a trigger-primitive block (R317). -/
def tpPayload (dtick tiles rule conds mult seq : Nat) : Nat :=
  let n := packFields [(16, dtick), (16, tiles), (3, rule), (1, 0), (4, conds), (8, Nat.min mult 255), (12, seq)]
  n * 16 + xorNibbles 15 n

/-- Rule `r`'s sums over the ticks of its window that end at `d` and do not lie before `lo`: multiplicity and tiles
(R307). -/
def State.ruleSums (s : State) (r d lo : Nat) : Nat × Nat :=
  let w := s.fld (Reg.coincRctl r) 5 0 + 1
  let conds := s.fld (Reg.coincRctl r) 11 8
  let mask := s.fld (Reg.coincRtiles r) 15 0
  let sel := s.trig.hist.filter (fun e =>
    decide (e.1 ≤ d) && decide (d < e.1 + w) && decide (lo ≤ e.1) && mask.testBit e.2.1 && conds.testBit e.2.2.1)
  let mult := sel.foldl (fun a e => a + e.2.2.2) 0
  let tiles := sel.foldl (fun a e => if e.2.2.2 = 0 then a else Nat.lor a (2 ^ e.2.1)) 0
  (mult, tiles)

/-- The thresholds of rule `r` are met by sums (R308). -/
def State.ruleMet (s : State) (r : Nat) (m : Nat × Nat) : Bool :=
  decide (s.fld (Reg.coincRthr r) 11 0 ≤ m.1) && decide (s.fld (Reg.coincRthr r) 20 16 ≤ popCount 16 m.2)

/-- A firing's trigger-primitive block (R311, R317 to R319). -/
def State.tpBlock (s : State) (r d mult tiles : Nat) : State :=
  if s.formsTp (frameOf d) && s.flag Reg.tpathCtl 0 then
    let seq := s.fld Reg.tpathSeq 11 0
    let (s, ok) := s.tpPush false (tpPayload (d % 65536) tiles r (s.fld (Reg.coincRctl r) 11 8) mult seq)
    if ok then s.setF Reg.tpathSeq 11 0 (seq + 1) else s
  else s

/-- Rule `r` is evaluated at tick `d` (R307 to R311, R325). -/
def State.evalRule (s : State) (d r : Nat) : State :=
  if s.flag (Reg.coincRctl r) 31 = false then s
  else
    let nb := sget 0 r s.trig.until'
    if d < nb then
      if s.ruleMet r (s.ruleSums r d 0) && !(decide (0 < d) && s.ruleMet r (s.ruleSums r (d - 1) 0)) then
        s.inc (Reg.coincRheld r)
      else s
    else
      let m := s.ruleSums r d nb
      if s.ruleMet r m then
        let h := s.fld (Reg.coincRhold r) 15 0
        let hold := if s.compat then Nat.max h 160 else h
        let s := s.updTrig (fun x => { x with until' := sset 0 r (d + hold) x.until' })
        let s := (s.inc (Reg.coincRfires r)).raise Pg.coinc (2 ^ r)
        let s := if s.flag (Reg.coincRctl r) 29 then s.tpBlock r d m.1 m.2 else s
        if s.flag (Reg.coincRctl r) 30 then
          let s := s.sendAccept 0 d r
          if s.flag Reg.trigAccCtl 8 then s.tbusQueue 2 r d else s
        else s
      else s

/-- The fast-path reports of tick `d`: each tile's four counts reach the trigger block, or the report is discarded for a
parity error (R304 to R306). -/
def State.fastPath (s : State) (d : Nat) (parityErr : BitVec 16) : State :=
  let s := s.advanceTo d
  let take := fun (s : State) (t : Nat) =>
    let counts := (List.range 4).map (fun c => (d, t, c, sget 0 (d * 4 + c) (s.tile t).dec))
    let s := s.updTile t (fun x => { x with dec := x.dec.filter (fun e => decide (d < e.1 / 4)) })
    if parityErr.getLsbD t then (s.incSat Reg.trigFpErr).raise Pg.trig 0x8
    else s.updTrig (fun x => { x with hist := x.hist ++ counts.filter (fun e => decide (e.2.2.2 ≠ 0)) })
  let s := (List.range 16).foldl take s
  let s := s.updTrig (fun x => { x with hist := x.hist.filter (fun e => decide (d < e.1 + 65)) })
  if s.modeNow ≠ 0 ∧ s.flag (Reg.pageCtl Pg.coinc) 0 then (List.range 8).foldl (fun s r => s.evalRule d r) s else s

/-- Effect of a write to a COINC register: while EN is 1, no other field of RCTL, RTILES, RTHR or RHOLD changes
(R20, R309). -/
def State.coincWrite (s : State) (k : Nat) (v : Word) : State :=
  let o := k % 0x1000
  let r := (o - 0x40) / 0x20
  let q := o % 0x20
  if 0x40 ≤ o ∧ o < 0x140 ∧ s.flag (Reg.coincRctl r) 31 then
    let diff := (v ^^^ s.rd k) &&& rwBits k
    let other := if q = 0 then setBit diff 31 false else diff
    let s := if other = 0 then s else s.refuse Pg.coinc
    if q = 0 then s.setFlag k 31 (v.getLsbD 31) else s
  else s.plainWrite k v

/-- The tile of a TRIG page offset that holds a TCOND or CEN word. -/
def trigTile (o : Nat) : Option Nat :=
  if 0x40 ≤ o ∧ o < 0x140 then some ((o - 0x40) / 0x10)
  else if 0x400 ≤ o ∧ o < 0x800 then some (o % 0x100 / 0x10)
  else none

/-- Effect of a write of TRIG.ACC_GO (R326). -/
def State.accGoWrite (s : State) (v : Word) : State :=
  if v.getLsbD 31 then s.sendAccept 3 (s.rd64 Reg.trigAccAtLo) (wfld v 7 0) else s

/-- Effect of a write to a TRIG register: a TCOND or CEN word also goes to its tile, and a window that would be empty is
refused (R303, TCOND_B). -/
def State.trigWrite (s : State) (k : Nat) (v : Word) : State :=
  if k = Reg.trigAccGo then s.accGoWrite v
  else
    match trigTile (k % 0x1000) with
    | none => s.plainWrite k v
    | some t =>
      let s' := s.plainWrite k v
      if k = Reg.trigTcondB t ∧ s'.fld k 25 16 ≤ s'.fld k 9 0 then s.refuse Pg.trig
      else if k ∈ coveredWords t then s'.enqTile t k (s'.rd k)
      else s'

/-- A COINC page reset ends every HOLDOFF and empties every window (R312). -/
def State.coincClear (s : State) : State := s.updTrig (fun x => { x with hist := [], until' := [] })

/-- An accept of source `src` reaches the router, when its crossing delivers (R40, R321, R323, R324). -/
def State.acceptArrive (s : State) (src : Nat) : State :=
  match s.trig.fly.find? (fun a => decide (a.1 % 8 = src)) with
  | none => s
  | some a =>
    if s.crosses (acceptIsland a.1) 3 = false then s
    else
    let s := s.updTrig (fun x => { x with fly := x.fly.eraseIdx (x.fly.findIdx (fun b => decide (b.1 % 8 = src))) })
    if s.flag Reg.trigAccCtl src = false then s
    else
      let s := s.inc (Reg.trigAccCount src)
      if s.now + 65536 < a.2.1 then ((s.incSat Reg.trigAccFuture).raise Pg.trig 0x4).stick Pg.trig 0x10000
      else if 64 ≤ s.trig.router.length then ((s.incSat Reg.trigAccDrop).raise Pg.trig 0x2).stick Pg.trig 0x10000
      else s.updTrig (fun x => { x with router := x.router ++ [(src, a.2)] })

/-- FAST_PATH_REPORT. -/
def execFastPathReport (tick : Nat) (parityErr : BitVec 16) (s : State) : Host.Outcome State Fault Refusal :=
  .next (s.fastPath tick parityErr)

/-- TP_FRAME_MARKER (R318): the marker of the next frame enters the queue as a block decided at the last tick of the frame
before it. -/
def execTpFrameMarker (s : State) : Host.Outcome State Fault Refusal :=
  let f := if s.trig.marked < s.time.frame then s.time.frame else s.time.frame + 1
  let s := s.advanceTo (f * 65536 - 1)
  let s := s.updTrig (fun x => { x with marked := f })
  .next (s.tpPush true f).1

/-- HOST_ACCEPT (R326). -/
def execHostAccept (d : Dom) (v : Word) (s : State) : Host.Outcome State Fault Refusal :=
  .next (s.hostWrite d Reg.trigAccGo v (fun s => s.accGoWrite v))

/-- ACCEPT_ARRIVE. -/
def execAcceptArrive (src : Fin 5) (s : State) : Host.Outcome State Fault Refusal := .next (s.acceptArrive src)

end Sys2Proof.Machine
end

