-- ==== Sys2Proof/Machine/Ring.lean ====
section
/-!
DEFINITION. The latency ring (R343 to R350, R731) and the way of hit words to the dispatcher (R387).
-/
namespace Sys2Proof.Machine

/-- The state with the dispatcher and engines changed by `f`. -/
def State.updEng (s : State) (f : EngSt → EngSt) : State := { s with eng := f s.eng }

/-- A hit word joins the words of its dispatch group at the dispatcher (R386, R387). -/
def State.dealPush (s : State) (w : DealWord) : State :=
  let j := w.tile / 4
  s.updEng (fun e => { e with q := sset [] j (sget [] j e.q ++ [w]) e.q })

/-- The full time of a hit word's THL leading edge, in bins (R10, R345). -/
def fullTime (frame : Nat) (w : DWord) : Nat := frame * 2 ^ 24 + tleadOf w

/-- The word that stands for an uncorrectable one (R507). -/
abbrev badWord : DWord := BitVec.ofNat 64 (2 ^ 64 - 1)

/-- The SRAM address of a place of the ring region (R344). -/
def State.ringAddr (s : State) (place : Nat) : Nat := s.fld Reg.lringBase 9 0 * 65536 + 8 * place

/-- A hit word takes a free place of the ring region, or is discarded and counted (R344). -/
def State.ringPut (s : State) (t f : Nat) (w : DWord) : State × Option RingWord :=
  let used := (s.acq.ring ++ s.acq.staged).map (fun r => r.place)
  match pickPlace 655360 used (Config.freeNat s.fresh) with
  | none =>
    let s := ((s.incSat Reg.lringFullWords).stick Pg.lring 0x80000)
    (s.updAcq (fun a => { a with lost := if (t, f) ∈ a.lost then a.lost else a.lost ++ [(t, f)] }), none)
  | some p => (s.draw.memPut 4 (s.ringAddr p) (leBytes 8 w.toNat), some ⟨t, f, p, false⟩)

/-- Reads a word of the ring region; an uncorrectable one is replaced (R507, R508). -/
def State.ringGet (s : State) (r : RingWord) : State × DWord :=
  let (s, bs, ue) := s.memGet 4 (s.ringAddr r.place) 8
  (s, if ue then badWord else BitVec.ofNat 64 (leNat bs))

/-- The hit word as stored, without a read of the memory: its TLEAD decides which windows it lies in. -/
def State.ringWord (s : State) (r : RingWord) : DWord :=
  BitVec.ofNat 64 (leNat ((List.range 8).map (fun i => (s.mem.byte (memKey 0 (s.ringAddr r.place + i))).getD 0)))

/-- LRING.STATUS follows the ring. -/
def State.showRing (s : State) : State :=
  (s.setF Reg.lringStatus 14 8 s.acq.pend.length).setF Reg.lringStatus 2 0 (Nat.min 4 s.acq.frames.length)

/-- In Triggered the ring takes a hit word (R343, R731). -/
def State.ringTake (s : State) (t f : Nat) (w : DWord) : State :=
  let skipped := match s.acq.skip with
    | some g => decide (f ≤ g)
    | none => false
  if skipped then s
  else
    match s.ringPut t f w with
    | (s, none) => s
    | (s, some r) => s.updAcq (fun a => { a with ring := a.ring ++ [r] })

/-- An accept of source `k` reaches the ring (R345 to R347). Between a page reset and the next frame start it is not admitted
(R731), and not counted (DESIGN CHOICE, log 71). -/
def State.ringAccept (s : State) (k tick id : Nat) : State :=
  let skips := match s.acq.skip with
    | some g => decide (s.time.frame ≤ g)
    | none => false
  if skips then s
  else
  let lo := tick - s.fld (Reg.lringWin k) 15 0
  let hi := tick + s.fld (Reg.lringWin k) 31 16
  if (frameOf lo + 4) * 65536 ≤ s.now then ((s.incSat Reg.lringLateCount).raise Pg.lring 0x1).stick Pg.lring 0x10000
  else if 64 ≤ s.acq.pend.length then ((s.incSat Reg.lringDropCount).raise Pg.lring 0x2).stick Pg.lring 0x20000
  else (s.updAcq (fun a => { a with pend := a.pend ++ [⟨k, tick, id, lo, hi⟩] })).showRing

/-- The accept served next: of those whose last frame intake has closed, the one with the lowest window end, the oldest
among equals (R348). -/
def State.ringNext (s : State) : Option PendAcc :=
  (s.acq.pend.filter (fun p => s.intakeClosed (frameOf (p.hi - 1)))).foldl (fun best p =>
    match best with
    | none => some p
    | some b => if p.hi < b.hi then some p else some b) none

/-- An accept is served: its event opens and its hit words go to the dispatcher (R139, R345, R349, R350). -/
def State.ringServe (s : State) (p : PendAcc) : State :=
  let fs := frameOf p.lo
  let fe := frameOf (p.hi - 1)
  let frames := (List.range (fe + 1 - fs)).map (fun i => fs + i)
  let mine := frames.filter (fun f => decide (s.modeOf f = 3))
  let clip := decide (mine ≠ frames)
  let lo := if clip then Nat.max p.lo (mine.headD (fe + 1) * 65536) else p.lo
  let hi := if clip then Nat.max lo (Nat.min p.hi ((mine.getLastD fs + 1) * 65536)) else p.hi
  let inside := s.acq.ring.filter (fun r =>
    decide (r.frame ∈ frames) && (let t := fullTime r.frame (s.ringWord r)
      decide (p.lo * 256 ≤ t) && decide (t < p.hi * 256)))
  let picked := inside.filter (fun r => !r.sent)
  let ov := inside.any (fun r => r.sent)
  let inc := (if mine = [] then frames else mine).any (fun f => (List.range 16).any (fun t => s.incompleteTF t f))
  let (s, n) := s.evOpen {
    num := 0, kind := 1, mode := 3, frame := frameOf lo, group := 0, tag := 512, tick := p.tick, lo := lo, hi := hi,
    accId := p.id, accSrc := p.src, recSeq := s.nat Reg.lringServed, clipped := clip, ov := ov, incomplete := inc }
  let s := picked.foldl (fun s r =>
    let (s, w) := s.ringGet r
    s.dealPush ⟨r.tile, r.frame, 3, w, some n⟩) s
  let s := s.updAcq (fun a => { a with
    ring := a.ring.map (fun r => if r ∈ picked then { r with sent := true } else r)
    pend := a.pend.erase p })
  let s := s.inc Reg.lringServed
  (if ov then s.incSat Reg.lringOverlap else s).showRing

/-- Frame `f` is within the window of an accept not yet served. -/
def State.ringCovers (s : State) (f : Nat) : Bool :=
  s.acq.pend.any (fun p => decide (frameOf p.lo ≤ f) && decide (f ≤ frameOf (p.hi - 1)))

/-- The ring drops the hit words of frames that are over, but for those in the window of an accept not yet served
(R343). -/
def State.ringExpire (s : State) : State :=
  let keepWord := fun (r : RingWord) => decide (s.time.frame < r.frame + 4)
    || (let t := fullTime r.frame (s.ringWord r)
        s.acq.pend.any (fun p => decide (p.lo * 256 ≤ t) && decide (t < p.hi * 256)))
  (s.updAcq (fun a => { a with
    ring := a.ring.filter keepWord
    frames := a.frames.filter (fun f => decide (s.time.frame < f + 4) || s.ringCovers f)
    lost := a.lost.filter (fun e => decide (s.time.frame < e.2 + 16)) })).showRing

/-- An LRING page reset discards the words held and the accepts not served; the ring takes words again from the next frame
start on (R731). -/
def State.ringReset (s : State) : State :=
  (s.updAcq (fun a => { a with
    ring := [], pend := [], frames := [], lost := []
    skip := if s.modeNow = 3 then some s.time.frame else a.skip })).showRing

/-- A fatal entry empties the ring (R139). -/
def State.ringEmpty (s : State) : State :=
  (s.updAcq (fun a => { a with ring := [], pend := [], frames := [], lost := [], skip := none })).showRing

/-- Effect of a write of LRING.WINk or HAMP.WIN: one that would leave an empty window is refused (R345, R352). -/
def State.winWrite (s : State) (k : Nat) (v : Word) : State :=
  let t := s.plainWrite k v
  if t.fld k 15 0 + t.fld k 31 16 = 0 then s.refuse (k / 0x1000) else t

/-- LRING_EXPIRE. -/
def execLringExpire (s : State) : Host.Outcome State Fault Refusal := .next s.ringExpire

/-- LRING_SERVE. -/
def execLringServe (s : State) : Host.Outcome State Fault Refusal :=
  match s.ringNext with
  | none => .next s
  | some p => .next (if s.memStill then s else s.ringServe p)

end Sys2Proof.Machine
end

