-- ==== Sys2Proof/Machine/Hamp.lean ====
section
/-!
DEFINITION. The Hamper store: triggers, records, the missed-trigger log and read-out (R351 to R362).
-/
namespace Sys2Proof.Machine

/-- HAMP.STATUS.STATE: 0 OFF, 1 ARMED, 2 OPEN, 3 REARM, 4 HELD (R359). -/
def State.hampState (s : State) : Nat := s.fld Reg.hampStatus 2 0

/-- The state with the store in state `x`. -/
def State.setHamp (s : State) (x : Nat) : State := s.setF Reg.hampStatus 2 0 x

/-- The size of the store in bytes (R358). -/
def State.hampSize (s : State) : Nat := s.fld Reg.hampSize 9 0 * 65536

/-- Bytes of the store taken by records kept in it. -/
def State.hampUsed (s : State) : Nat := s.acq.store.foldl (fun n r => n + r.2) 0

/-- HAMP.HELD, FREE and READ follow the store. -/
def State.showHamp (s : State) : State :=
  let s := s.wr Reg.hampHeld (word s.acq.store.length)
  let s := s.wr Reg.hampFree (word ((s.hampSize - s.hampUsed) / 64))
  s.wr Reg.hampRead (word (s.fld Reg.hampBase 9 0 * 65536 + (s.acq.store.headD (s.acq.storePos, 0)).1))

/-- In Hamper a hit word is staged in the ring region (R344). -/
def State.hampTake (s : State) (t f : Nat) (w : DWord) : State :=
  match s.ringPut t f w with
  | (s, none) => s
  | (s, some r) => s.updAcq (fun a => { a with staged := a.staged ++ [r] })

/-- A missed trigger is counted and logged (R352, R362). -/
def State.hampMiss (s : State) (src tick id reason : Nat) : State :=
  let s := ((s.incSat Reg.hampMissed).raise Pg.hamp 0x2).stick Pg.hamp 0x20000
  let e := s.fld Reg.hampLogHead 7 0
  let s := (s.wr (Reg.hampLog e 0) (word tick)).wr (Reg.hampLog e 1) (word (tick / 2 ^ 32))
  let s := s.wr (Reg.hampLog e 2) (word (packFields [(8, 0), (8, id), (3, src), (3, reason), (10, 0)]))
  let s := if 256 ≤ s.acq.logged then ((s.setFlag Reg.hampStatus 8 true).raise Pg.hamp 0x4).stick Pg.hamp 0x10000
    else s.updAcq (fun a => { a with logged := a.logged + 1 })
  (s.setF Reg.hampLogHead 7 0 (e + 1)).incF Reg.hampLogHead 31 8

/-- The store cannot take a record (R358). -/
def State.hampFull (s : State) : Bool :=
  decide (65536 ≤ s.acq.store.length + s.acq.recs.length) || decide (s.hampSize < s.hampUsed + 4096)

/-- A trigger falls inside the open record's window (R352 row 2, R355). -/
def State.hampInside (s : State) (w : Nat × Nat) : State :=
  (s.incSat Reg.hampInside).updAcq (fun a => { a with
    recs := a.recs.map (fun r => if (r.lo, r.hi) = w then { r with extra := Nat.min (r.extra + 1) 65535 } else r) })

/-- A trigger opens a record (R351 to R354, R356). In REARM the state stays until MTIME has passed the new record's end too: the
table of R359 has no way from REARM to OPEN. -/
def State.hampOpen (s : State) (src tick id : Nat) : State :=
  let pre := s.fld Reg.hampWin 15 0
  let lo := tick - Nat.min pre (tick - s.acq.arm)
  let hi := tick + s.fld Reg.hampWin 31 16
  let cut := match s.acq.stop with
    | some f => if f < hi then some (Nat.max f lo) else none
    | none => none
  let hi' := cut.getD hi
  let r : HampRec := { src, id, seq := s.nat Reg.hampSeq, tick, lo, hi := hi', pre, snap := s.nat Reg.hampMissed,
                       modeClose := cut.isSome }
  let s := s.updAcq (fun a => { a with
    arm := hi + 1600, recs := a.recs ++ [r], last := some (lo, hi'), dead := a.dead ++ [hi] })
  let s := s.inc Reg.hampSeq
  if s.acq.stop.isSome ∨ s.hampState = 3 then s else s.setHamp 2

/-- A trigger with apply tick `tick` reaches the store; the first row of R352 that applies decides. One that meets the store OFF,
before a pending Hamper has set the arm tick or after a fatal entry, comes before it is armed (DESIGN CHOICE, entry 87). -/
def State.hampTrigger (s : State) (src tick id : Nat) : State :=
  let pre := s.fld Reg.hampWin 15 0
  let fs := frameOf (tick - Nat.min pre (tick - s.acq.arm))
  let w := s.acq.last.getD (0, 0)
  if (fs + 4) * 65536 ≤ s.now then s.hampMiss src tick id 3
  else if w.1 ≤ tick ∧ tick < w.2 then s.hampInside w
  else if s.acq.last.isSome ∧ w.2 ≤ tick ∧ tick < w.2 + 1600 then s.hampMiss src tick id 0
  else if tick < s.acq.arm ∨ (s.hampState = 0 ∧ s.acq.stop = none) then s.hampMiss src tick id 1
  else if s.flag Reg.hampCtl 0 then s.hampMiss src tick id 4
  else if s.hampFull then s.hampMiss src tick id 2
  else s.hampOpen src tick id

/-- The staged words of a record: frame, tile and word, in frame then tile then intake order (R361). -/
def State.hampWords (s : State) (r : HampRec) : List ((Nat × Nat) × List RingWord) :=
  let fs := frameOf r.lo
  let fe := frameOf (r.hi - 1)
  ((List.range (fe + 1 - fs)).map (fun i => fs + i)).flatMap (fun f => (List.range 16).filterMap (fun t =>
    let ws := s.acq.staged.filter (fun w => decide (w.frame = f) && decide (w.tile = t) &&
      (let x := fullTime f (s.ringWord w)
       decide (r.lo * 256 ≤ x) && decide (x < r.hi * 256)))
    if ws = [] then none else some ((f, t), ws)))

/-- The body of a record within `room` words: segment words and hit words, the hit words with tile and frame; the number of
segments and of words dropped (R358, R361). -/
def State.hampBody (s : State) (fs : Nat) :
    List ((Nat × Nat) × List RingWord) → Nat → State × List (Option (Nat × Nat) × DWord) × Nat × Nat
  | [], _ => (s, [], 0, 0)
  | ((f, t), ws) :: r, room =>
    let k := Nat.min ws.length (room - 1)
    if k = 0 then
      let (s, b, n, x) := s.hampBody fs r room
      (s, b, n, x + ws.length)
    else
      let (s, got) := (ws.take k).foldl (fun (a : State × List DWord) w =>
        let (s, v) := a.1.ringGet w
        (s, a.2 ++ [v])) (s, [])
      let seg := BitVec.ofNat 64 (packFields [(4, t), (1, f - fs), (7, 0), (4, s.hdrFlags t f), (28, 0), (20, k)])
      let (s, b, n, x) := s.hampBody fs r (room - 1 - k)
      (s, (none, seg) :: got.map (fun v => (some (t, f), v)) ++ b, n + 1, x + (ws.length - k))

/-- A record header (R361). -/
def hampHeader (r : HampRec) (inc : Bool) (words segs dropped : Nat) : List DWord :=
  [packFields [(32, r.seq), (16, r.seq), (8, r.id), (3, r.src), (1, r.modeClose.toNat), (1, r.fatalClose.toNat),
      (1, (decide (r.tick - r.lo < r.pre)).toNat), (1, inc.toNat), (1, (decide (0 < dropped)).toNat)],
    r.tick, r.lo, r.hi,
    packFields [(24, 0), (16, r.tick - r.lo), (16, r.hi - r.tick), (8, 0)],
    packFields [(32, words), (16, segs), (16, r.extra)],
    packFields [(32, r.snap), (32, dropped)], 0].map (BitVec.ofNat 64)

/-- Writes bytes into the store from offset `off`, going on at its start when its end is reached. -/
def State.hampPut (s : State) (off : Nat) (bs : List Byte) : State :=
  let base := s.fld Reg.hampBase 9 0 * 65536
  let k := s.hampSize - off
  (s.memPut 4 (base + off) (bs.take k)).memPut 4 base (bs.drop k)

/-- Word `i` of the record at `off` of the store, read for its event; an uncorrectable one is replaced (R507). -/
def State.hampGet (s : State) (off i : Nat) : State × DWord :=
  let (s, bs, ue) := s.memGet 4 (s.fld Reg.hampBase 9 0 * 65536 + (off + 8 * i) % s.hampSize) 8
  (s, if ue then badWord else BitVec.ofNat 64 (leNat bs))

/-- A complete record is written with its header into the store: with OUT = 1 it is kept there, else it goes on as one event and
its space is free again (R355, R357, R358, R361). A record that a fatal entry closes stays in the store whatever OUT says, since
no event goes on then (R139, R356; DEDUCED, log 73). CLIPPED marks a window whose end was cut; a start that lies at the entry to
Hamper shows in PRE_VALID alone (R353; DESIGN CHOICE, log 71). -/
def State.hampWrite (s : State) (r : HampRec) (fatal : Bool) : State :=
  let fs := frameOf r.lo
  let segs := s.hampWords r
  let room := (s.hampSize - s.hampUsed) / 64 * 8 - 8
  let inc := ((List.range (frameOf (r.hi - 1) + 1 - fs)).map (fun i => fs + i)).any (fun f =>
    (List.range 16).any (fun t => s.incompleteTF t f))
  let (s, body, n, x) := s.hampBody fs segs room
  let s := s.updAcq (fun a => { a with recs := a.recs.erase r })
  let s := if 0 < x then (s.raise Pg.hamp 0x8).stick Pg.hamp 0x40000 else s
  let s := s.raise Pg.hamp 0x1
  let ws := hampHeader r inc body.length n x ++ body.map (fun b => b.2)
  let bytes := (ws.length + 7) / 8 * 64
  let off := s.acq.storePos
  let s := s.hampPut off (ws.flatMap (fun w => leBytes 8 w.toNat))
  let s := s.updAcq (fun a => { a with storePos := (off + bytes) % s.hampSize })
  if s.flag Reg.hampCtl 1 ∨ fatal then (s.updAcq (fun a => { a with store := a.store ++ [(off, bytes)] })).showHamp
  else
    let s := s.showHamp
    let (s, k) := s.evOpen {
      num := 0, kind := 2, mode := 4, frame := fs, group := 0, tag := 512, tick := r.tick, lo := r.lo, hi := r.hi,
      accId := r.id, accSrc := r.src, recSeq := r.seq, clipped := r.modeClose, incomplete := inc, dropped := x }
    body.zipIdx.foldl (fun s b =>
      match b.1.1 with
      | some (t, f) =>
        let (s, w) := s.hampGet off (8 + b.2)
        s.dealPush ⟨t, f, 4, w, some k⟩
      | none => s) s

/-- No record, open or still to come, can deliver a word of frame `f` (R390). -/
def State.hampDone (s : State) (f : Nat) : Bool :=
  s.intakeClosed f && (decide ((f + 1) * 65536 ≤ s.acq.arm) || decide (f + 4 ≤ s.time.frame))
    && s.acq.recs.all (fun r => decide (f < frameOf r.lo))

/-- Frame `f` leaves the staging memory; its hit words in dead intervals are counted (R354). -/
def State.hampFrameEnd (s : State) (f : Nat) : State :=
  let ws := s.acq.staged.filter (fun w => decide (w.frame = f))
  let n := (ws.filter (fun w =>
    let x := fullTime f (s.ringWord w)
    s.acq.dead.any (fun e => decide (e * 256 ≤ x) && decide (x < (e + 1600) * 256)))).length
  let s := if n = 0 then s else s.incSatBy Reg.hampDeadWords n
  s.updAcq (fun a => { a with
    staged := a.staged.filter (fun w => decide (w.frame ≠ f))
    dead := a.dead.filter (fun e => decide (f * 65536 < e + 1600)) })

/-- Hamper takes effect at tick `t` (R351, R359). -/
def State.hampEnter (s : State) (t : Nat) : State :=
  (s.updAcq (fun a => { a with arm := t, stop := none, last := none })).setHamp 1 |>.wr Reg.hampSeq 0

/-- A record cut at tick `t` (R356). -/
def hampCut (t : Nat) (fatal : Bool) (r : HampRec) : HampRec :=
  if t < r.hi then { r with hi := Nat.max t r.lo, modeClose := true, fatalClose := fatal } else r

/-- Hamper stops at tick `t` (R356, R359). -/
def State.hampStop (s : State) (t : Nat) : State :=
  (s.updAcq (fun a => { a with
    stop := some t, recs := a.recs.map (hampCut t false)
    last := a.last.map (fun w => (w.1, if t < w.2 then Nat.max t w.1 else w.2)) })).setHamp 0

/-- A fatal entry closes the records and empties the staging memory; records complete in the store are kept (R139,
R356). -/
def State.hampFatal (s : State) : State :=
  let t := s.now
  let s := s.updAcq (fun a => { a with recs := a.recs.map (hampCut t true) })
  let s := s.acq.recs.foldl (fun s r => s.hampWrite r true) s
  (s.updAcq (fun a => { a with recs := [], staged := [], dead := [], stop := none, last := none })).setHamp 0

/-- A HAMP page reset empties the store and the log (R360); in Hamper the store arms at the tick at which it completes
(R351, R359). -/
def State.hampReset (s : State) : State :=
  let s := s.updAcq (fun a => { a with recs := [], store := [], storePos := 0, dead := [], last := none, logged := 0 })
  if s.modeNow = 4 then (s.updAcq (fun a => { a with arm := s.now })).setHamp 1
  else s

/-- Effect of a write of HAMP.CTL (R351, R357, R359). -/
def State.hampCtlWrite (s : State) (v : Word) : State :=
  let moved := decide (s.hampState ≠ 0) && decide (v.getLsbD 1 ≠ s.flag Reg.hampCtl 1)
  let was := s.flag Reg.hampCtl 0
  let s := if moved then (s.plainWrite Reg.hampCtl (setBit v 1 (s.flag Reg.hampCtl 1))).refuse Pg.hamp
    else s.plainWrite Reg.hampCtl v
  let now := s.flag Reg.hampCtl 0
  if now && !was then if s.hampState = 1 then s.setHamp 4 else s
  else if was && !now then
    let s := if s.hampState = 0 then s else s.updAcq (fun a => { a with arm := Nat.max a.arm s.now })
    if s.hampState = 4 then s.setHamp 1 else s
  else s

/-- Effect of a write of HAMP.BASE or HAMP.SIZE: refused outside state OFF. -/
def State.hampRegionWrite (s : State) (k : Nat) (v : Word) : State :=
  if s.hampState ≠ 0 ∧ wfld v 9 0 ≠ s.fld k 9 0 then s.refuse Pg.hamp
  else
    let s := s.plainWrite k v
    (if s.acq.store = [] then s.updAcq (fun a => { a with storePos := 0 }) else s).showHamp

/-- Effect of a write of HAMP.RELEASE (R357). -/
def State.hampRelease (s : State) (v : Word) : State :=
  (s.updAcq (fun a => { a with store := a.store.drop (wfld v 16 0) })).showHamp

/-- Effect of a write to a HAMP register. -/
def State.hampRegWrite (s : State) (k : Nat) (v : Word) : State :=
  if k = Reg.hampCtl then s.hampCtlWrite v
  else if k = Reg.hampWin then s.winWrite k v
  else if k = Reg.hampBase ∨ k = Reg.hampSize then s.hampRegionWrite k v
  else if k = Reg.hampRelease then s.hampRelease v
  else s.plainWrite k v

/-- HAMP_WINDOW_END (R359): MTIME reaches E of the last record opened. -/
def execHampWindowEnd (s : State) : Host.Outcome State Fault Refusal :=
  match s.acq.last with
  | some w => .next (if s.hampState = 2 then (s.advanceTo w.2).setHamp 3 else s)
  | none => .next s

/-- HAMP_REARM (R359): MTIME reaches E + 1,600. -/
def execHampRearm (s : State) : Host.Outcome State Fault Refusal :=
  match s.acq.last with
  | some w =>
    .next (if s.hampState = 3 then (s.advanceTo (w.2 + 1600)).setHamp (if s.flag Reg.hampCtl 0 then 4 else 1) else s)
  | none => .next s

/-- HAMP_RECORD_COMPLETE (R355): intake has closed the frame that contains E - 1 of the oldest record. -/
def execHampRecordComplete (s : State) : Host.Outcome State Fault Refusal :=
  match s.acq.recs with
  | r :: _ => .next (if s.intakeClosed (frameOf (r.hi - 1)) && !s.memStill then s.hampWrite r false else s)
  | [] => .next s

/-- HAMP_HOLD_WRITE. -/
def execHampHoldWrite (d : Dom) (v : Word) (s : State) : Host.Outcome State Fault Refusal :=
  .next (s.hostWrite d Reg.hampCtl v (fun s => s.hampCtlWrite v))

/-- HAMP_RELEASE. -/
def execHampRelease (d : Dom) (v : Word) (s : State) : Host.Outcome State Fault Refusal :=
  .next (s.hostWrite d Reg.hampRelease v (fun s => s.hampRelease v))

end Sys2Proof.Machine
end

