-- ==== Sys2Proof/Machine/Tail.lean ====
section
/-!
DEFINITION. The Tail ring: the writer, freezing and extraction (R363 to R378), and the copy and paths of hit words that leave
intake (R27, R28).
-/
namespace Sys2Proof.Machine

/-- The first page of the ring's region and the page after it (R363). -/
def State.tailRegion (s : State) : Nat × Nat :=
  (s.fld Reg.tailRegionFirst 12 0 * 512, (s.fld Reg.tailRegionLast 12 0 + 1) * 512)

/-- Word `i` of a page's metadata (R368). -/
def mdWord (md : List DWord) (i : Nat) : DWord := md.getD i 0

/-- FRAME1 of a page. -/
def mdF1 (md : List DWord) : Nat := dfld (mdWord md 0) 63 16

/-- The second frame of a page, FRAME1 for a page of one frame. -/
def mdF2 (md : List DWord) : Nat := mdF1 md + dfld (mdWord md 0) 15 0

/-- TILE of a page. -/
def mdTile (md : List DWord) : Nat := dfld (mdWord md 1) 63 60

/-- The pages of the region that the Tail writer has written: page index and metadata (R368). -/
def State.tailPages (s : State) : List (Nat × List DWord) :=
  s.mem.meta'.filter (fun p => decide (s.tailRegion.1 ≤ p.1) && decide (p.1 < s.tailRegion.2))

/-- A page with this metadata holds a word of a frame in the range (R371). -/
def mdIn (md : List DWord) (r : Nat × Nat) : Bool :=
  (decide (r.1 ≤ mdF1 md) && decide (mdF1 md ≤ r.2)) || (decide (r.1 ≤ mdF2 md) && decide (mdF2 md ≤ r.2))

/-- A page with this metadata is pinned by an active freeze slot (R371). -/
def State.pinned (s : State) (md : List DWord) : Bool :=
  decide (md ≠ [0, 0, 0, 0]) && s.acq.slots.any (fun x => mdIn md x.2)

/-- The earliest frame held of a slot's range (R371). -/
def firstHeld (pages : List (Nat × List DWord)) (r : Nat × Nat) : Option Nat :=
  pages.foldl (fun best p =>
    let fs := [mdF1 p.2, mdF2 p.2].filter (fun f => decide (r.1 ≤ f) && decide (f ≤ r.2))
    fs.foldl (fun b f => match b with
      | none => some f
      | some g => some (Nat.min f g)) best) none

/-- TAIL.PINNED and the slots' FIRST follow the pages held. -/
def State.showTail (s : State) : State :=
  let ps := s.tailPages
  let s := s.wr Reg.tailPinned (word (ps.filter (fun p => s.pinned p.2)).length)
  s.acq.slots.foldl (fun s x =>
    match firstHeld ps x.2 with
    | none => s
    | some f => (s.wr (Reg.tailFfirstLo x.1) (word f)).setF (Reg.tailFfirstHi x.1) 15 0 (f / 2 ^ 32)) s

/-- The next page the writer may use from page `p` on, with fuel for the pages of the region (R366, R525). -/
def State.tailFree (s : State) : Nat → Nat → Option Nat
  | 0, _ => none
  | n + 1, p =>
    let (a, b) := s.tailRegion
    let p := if a ≤ p ∧ p < b then p else a
    if segGet p s.mem.retired = 0 ∧ s.pinned (s.pageMeta p) = false then some p else s.tailFree n (p + 1)

/-- The open page of tile `t`. -/
def State.tailOpen (s : State) (t : Nat) : Option TailPage := s.acq.pages.find? (fun p => decide (p.tile = t))

/-- The state with the open page of tile `t` replaced or removed. -/
def State.setTailOpen (s : State) (t : Nat) (p : Option TailPage) : State :=
  s.updAcq (fun a => { a with pages := a.pages.filter (fun q => decide (q.tile ≠ t)) ++ p.toList })

/-- The tile-frame (t, f) was reported incomplete by intake (R287, R290). -/
def State.reportedTF (s : State) (t f : Nat) : Bool := decide ((f, t) ∈ s.det.incomplete)

/-- The metadata of a page about to be written (R368). -/
def State.tailMeta (s : State) (p : TailPage) (timeout : Bool) (bytes : List Byte) : List DWord :=
  let f2 := p.f2.getD p.f1
  let hdr := fun (i : Nat) =>
    decide ((s.hdrFlags p.tile p.f1).testBit i) || decide ((s.hdrFlags p.tile f2).testBit i)
  let w0 := packFields [(48, p.f1), (16, f2 - p.f1)]
  let w1 := packFields [(4, p.tile), (9, p.words.length), (9, if p.f2.isSome then p.split else p.words.length), (3, 0),
    (1, (s.acq.gap.getLsbD p.tile).toNat), (1, (hdr 0).toNat), (1, (hdr 2).toNat), (1, (hdr 3).toNat),
    (1, (s.reportedTF p.tile p.f1 || s.reportedTF p.tile f2).toNat), (1, timeout.toNat),
    (1, (decide (p.words.length < 256)).toNat), (32, sget 0 p.tile s.acq.seqs)]
  let w2 := packFields [(32, s.nat Reg.tailRun), (32, 0)]
  let crc := crc32c (bytes ++ leBytes 8 w0 ++ leBytes 8 w1 ++ leBytes 8 w2)
  [w0, w1, w2, crc.toNat].map (BitVec.ofNat 64)

/-- The frames `f1` and `f2` of tile `t` have lost a page or words (R372, R377). -/
def State.tailGone (s : State) (t f1 f2 : Nat) : State :=
  s.updAcq (fun a => { a with gone := sins (f2 * 16 + t) 1 (sins (f1 * 16 + t) 1 a.gone) })

/-- The writer closes the open page of a tile and writes it to the next page of the ring; where none is free of pins it
stops, and the page stays open (R366, R372). -/
def State.tailClose (s : State) (p : TailPage) (timeout : Bool) : State :=
  let (a, b) := s.tailRegion
  match s.tailFree (b - a) s.acq.pos with
  | none => ((s.setFlag Reg.tailStatus 1 true).raise Pg.tail 0x8).updAcq (fun a => { a with
      pages := a.pages.map (fun q => if q.tile = p.tile then { q with due := true } else q) })
  | some q =>
    let old := s.pageMeta q
    let s := if old = [0, 0, 0, 0] then s
      else (s.tailGone (mdTile old) (mdF1 old) (mdF2 old)).setFlag Reg.tailStatus 2 true
    let bytes := (p.words ++ List.replicate (256 - p.words.length) badWord).flatMap (fun w => leBytes 8 w.toNat)
    let md := s.tailMeta p timeout bytes
    let s := s.offer (.page q bytes md) (fun s => s.pagePut q 0 bytes md)
    let s := s.updAcq (fun x => { x with
      pos := if q + 1 < b then q + 1 else a
      seqs := sset 0 p.tile (sget 0 p.tile x.seqs + 1) x.seqs
      gap := (x.gap &&& ~~~(BitVec.ofNat 16 (2 ^ p.tile))) ||| (x.lostAfter &&& BitVec.ofNat 16 (2 ^ p.tile))
      lostAfter := x.lostAfter &&& ~~~(BitVec.ofNat 16 (2 ^ p.tile)) })
    ((s.setTailOpen p.tile none).inc Reg.tailWritten).showTail

/-- A word that arrives while the writer is stopped for want of a page is lost (R372): the page of its tile that follows carries
GAP, not the open one that waits. -/
def State.tailLose (s : State) (t f n : Nat) : State :=
  let m := BitVec.ofNat 16 (2 ^ t)
  (((s.incSatBy Reg.tailLostWords n).stick Pg.tail 0x20000).tailGone t f f).updAcq (fun a =>
    if (s.tailOpen t).isSome then { a with lostAfter := a.lostAfter ||| m } else { a with gap := a.gap ||| m })

/-- The writer takes words of frame `f`: the overlay runs, or the frames before its stop still drain (R125, R367). -/
def State.tailTakes (s : State) (f : Nat) : Bool :=
  decide (s.acq.from' ≤ f) && (s.tailRunning || (match s.acq.tailStop with
    | some g => decide (f < g)
    | none => false))

/-- A new page is opened for a word. -/
def State.tailNew (s : State) (t f : Nat) (w : DWord) : State :=
  s.setTailOpen t (some { tile := t, f1 := f, words := [w], opened := s.time.frame })

/-- The Tail writer takes a copy of a hit word (R28, R366, R372). -/
def State.tailWord (s : State) (t f : Nat) (w : DWord) : State :=
  if s.tailTakes f = false then s
  else if s.flag Reg.tailStatus 1 then s.tailLose t f 1
  else
    match s.tailOpen t with
    | none => s.tailNew t f w
    | some p =>
      if 256 ≤ p.words.length then
        let s := s.tailClose p false
        if s.flag Reg.tailStatus 1 then s.tailLose t f 1 else s.tailNew t f w
      else
      let here := decide (p.f2 = some f) || (decide (p.f2 = none) && decide (p.f1 = f))
      let second := decide (p.f2 = none) && decide (p.f1 < f) && decide (f - p.f1 ≤ 65535)
      if here || second then
        let p' := if here then { p with words := p.words ++ [w] }
          else { p with f2 := some f, split := p.words.length, words := p.words ++ [w] }
        let s := s.setTailOpen t (some p')
        if p'.words.length = 256 then s.tailClose p' false else s
      else
        let s := s.tailClose p false
        if s.flag Reg.tailStatus 1 then s.tailLose t f 1 else s.tailNew t f w

/-- The writer goes on with the open pages that were to be closed while it was stopped (R366, R372). -/
def State.tailCloseDue (s : State) : State := (s.acq.pages.filter (fun p => p.due)).foldl (fun s p => s.tailClose p false) s

/-- A hit word on its way from INTAKE to ACQ is held for a stopped clock (R40). -/
def State.hitsHeld (s : State) : Bool := s.xfers.any (fun x => decide (x.ends = (2, 4)))

/-- Closes every open page, as far as pages are free. -/
def State.tailCloseAll (s : State) : State := s.acq.pages.foldl (fun s p => s.tailClose p false) s

/-- The open pages of a stopped overlay are closed, as far as pages are free (R367). -/
def State.tailFinish (s : State) : State :=
  if s.acq.tailStop = none then s
  else
    let s := s.tailCloseAll
    let s := s.acq.pages.foldl (fun s p => s.tailLose p.tile p.f1 p.words.length) s
    (s.updAcq (fun a => { a with pages := [], tailStop := none })).setFlag Reg.tailStatus 1 false

/-- After a stop of the overlay the open pages are closed once the last word of the frame before it has left intake
(R367). -/
def State.tailDrain (s : State) : State :=
  match s.acq.tailStop with
  | none => s
  | some f => if s.intakeClosed (f - 1) && !s.hitsHeld then s.tailFinish else s

/-- The writer resumes when a page has been freed: each tile's next page that is written carries GAP (R372, R373). -/
def State.tailResume (s : State) : State :=
  let (a, b) := s.tailRegion
  if s.flag Reg.tailStatus 1 ∧ (s.tailFree (b - a) s.acq.pos).isSome then
    ((s.setFlag Reg.tailStatus 1 false).updAcq (fun x => { x with
      gap := 0xFFFF
      lostAfter := x.pages.foldl (fun m p => if p.due then m else m &&& ~~~(BitVec.ofNat 16 (2 ^ p.tile))) x.lostAfter })).tailCloseDue
  else s

/-- The overlay starts at frame `f` (R366, R373); pages that an earlier run left open are closed first (R125, R367). -/
def State.tailStart (s : State) (f : Nat) : State :=
  let s := s.tailFinish
  let s := s.updAcq (fun a => { a with from' := f, tailStop := none, seqs := [], gap := 0, lostAfter := 0, pages := [] })
  (((s.setFlag Reg.tailStatus 0 true).setFlag Reg.tailStatus 1 false).setFlag Reg.tailStatus 2 false).inc Reg.tailRun

/-- The overlay stops at frame `f` (R125, R367, R373). -/
def State.tailEnd (s : State) (f : Nat) : State :=
  ((s.updAcq (fun a => { a with tailStop := some f })).setFlag Reg.tailStatus 0 false).tailDrain

/-- A fatal entry stops the writer at once and discards the open pages; pins are kept (R139, R367). -/
def State.tailFatal (s : State) : State :=
  let s := s.updAcq (fun a => { a with pages := [], lostAfter := 0, tailStop := none })
  (s.setFlag Reg.tailStatus 0 false).setFlag Reg.tailStatus 1 false

/-- A hit word reaches the stores of ACQ: the Tail writer, and the latency ring or the Hamper store (R27, R28). -/
def State.acqLand (s : State) (n f : Nat) (w : DWord) : State :=
  let s := s.tailWord n f w
  let m := s.modeOf f
  if m = 3 then s.ringTake n f w
  else if m = 4 then s.hampTake n f w
  else s

/-- A hit word of frame `f` of tile `n` leaves intake for the path of the mode that handles its frame (R27, R28, R130). -/
def State.passWord (s : State) (n f : Nat) (w : DWord) : State :=
  let s := (s.intakeTake n).noteClose f
  let m := s.modeOf f
  let s := if s.tailTakes f || decide (m = 3) || decide (m = 4) then s.offer (.hit n f w) (fun s => s.acqLand n f w) else s
  let s := if m = 1 then { s with det := { s.det with idleWords := s.det.idleWords + 1 } }
    else if m = 2 ∨ m = 5 then s.dealPush ⟨n, f, m, w, none⟩
    else s
  s.tailDrain

/-- A hit word leaves intake: its copy goes to the Tail ring, and the word on the path of the mode that handles its frame
(R27, R28, R130). An INTAKE island that is stopped or in reset passes none (R38, R40). -/
def State.hitWordIntake (s : State) : State :=
  if s.islandLive 2 = false then s.tailDrain else
  match s.arbIntake with
  | none => s.tailDrain
  | some (n, f, w) => s.passWord n f w

/-- The router passes its oldest accept to the consumer of the mode that handles its apply tick (R322, R324). -/
def State.acceptRoute (s : State) : State :=
  match s.trig.router with
  | [] => s
  | (k, tick, id) :: r =>
    let s := s.updTrig (fun x => { x with router := r })
    let m := s.modeOf (frameOf tick)
    if m = 3 then (s.raise Pg.trig 0x1).ringAccept k tick id
    else if m = 4 then (s.raise Pg.trig 0x1).hampTrigger k tick id
    else s.incSat Reg.trigAccUnused

/-- State, DONE, source and code of freeze slot `i`. -/
def State.slotState (s : State) (i : Nat) : Nat := s.fld (Reg.tailFstat i) 31 30

/-- An alert reaches the Tail ring: it is admitted into a free slot, or dropped (R369 to R371). -/
def State.tailAlert (s : State) (src tick code : Nat) : State :=
  if s.variant = .s ∨ s.flag Reg.tailAlertCtl src = false then s
  else
    let f := frameOf tick
    let lo := f - s.nat Reg.tailLookback
    let hi := f + s.nat Reg.tailLookahead
    let inside := s.acq.slots.filter (fun x => decide (x.2.1 ≤ lo) && decide (hi ≤ x.2.2))
    let slot := pickPlace 4 (s.acq.slots.map (fun x => x.1)) (Config.freeNat s.fresh)
    let drop := ((s.updAcq (fun a => { a with alertDrop := a.alertDrop + 1 })).raise Pg.tail 0x4).stick Pg.tail 0x40000
    if inside ≠ [] then inside.foldl (fun s x => s.incFSat (Reg.tailFstat x.1) 15 8) drop
    else if s.now + 65536 < tick then drop
    else
      match slot with
      | none => drop
      | some i =>
        let s := s.draw.wr (Reg.tailFstat i) (word (packFields [(2, 1), (1, 0), (10, 0), (3, src), (8, 0), (8, code)]))
        let s := (s.wr64 (Reg.tailFalertLo i) tick).wr (Reg.tailFlastLo i) (word hi)
        let s := s.setF (Reg.tailFlastHi i) 15 0 (hi / 2 ^ 32)
        let s := (s.wr (Reg.tailFfirstLo i) 0).wr (Reg.tailFfirstHi i) 0
        (s.updAcq (fun a => { a with slots := sins i (lo, hi) a.slots })).showTail

/-- A slot in state AHEAD becomes HELD once its frames have closed and their pages are written, or the writer has stopped
(R373). -/
def State.tailHeld (s : State) (i : Nat) : State :=
  let s := s.tailDrain
  let r := sget (0, 0) i s.acq.slots
  let written := s.acq.pages.all (fun p => decide (r.2 < p.f1) || decide (p.f2.getD p.f1 < r.1))
  let stopped := !s.tailRunning && decide (s.acq.tailStop = none)
  if s.slotState i = 1 ∧ ((s.intakeClosed r.2 && written) || stopped) then
    ((s.setF (Reg.tailFstat i) 31 30 2).setFlag (Reg.tailFstat i) 29 true).raise Pg.tail 0x1
  else s

/-- Effect of a write to a slot's RELEASE: its pins are released, and a stopped writer resumes when a page is free
(R372, R373). -/
def State.tailRelease (s : State) (i : Nat) (v : Word) : State :=
  if v.getLsbD 0 = false ∨ s.slotState i = 0 then s
  else
    let s := (s.setF (Reg.tailFstat i) 31 30 0).setFlag (Reg.tailFstat i) 29 false
    (s.updAcq (fun a => { a with slots := a.slots.filter (fun x => decide (x.1 ≠ i)) })).showTail.tailResume

/-- Queue `q` is an enabled bulk queue (R374). -/
def State.bulkOn (s : State) (q : Nat) : Bool := s.flag (Reg.qdevCtl q) 0 && s.flag (Reg.qdevCtl q) 8

/-- TAIL.X_STAT follows the requests. -/
def State.showX (s : State) : State :=
  (s.setFlag Reg.tailXStat 8 s.acq.cur.isSome).setF Reg.tailXStat 2 0 s.acq.reqs.length

/-- Effect of a write of TAIL.X_CTL (R374). -/
def State.tailXWrite (s : State) (v : Word) : State :=
  let a := s.rd64 Reg.tailXStartLo
  let b := s.rd64 Reg.tailXEndLo
  let t := s.fld Reg.tailXTiles 15 0
  let q := wfld v 21 16
  if v.getLsbD 31 = false then s
  else if b ≤ a ∨ t = 0 ∨ s.bulkOn q = false ∨ 4 ≤ s.acq.reqs.length then s.refuse Pg.tail
  else (s.updAcq (fun x => { x with reqs := x.reqs ++ [⟨a, b, t, q, wfld v 14 0⟩] })).showX

/-- Words of 64 bits join the stream of an extraction, least significant byte first. -/
def State.xFeed (s : State) (r : XReq) (ws : List Nat) : State :=
  s.rleFeed (0x8000 + r.id) (ws.flatMap (leBytes 8))

/-- The words of frame `f` held in a page: those before SPLIT for its first frame, those from SPLIT on for its second. -/
def pageFrame (md : List DWord) (ws : List DWord) (f : Nat) : List DWord :=
  let n := dfld (mdWord md 1) 59 51
  let k := dfld (mdWord md 1) 50 42
  if mdF1 md = f then ws.take k else (ws.take n).drop k

/-- Order of two pages of one tile: by RUN, then by SEQ. -/
def mdAfter (x y : List DWord) : Bool :=
  decide (dfld (mdWord y 2) 63 32 * 2 ^ 32 + dfld (mdWord y 1) 31 0 < dfld (mdWord x 2) 63 32 * 2 ^ 32 + dfld (mdWord x 1) 31 0)

/-- Pages in the order in which they were written. -/
def sortPages (l : List (Nat × List DWord)) : List (Nat × List DWord) :=
  l.foldl (fun acc p =>
    acc.takeWhile (fun q => !mdAfter q.2 p.2) ++ p :: acc.dropWhile (fun q => !mdAfter q.2 p.2)) []

/-- FLAGS and INCOMPLETE of a group, from the metadata of the pages that hold its frame (R368, R377); THR_NEW, which the metadata
do not hold, and the flags of the very frame are taken from its header while that is known. -/
def State.xFlags (s : State) (t f : Nat) (ps : List (Nat × List DWord)) : Nat × Bool :=
  let any := fun (b : Nat) => ps.any (fun p => (mdWord p.2 1).getLsbD b)
  match s.det.headers.find? (fun e => decide (e.1 = f * 16 + t)) with
  | some (_, h, _) => (dfld h 55 52, s.reportedTF t f)
  | none => ((any 37).toNat + 4 * (any 36).toNat + 8 * (any 35).toNat, any 34)

/-- The group of one frame and tile: its hit words in the range, whether it carries GAP, and its FLAGS and INCOMPLETE (R375,
R377, R516). -/
def State.xGroup (s : State) (r : XReq) (t f : Nat) : State × List DWord × Bool × Nat × Bool :=
  let s := match s.tailOpen t with
    | some p => if p.f1 = f ∨ p.f2 = some f then s.tailClose p false else s
    | none => s
  let ps := sortPages (s.tailPages.filter (fun p =>
    decide (mdTile p.2 = t) && (decide (mdF1 p.2 = f) || decide (mdF2 p.2 = f))))
  let x := ps.foldl (fun (a : State × List DWord × Bool) p =>
    let (s, _, ue) := a.1.pageRead p.1
    if ue then (s, a.2.1, true)
    else (s, a.2.1 ++ (pageFrame p.2 (s.pageWords p.1) f).filter (fun w =>
      decide (r.start * 256 ≤ fullTime f w) && decide (fullTime f w < r.stop * 256)), a.2.2)) (s, [], false)
  (x.1, x.2.1, x.2.2 || decide (sget 0 (f * 16 + t) s.acq.gone = 1), s.xFlags t f ps)

/-- The groups of frame `f` join the stream (R377). -/
def State.xFrame (s : State) (c : XCur) (f : Nat) : State × XCur :=
  let x := (List.range 16).foldl (fun (a : State × XCur) t =>
    if c.req.tiles.testBit t then
      let (s, ws, gap, flags, inc) := a.1.xGroup c.req t f
      if ws = [] ∧ gap = false then (s, a.2)
      else
        let h := packFields [(4, t), (4, 2), (4, flags), (4, 0), (48, f)]
        let g := packFields [(32, ws.length), (30, 0), (1, inc.toNat), (1, gap.toNat)]
        let s := s.xFeed c.req (h :: g :: ws.map (fun w => w.toNat))
        let s := if gap then (s.incSat Reg.tailXGap).stick Pg.tail 0x80000 else s
        (s, { a.2 with words := a.2.words + ws.length, gaps := a.2.gaps + gap.toNat })
    else a) (s, c)
  (x.1, { x.2 with next := f + 1 })

/-- The first frame from `f` on that the ring holds words of, or has lost words of. -/
def State.xNext (s : State) (f : Nat) : Option Nat :=
  let fs := s.tailPages.flatMap (fun p => [mdF1 p.2, mdF2 p.2]) ++ s.acq.pages.flatMap (fun p => p.f1 :: p.f2.toList)
    ++ s.acq.gone.map (fun g => g.1 / 16)
  (fs.filter (fun g => decide (f ≤ g))).foldl (fun b g => match b with
    | none => some g
    | some h => some (Nat.min g h)) none

/-- Blocks of an extraction wait for credit of their queue (R376). -/
def State.xWaits (s : State) (q : Nat) : Bool := s.que.packets.any (fun p => p.waits && decide (p.queue = q))

/-- One step of extraction: a request begins with its head; the next frame's groups follow once the frame has closed; the
trailer ends the stream (R374 to R377). -/
def State.tailExtract (s : State) : State :=
  let s := s.tailDrain
  match s.acq.cur with
  | none =>
    match s.acq.reqs with
    | [] => s
    | r :: rest =>
      let s := (s.updAcq (fun a => { a with reqs := rest, cur := some { req := r, next := frameOf r.start } })).showX
      s.xFeed r [r.start, r.stop, packFields [(16, 0), (16, r.tiles), (17, 0), (15, r.id)]]
  | some c =>
    if c.fed ∨ s.xWaits c.req.queue then s
    else
      let last := frameOf (c.req.stop - 1)
      let live := s.tailRunning || s.acq.tailStop.isSome
      let put := fun (s : State) (c : XCur) => s.updAcq (fun a => { a with cur := some c })
      match s.xNext c.next with
      | some f =>
        if f ≤ last then
          if live && !s.intakeClosed f then s
          else
            let (s, c) := s.xFrame c f
            put s c
        else if live && !s.intakeClosed last then s
        else (put (s.xFeed c.req [packFields [(32, c.words), (32, c.gaps)]]) { c with fed := true }).rleEnd (0x8000 + c.req.id)
      | none =>
        if live && !s.intakeClosed last then s
        else (put (s.xFeed c.req [packFields [(32, c.words), (32, c.gaps)]]) { c with fed := true }).rleEnd (0x8000 + c.req.id)

/-- An extraction ends once its last block is placed (R378). -/
def State.tailExtractDone (s : State) : State :=
  match s.acq.cur with
  | none => s
  | some c =>
    if c.fed && decide (s.rle (0x8000 + c.req.id) = {}) && !s.xWaits c.req.queue then
      let s := (s.wr Reg.tailXWords (word c.words)).inc Reg.tailXDone
      ((s.raise Pg.tail 0x2).updAcq (fun a => { a with cur := none })).showX
    else s

/-- A flush, a mismatch or EN = 0 of its queue ends an extraction that waits for credit (R454). -/
def State.tailXEnd (s : State) (q : Nat) : State :=
  match s.acq.cur with
  | none => s
  | some c =>
    if c.req.queue = q ∧ s.xWaits q then
      let s := s.updQue (fun x => { x with packets := x.packets.filter (fun p => !(p.waits && decide (p.queue = q))) })
      ((s.setRle (0x8000 + c.req.id) {}).updAcq (fun a => { a with cur := none })).showX
    else s

/-- Effect of a write of TAIL.META_SEL: META0 to META7 show the metadata of the selected page (R368). -/
def State.metaSel (s : State) (v : Word) : State :=
  let s := s.plainWrite Reg.tailMetaSel v
  let md := s.pageMeta (s.tailRegion.1 + v.toNat)
  (List.range 4).foldl (fun s i =>
    (s.wr (Reg.tailMeta (2 * i)) (word (mdWord md i).toNat)).wr (Reg.tailMeta (2 * i + 1)) (word ((mdWord md i).toNat / 2 ^ 32))) s

/-- Effect of a write of TAIL.FREEZE_GO (R369). -/
def State.freezeGo (s : State) (v : Word) : State :=
  if v.getLsbD 31 then s.sendAlert 0 (s.rd64 Reg.tailFreezeAtLo) (wfld v 7 0) else s

/-- Effect of a write to a TAIL register (R363, R364, R369, R373, R374). -/
def State.tailWrite (s : State) (k : Nat) (v : Word) : State :=
  if k = Reg.tailRegionFirst ∨ k = Reg.tailRegionLast then
    if s.tailRunning then s.refuse Pg.tail else ((s.plainWrite k v).showPages).showTail
  else if k = Reg.tailFreezeGo then s.freezeGo v
  else if k = Reg.tailXCtl then s.tailXWrite v
  else if k = Reg.tailMetaSel then s.metaSel v
  else
    match (List.range 4).find? (fun i => decide (k = Reg.tailFrelease i)) with
    | some i => s.tailRelease i v
    | none => s.plainWrite k v

/-- A TAIL page reset frees every slot and ends the requests with their streams and the blocks that wait; the writer goes on with
the overlay (R94). -/
def State.tailReset (s : State) : State :=
  let run := s.tailRunning
  let s := s.updAcq (fun a => { a with
    slots := [], reqs := [], cur := none, streams := a.streams.filter (fun x => decide (0x10000 ≤ x.1)) })
  let s := s.updQue (fun q => { q with packets := q.packets.filter (fun p => !p.waits) })
  if run then s.setFlag Reg.tailStatus 0 true else s

/-- An RLE page reset ends the streams, and the extraction in progress with its own, as a TAIL page reset does (R94, R378; entry
86). -/
def State.rleReset (s : State) : State :=
  let s := (s.updAcq (fun a => { a with streams := [], rleIn := 0, rleOut := 0, cur := none })).showX
  s.updQue (fun q => { q with packets := q.packets.filter (fun p => !p.waits) })

/-- Effect of a write of DECC.RETIRE_ADD (R527): where the page named is the one that the writer's next page would take, the page
that it has held open longest is closed to it first (DEDUCED, log 42). -/
def State.retireWrite (s : State) (v : Word) : State :=
  let (a, b) := s.tailRegion
  let s := match s.acq.pages with
    | p :: _ => if s.tailRunning && decide (s.tailFree (b - a) s.acq.pos = some (wfld v 21 0)) then s.tailClose p false else s
    | [] => s
  s.retireAddWrite v

/-- RETIRE_ADD (R527). -/
def execRetireAdd (d : Dom) (v : Word) (s : State) : Host.Outcome State Fault Refusal :=
  .next (s.hostWrite d Reg.deccRetireAdd v (fun s => s.retireWrite v))

/-- The extraction path can reach the stores: ACQ and DRAM have their clocks (R40). -/
def State.xLive (s : State) : Bool := s.islandLive 4 && s.islandLive 19

/-- FRAME_HEADER_RX. -/
def execFrameHeaderRx (b : BlockRx) (s : State) : Host.Outcome State Fault Refusal :=
  .next (s.headerRx b.tile b.lane b.err).tailDrain

/-- INTAKE_CLOSE_DEADLINE (R285): the header of the next frame has not come by the deadline. -/
def execIntakeCloseDeadline (t : Fin 16) (s : State) : Host.Outcome State Fault Refusal :=
  let l := s.link t
  match l.requester, l.holds with
  | true, some h =>
    let n := Nat.max h l.closedTo
    let s := s.advanceTo ((n + 1) * 65536 + 4096)
    let s := (s.updLink t (fun x => { x with closedTo := n + 1 })).stick Pg.tlnk 0x80000
    .next (s.noteClose n).tailDrain
  | _, _ => .next s

/-- HIT_WORD_INTAKE. -/
def execHitWordIntake (s : State) : Host.Outcome State Fault Refusal := .next s.hitWordIntake

/-- ACCEPT_ROUTE. -/
def execAcceptRoute (s : State) : Host.Outcome State Fault Refusal := .next s.acceptRoute

/-- TAIL_PAGE_TIMEOUT (R366): 16 frames have begun since the tile's page was opened. -/
def execTailPageTimeout (t : Fin 16) (s : State) : Host.Outcome State Fault Refusal :=
  let s := s.tailDrain
  match s.tailOpen t with
  | some p => .next (if p.opened + 16 ≤ s.time.frame ∧ s.flag Reg.tailStatus 1 = false then s.tailClose p true else s)
  | none => .next s

/-- TAIL_FREEZE_GO. -/
def execTailFreezeGo (d : Dom) (v : Word) (s : State) : Host.Outcome State Fault Refusal :=
  .next (s.hostWrite d Reg.tailFreezeGo v (fun s => s.freezeGo v))

/-- TAIL_ALERT: the oldest alert on its way reaches the Tail ring. -/
def execTailAlert (s : State) : Host.Outcome State Fault Refusal :=
  match s.trig.alerts with
  | [] => .next s
  | (src, tick, code) :: r =>
    .next (if s.crosses (alertIsland src) 4 then (s.updTrig (fun x => { x with alerts := r })).tailAlert (src % 8) tick code else s)

/-- TAIL_SLOT_HELD. -/
def execTailSlotHeld (i : Fin 4) (s : State) : Host.Outcome State Fault Refusal := .next (s.tailHeld i)

/-- TAIL_SLOT_RELEASE. -/
def execTailSlotRelease (d : Dom) (i : Fin 4) (v : Word) (s : State) : Host.Outcome State Fault Refusal :=
  .next (s.hostWrite d (Reg.tailFrelease i) v (fun s => s.tailRelease i v))

/-- TAIL_EXTRACT_REQUEST. -/
def execTailExtractRequest (d : Dom) (v : Word) (s : State) : Host.Outcome State Fault Refusal :=
  .next (s.hostWrite d Reg.tailXCtl v (fun s => s.tailXWrite v))

/-- TAIL_EXTRACT. -/
def execTailExtract (s : State) : Host.Outcome State Fault Refusal :=
  .next (if s.xLive then s.tailExtract else s)

/-- TAIL_EXTRACT_DONE. -/
def execTailExtractDone (s : State) : Host.Outcome State Fault Refusal := .next s.tailExtractDone

end Sys2Proof.Machine
end

