-- ==== Sys2Proof/Machine/Operands.lean ====
section
/-!
DEFINITION. The operand forms of the hit engines (R392, R395, R411, R412): registers, pairs, immediates, addresses,
conditions and the encodings of the three formats.
-/
namespace Sys2Proof.Machine

/-- Register g(n): g0 reads 0 (R392). -/
def Eng.g (x : Eng) (n : Nat) : Word := if n = 0 then 0 else sget 0 n x.regs

/-- An engine with g(n) written; a write of g0 is discarded (R392). -/
def Eng.setG (x : Eng) (n : Nat) (w : Word) : Eng := if n = 0 then x else { x with regs := sset 0 n w x.regs }

/-- A pair operand is an even register from g2 to g30 (R392). -/
def pairOk (n : Nat) : Bool := decide (n % 2 = 0) && decide (2 ≤ n) && decide (n ≤ 30)

/-- The pair g(n), g(n + 1): bits 31:0 and bits 63:32 (R392). -/
def Eng.pair (x : Eng) (n : Nat) : DWord := x.g (n + 1) ++ x.g n

/-- An engine with a pair written. -/
def Eng.setPair (x : Eng) (n : Nat) (w : DWord) : Eng :=
  (x.setG n (w.extractLsb' 0 32)).setG (n + 1) (w.extractLsb' 32 32)

/-- A sign-extended immediate (R413). -/
abbrev simm (i : BitVec 16) : Word := i.signExtend 32

/-- A zero-extended immediate (R413). -/
abbrev zimm (i : BitVec 16) : Word := i.setWidth 32

/-- The exception of an access of `size` bytes at address `a`, 0 for none: 3 outside the cluster-memory window, 4 when not
aligned to its size (R395, R403). -/
def accessExc (a : Word) (size : Nat) : Nat :=
  if 0x40000 ≤ a.toNat then 3 else if a.toNat % size ≠ 0 then 4 else 0

/-- Whether a branch condition holds; `none` for a reserved one (R412). -/
def condHolds (f : EFlags) (cond : Nat) : Option Bool :=
  match cond with
  | 0 => some true
  | 1 => some f.z
  | 2 => some (!f.z)
  | 3 => some (f.n != f.v)
  | 4 => some (f.n == f.v)
  | 5 => some (!f.c)
  | 6 => some f.c
  | 7 => some f.k
  | 8 => some (!f.k)
  | 9 => some f.q
  | _ => none

/-- The target of a branch: the displacement counts from the instruction after it, whose address is `next`, and the PC counts
0 to 4,095 (R395, R411). -/
def branchPc (next : Nat) (disp : BitVec 22) : Nat := (((next : Int) + disp.toInt) % 4096).toNat

/-- Format A (R411). -/
def encA (op d a b fn : Nat) : Word := word (packFields [(6, op), (5, d), (5, a), (5, b), (11, fn)])

/-- Format B (R411). -/
def encB (op d a : Nat) (imm : BitVec 16) : Word := word (packFields [(6, op), (5, d), (5, a), (16, imm.toNat)])

/-- Format C (R411). -/
def encC (op cond : Nat) (disp : BitVec 22) : Word := word (packFields [(6, op), (4, cond), (22, disp.toNat)])

/-- All bits of an instruction word count. -/
abbrev maskAll : Word := 0xFFFFFFFF

/-- OP, d, a and FN count: the b field names nothing. -/
abbrev maskDA : Word := 0xFFFF07FF

/-- OP, d and FN count: the a and b fields name nothing. -/
abbrev maskD : Word := 0xFFE007FF

/-- OP, a, b and FN count: the d field names nothing. -/
abbrev maskAB : Word := 0xFC1FFFFF

/-- OP and FN count: no field names anything. -/
abbrev maskFn : Word := 0xFC0007FF

/-- OP, d and the immediate count. -/
abbrev maskDI : Word := 0xFFE0FFFF

/-- OP, a and the immediate count. -/
abbrev maskAI : Word := 0xFC1FFFFF

/-- OP and FN of an instruction word are those of an instruction of R413. -/
def engDecodes (w : Word) : Bool :=
  let fn := wfld w 10 0
  match wfld w 31 26 with
  | 0x00 => decide (fn ≤ 0x0D) || decide (fn = 0x10) || (decide (0x20 ≤ fn) && decide (fn ≤ 0x25))
  | 0x01 => decide (fn ≤ 2)
  | 0x02 => decide (fn ≤ 31)
  | 0x03 => decide (fn ≤ 31)
  | 0x15 => decide (fn = 0)
  | 0x16 => decide (fn = 0)
  | 0x1D => decide (fn = 0)
  | 0x20 => true
  | 0x21 => decide (wfld w 25 22 = 0)
  | 0x22 => decide (fn = 0)
  | 0x30 => decide (fn ≤ 9)
  | 0x31 => true
  | 0x32 => true
  | op => (decide (0x08 ≤ op) && decide (op ≤ 0x0E)) || (decide (0x10 ≤ op) && decide (op ≤ 0x14))
      || (decide (0x18 ≤ op) && decide (op ≤ 0x1B))

end Sys2Proof.Machine
end

