-- ==== Sys2Proof/Machine/Flags.lean ====
section
/-!
DEFINITION. The flag computations of the hit engines (R393, R413, R416): each names the flags that its instruction's table
row names, and leaves the others as they are.
-/
namespace Sys2Proof.Machine

/-- Z: the result is 0. -/
def EFlags.setZ (f : EFlags) (r : Word) : EFlags := { f with z := decide (r = 0) }

/-- Z and N: the result is 0; bit 31 of the result. -/
def EFlags.setZN (f : EFlags) (r : Word) : EFlags := { f with z := decide (r = 0), n := r.msb }

/-- Z, N, C and V of an addition: C is the carry out, V signed overflow. -/
def EFlags.setAdd (f : EFlags) (a b : Word) : EFlags :=
  { f.setZN (a + b) with
    c := decide (2 ^ 32 ≤ a.toNat + b.toNat)
    v := decide (a.toInt + b.toInt ≠ (a + b).toInt) }

/-- Z, N, C and V of a subtraction: C is the absence of a borrow. -/
def EFlags.setSub (f : EFlags) (a b : Word) : EFlags :=
  { f.setZN (a - b) with
    c := decide (b.toNat ≤ a.toNat)
    v := decide (a.toInt - b.toInt ≠ (a - b).toInt) }

/-- Q is sticky: set when a saturating instruction saturates. -/
def EFlags.orQ (f : EFlags) (sat : Bool) : EFlags := { f with q := f.q || sat }

/-- K, the condition flag. -/
def EFlags.setK (f : EFlags) (b : Bool) : EFlags := { f with k := b }

/-- K and Q cleared by HITGET. -/
def EFlags.clearKQ (f : EFlags) : EFlags := { f with k := false, q := false }

/-- The flags as MOVS selector 16 reads them (R415). -/
def EFlags.bits (f : EFlags) : Word :=
  word (f.q.toNat * 32 + f.k.toNat * 16 + f.z.toNat * 8 + f.n.toNat * 4 + f.c.toNat * 2 + f.v.toNat)

/-- A signed value limited to `w` bits, and whether it was limited. -/
def satS (w : Nat) (z : Int) : Int × Bool := (satSigned w z, decide (satSigned w z ≠ z))

/-- One signed 16-bit lane operation with saturation. -/
def laneS (op : Int → Int → Int) (a b : BitVec 16) : BitVec 16 × Bool :=
  let r := satS 16 (op a.toInt b.toInt)
  (BitVec.ofInt 16 r.1, r.2)

/-- One unsigned 8-bit lane operation with saturation at 0 and 255. -/
def laneU (op : Int → Int → Int) (a b : BitVec 8) : BitVec 8 × Bool :=
  let z := op (a.toNat : Int) (b.toNat : Int)
  let r := if z < 0 then 0 else if 255 < z then 255 else z
  (BitVec.ofInt 8 r, decide (r ≠ z))

/-- Two signed 16-bit lanes: the word and whether a lane saturated. -/
def lanes2 (op : Int → Int → Int) (a b : Word) : Word × Bool :=
  let lo := laneS op (a.extractLsb' 0 16) (b.extractLsb' 0 16)
  let hi := laneS op (a.extractLsb' 16 16) (b.extractLsb' 16 16)
  (hi.1 ++ lo.1, lo.2 || hi.2)

/-- Four unsigned 8-bit lanes: the word and whether a lane saturated. -/
def lanes4 (op : Int → Int → Int) (a b : Word) : Word × Bool :=
  let l := fun (i : Nat) => laneU op (a.extractLsb' i 8) (b.extractLsb' i 8)
  ((l 24).1 ++ (l 16).1 ++ (l 8).1 ++ (l 0).1, (l 0).2 || (l 8).2 || (l 16).2 || (l 24).2)

/-- The signed minimum or maximum. -/
def pickS (less : Bool) (a b : Word) : Word := if a.slt b = less then a else b

/-- The lane-wise signed minimum or maximum of two 16-bit lanes. -/
def pickH2 (less : Bool) (a b : Word) : Word :=
  let l := fun (i : Nat) => (let x := a.extractLsb' i 16
                             let y := b.extractLsb' i 16
                             if x.slt y = less then x else y)
  l 16 ++ l 0

/-- The signed difference of two 64-bit times limited to 32 bits, and whether it was limited (R416). -/
def tdiff (a b : DWord) : Word × Bool :=
  let z := (a - b).toInt
  if 2147483647 < z then (0x7FFFFFFF, true)
  else if z < -2147483647 then (0x80000000, true)
  else (BitVec.ofInt 32 z, false)

/-- Z, N, V and K of TSUB (R416): K and Z exactly when the difference is 0. -/
def EFlags.setT (f : EFlags) (a b : DWord) : EFlags :=
  { f.setZN (tdiff a b).1 with z := decide (a = b), v := (tdiff a b).2, k := decide (a = b) }

/-- The walk correction of a hit word with walk constant `k` (R256, R257): T0 and whether the hit was corrected. -/
def walkT0 (w : DWord) (k : Nat) : Word × Bool :=
  let kind := dfld w 56 54
  if (kind = 0 ∨ kind = 3) ∧ w.getLsbD 1 = false then
    (word (tleadOf w) - word ((dfld w 29 18 * k + 2048) / 4096), true)
  else (word (tleadOf w), false)

end Sys2Proof.Machine
end

