-- ==== Sys2Proof/Machine/Engine.lean ====
section
/-!
DEFINITION. The course of a hit engine: program starts, units, budgets, exceptions, output and the execution of one
instruction (R392 to R410).
-/
namespace Sys2Proof.Machine

/-- STATE of ESTAT: 0 STOPPED, 1 START, 2 WAIT, 3 RUN. -/
def Eng.state (x : Eng) : Nat :=
  if x.prog = none then 0 else if x.waiting then 2 else if x.unit = none then 1 else 3

/-- The ESTAT register of engine `e`; the other registers of an engine lie beside it. -/
abbrev engReg (e : Nat) : Nat := Reg.eclEstat (e / 8) (e % 8)

/-- The state with engine `e` as `x`; ESTAT.PC and ESTAT.STATE follow it. -/
def State.putEng (s : State) (e : Nat) (x : Eng) : State :=
  let s := s.updEng (fun g => { g with engs := sset {} e x g.engs })
  (s.setF (engReg e) 27 16 x.pc).setF (engReg e) 2 0 x.state

/-- The island of engine `e`'s cluster. -/
abbrev engIsland (e : Nat) : Nat := 5 + e / 8

/-- The parameters that an engine of cluster `n` latches (R421). -/
def State.engParams (s : State) (n : Nat) : List Word := (List.range 8).map (fun k => s.rd (Reg.eclParam n k))

/-- The mode of the unit in hand, or of the program before its first unit. -/
def Eng.mode (x : Eng) : Nat :=
  match x.unit with
  | some u => u.mode
  | none => x.prog.getD 0

/-- Cycles that the unit in hand, or the start segment, may take; `none` once it has been cut off (R400, R402). -/
def Eng.limit (x : Eng) : Option Nat := if x.late then none else if x.unit = none then some 256 else some x.budget

/-- The program of mode `m` starts: registers and flags are cleared, and the entry points, the budget and the parameters are
taken (R394, R398 to R400, R421). `f` is the frame of the unit that waits. -/
def State.engStart (s : State) (e m f : Nat) : State :=
  let x := s.engine e
  let entry := Reg.engProg2Entry + (m - 2) * 8
  let s := s.wr (Reg.eclCycmax (e / 8) (e % 8)) 0
  s.putEng e { x with
    regs := [], fl := {}, pc := s.fld entry 11 0, prog := some m, loop := s.fld entry 27 16
    mark := s.fld (entry + 4) 27 16, budget := s.fld (entry + 4) 6 0
    unit := none, frame := f, waiting := false, used := 0, cut := false, late := false, sent := false
    params := s.engParams (e / 8) }

/-- A stopped engine with a unit in its queue starts (R387, R399). -/
def State.engKick (s : State) (e : Nat) : State :=
  let x := s.engine e
  match x.prog, x.queue with
  | none, u :: _ => if s.islandLive (engIsland e) then s.engStart e u.mode u.frame else s
  | _, _ => s

/-- An engine holds a frame before `f`: the marker of that frame is still to come to it, at the dispatcher or on its crossing, or
is in its queue or in its hand (R409). -/
def State.framesBefore (s : State) (f : Nat) : Bool :=
  s.eng.todo.any (fun t => t.2.any (fun g => decide (g.1 < f))) ||
  s.eng.cross.any (fun h => h.2.marker && decide (h.2.frame < f)) ||
  s.eng.engs.any (fun x => x.2.queue.any (fun u => u.marker && decide (u.frame < f)) ||
    (match x.2.unit with
      | some u => u.marker && decide (u.frame < f) && !x.2.waiting && !x.2.cut
      | none => false))

/-- A word takes its place among those that wait at the output arbiters: after those of its own frame (R409). -/
def outInsert (w : OutWord) : List OutWord → List OutWord
  | [] => [w]
  | v :: r => if w.frame < v.frame then w :: v :: r else v :: outInsert w r

/-- A word reaches the output arbiters, which hold it while an engine holds a lower frame (R30, R409). -/
def State.outLand (s : State) (w : OutWord) : State :=
  if s.framesBefore w.frame then s.updEng (fun g => { g with out := outInsert w g.out })
  else s.evWord w.ev w.frame w.typ w.num w.origin w.word

/-- A word of an engine's output port, or a bypass word, crosses to the output arbiters of EVB (R37, R40, R407). -/
def State.outWord (s : State) (w : OutWord) : State := s.offer (.out w) (fun s => s.outLand w)

/-- The output arbiters serve the words that no lower frame holds back any more (R30, R409). -/
def State.outDrain (s : State) : State :=
  let go := s.eng.out.filter (fun w => !s.framesBefore w.frame)
  let s := s.updEng (fun g => { g with out := g.out.filter (fun w => s.framesBefore w.frame) })
  go.foldl (fun s w => s.evWord w.ev w.frame w.typ w.num w.origin w.word) s

/-- The engine has passed its marker of frame `f` of mode `m`: its frame ends, words of later frames may leave the output
arbiters, and it stops once no data mode handles the next frame, or that frame is passed and no data mode is in force (R387,
R390, R406, R408, R409). -/
def State.engPass (s : State) (e m f : Nat) : State :=
  let x := s.engine e
  let n := s.modeOf (f + 1)
  let on := decide (2 ≤ n) && (decide (2 ≤ s.modeNow) || decide (sget 0 n x.passed < f + 2))
  let x := { x with
    counts := sset (0, 0) m (0, 0) x.counts, passed := sset 0 m (f + 1) x.passed
    prog := if on then x.prog else none }
  (((s.putEng e x).outDrain).evForget).engKick e

/-- Mode `m` takes effect at frame `f`: no engine has passed a marker of it from `f` on, whatever frames a SYNC has made begin
again (R409, R724). -/
def State.engUnpass (s : State) (m f : Nat) : State :=
  s.updEng (fun g => { g with engs := g.engs.map (fun x =>
    (x.1, { x.2 with passed := sset 0 m (Nat.min f (sget 0 m x.2.passed)) x.2.passed })) })

/-- The highest cycle count of a unit is kept in CYCMAX. -/
def State.engMax (s : State) (e : Nat) (marker : Bool) (n : Nat) : State :=
  let k := Reg.eclCycmax (e / 8) (e % 8)
  let lo := if marker then 16 else 0
  s.setF k (lo + 6) lo (Nat.max (s.fld k (lo + 6) lo) (Nat.min n 127))

/-- The hit word in hand is forwarded untouched when no word has been sent for it (R404, R407, R408). -/
def State.engForward (s : State) (e origin : Nat) : State :=
  let x := s.engine e
  match x.unit with
  | some u =>
    if u.marker || x.sent || x.cut then s
    else
      let c := sget (0, 0) u.mode x.counts
      let s := s.putEng e { x with sent := true, counts := sset (0, 0) u.mode (c.1, c.2 + 1) x.counts }
      match u.ev with
      | some n => s.outWord ⟨e, n, u.frame, 0, u.tile, origin, u.word⟩
      | none => s
  | none => s

/-- The unit in hand is over after a cut-off or an exception: the engine resumes at LOOP, and a marker has been passed
(R402, R403, R409). `n` is the count that CYCMAX keeps so far; `late` says that the engine was cut off. -/
def State.engResume (s : State) (e n : Nat) (late : Bool) : State :=
  let x := s.engine e
  let s := s.putEng e { x with pc := x.loop, cut := true, late := late }
  match x.unit with
  | some u =>
    let s := if x.cut = false ∨ (late = true ∧ x.late = false) then s.engMax e u.marker n else s
    if u.marker && !x.cut then s.engPass e u.mode u.frame else s
  | none => s

/-- The engine is cut off (R400, R402, R404). -/
def State.engCut (s : State) (e : Nat) : State :=
  let x := s.engine e
  let n := e / 8
  let s := ((s.incSat (engReg e + 8)).raise (Pg.ecl n) (2 ^ (e % 8))).wr (Reg.eclExcPc n (e % 8)) (word x.pc)
  (s.engForward e 1).engResume e (x.budget + 1) true

/-- The instruction in progress raises exception `code` (R403, R404). -/
def State.engExc (s : State) (e code : Nat) : State :=
  let x := s.engine e
  let n := e / 8
  let s := (s.incSat (engReg e + 12)).raise (Pg.ecl n) (2 ^ (8 + e % 8))
  let s := (s.setF (engReg e) 15 8 code).wr (Reg.eclExcPc n (e % 8)) (word x.pc)
  let s := if code = 5 then s.stick (Pg.ecl n) 0x10000 else s
  (s.engForward e 2).engResume e x.used x.late

/-- The address of an instruction in the instruction memories of a cluster. -/
def imemAddr (e pc : Nat) : Nat := e % 8 * 0x4000 + 4 * pc

/-- The instruction word at the PC of engine `e`: `none` when the fetch meets an uncorrectable error (R397). -/
def State.engFetch (s : State) (e : Nat) : State × Option Word :=
  let (s, bs, ue) := s.smRead (13 + e / 8) (imemAddr e (s.engine e).pc) 4
  (s, if ue then none else some (word (leNat bs)))

/-- The engine is running and its cluster is clocked and out of reset. -/
def State.engRuns (s : State) (e : Nat) : Bool := s.islandLive (engIsland e) && (s.engine e).prog.isSome

/-- Further cycles fit the budget (R400, R402). -/
def Eng.fits (x : Eng) (cost : Nat) : Bool :=
  match x.limit with
  | some l => decide (x.used + cost ≤ l)
  | none => true

/-- The instruction at the PC cannot run: exception `code`, after the cycle that its fetch took (R402, R403). -/
def State.engTrap (s : State) (e code : Nat) : State :=
  let x := s.engine e
  if x.fits 1 then (s.putEng e { x with used := x.used + 1 }).engExc e code else s.engCut e

/-- What an instruction comes to: its effect, or an exception that abandons it (R403). -/
inductive EngRes where
  | done (s : State) (x : Eng)
  | exc (s : State) (code : Nat)

/-- The engine runs the instruction at its PC, whose word is `enc` in the bits of `mask`. `f` is its effect on the state and
on the engine, whose PC and cycles already stand after the instruction. An engine that is stopped, or whose PC is at
another instruction, does nothing; a word that is no instruction raises exception 1 (R403). -/
def State.engRun (s : State) (e : Nat) (enc mask : Word) (cost : Eng → Nat) (f : State → Eng → EngRes) : State :=
  if s.engRuns e = false then s
  else
    let (s', w) := s.engFetch e
    let x := s.engine e
    match w with
    | none => s'.engTrap e 5
    | some w =>
      if w &&& mask ≠ enc then
        if engDecodes w then s else s'.engTrap e 1
      else if x.fits (cost x) = false then s'.engCut e
      else
        let y := { x with pc := (x.pc + 1) % 4096, used := x.used + cost x }
        match f s' y with
        | .done t z => t.putEng e z
        | .exc t code => (t.putEng e { x with used := y.used }).engExc e code

/-- An instruction that touches nothing but its engine. -/
def State.engOp (s : State) (e : Nat) (enc mask : Word) (cost : Nat) (f : Eng → Eng) : State :=
  s.engRun e enc mask (fun _ => cost) (fun s x => .done s (f x))

/-- The cycles of an instruction word (R413). -/
def engCost (x : Eng) (w : Word) : Nat :=
  match wfld w 31 26 with
  | 0x00 => if wfld w 10 0 = 0x10 then 2 else 1
  | 0x10 => 2
  | 0x11 => 2
  | 0x12 => 2
  | 0x13 => 2
  | 0x14 => 3
  | 0x15 => 2
  | 0x16 => 2
  | 0x1D => 3
  | 0x20 => if condHolds x.fl (wfld w 25 22) = some true then 2 else 1
  | 0x21 => 2
  | 0x22 => 2
  | _ => 1

/-- An engine whose next instruction would pass the limit of its unit, or of its start segment, is cut off; HITGET ends the
unit and is never the one cut off here (R400 to R402). -/
def State.engCutoff (s : State) (e : Nat) (start : Bool) : State :=
  if s.engRuns e = false then s
  else
    let x := s.engine e
    let (s', w) := s.engFetch e
    match w with
    | some w =>
      if x.waiting || decide (wfld w 31 26 = 0x30 ∧ wfld w 10 0 = 0) || x.fits (engCost x w)
          || decide (x.unit.isNone ≠ start) then s
      else s'.engCut e
    | none => s

/-- The event that words of a marker handler or a start segment belong to (R423). -/
def State.engEvent (s : State) (e : Nat) (x : Eng) : State × Nat :=
  let f := (x.unit.map (fun u => u.frame)).getD x.frame
  let m := x.mode
  if m = 2 ∨ m = 5 then s.streamEv m f (engGroup e) else s.summaryEv m f (engGroup e)

/-- The event already open that a dropped word would have joined, if there is one. -/
def State.engEvent? (s : State) (e : Nat) (x : Eng) : Option Nat :=
  let f := (x.unit.map (fun u => u.frame)).getD x.frame
  let k := if x.mode = 2 then 0 else if x.mode = 5 then 3 else 4
  (s.evb.evs.find? (fun v => decide (v.kind = k) && decide (v.frame = f) && decide (v.group = engGroup e))).map (fun v => v.num)

/-- The hit word in hand, when the unit in hand is one. -/
def Eng.hand (x : Eng) : Option EUnit :=
  match x.unit with
  | some u => if u.marker then none else some u
  | none => none

/-- The port accepts a program word: into the compressor stream, or into the event of the hit in hand, of the marker or of
the start segment (R407, R414, R423). -/
def State.engAccept (s : State) (e : Nat) (x : Eng) (stream : Bool) (w : DWord) : State :=
  if stream then s.rleFeed (rleKey e (s.fld (Reg.eclCtl (e / 8) (e % 8)) 14 0)) (leBytes 8 w.toNat)
  else
    match x.hand with
    | some u => (match u.ev with
      | some n => s.outWord ⟨e, n, u.frame, 0, u.tile, 0, w⟩
      | none => s)
    | none =>
      let (s, n) := s.engEvent e x
      s.outWord ⟨e, n, (x.unit.map (fun u => u.frame)).getD x.frame, 1, e, 0, w⟩

/-- A program word is sent, or dropped by the cap (R408). -/
def State.engSend (s : State) (e : Nat) (x : Eng) (stream : Bool) (w : DWord) : EngRes :=
  let m := x.mode
  let c := sget (0, 0) m x.counts
  if c.2 + 1 ≤ c.1 + 8 then
    .done (s.engAccept e x stream w) { x with
      sent := true, counts := sset (0, 0) m (c.1, c.2 + 1) x.counts }
  else
    let n := e / 8
    let s := (s.incSat (engReg e + 16)).raise (Pg.ecl n) (2 ^ (16 + e % 8))
    match if stream then none else (match x.hand with
        | some u => u.ev
        | none => s.engEvent? e x) with
    | some k => .done (s.evCapDrop k) x
    | none => .done s x

/-- HITGET ends the unit in hand (R401, R409). -/
def State.engEnd (s : State) (e : Nat) : State :=
  let x := s.engine e
  if x.waiting then s
  else
    match x.unit with
    | some u =>
      let s := s.putEng e { x with waiting := true }
      let s := if x.late then s else s.engMax e u.marker x.used
      if u.marker && !x.cut then s.engPass e u.mode u.frame else s
    | none => s.putEng e { x with waiting := true }

/-- A unit of the program's mode is delivered to HITGET with destination pair `d`; a marker closes the engine's compressor
streams (R401, R408, R414, R421). -/
def State.engDeliver (s : State) (e d : Nat) (u : EUnit) (rest : List EUnit) : State :=
  let x := s.engine e
  let c := sget (0, 0) u.mode x.counts
  let cost := if u.marker then 2 else 1
  let x := { x with
    queue := rest, unit := some u, hit := if u.marker then x.hit else u, frame := u.frame, waiting := false, used := 0
    cut := false, late := false, sent := false
    counts := if u.marker then x.counts else sset (0, 0) u.mode (c.1 + 1, c.2) x.counts
    params := if u.marker then s.engParams (e / 8) else x.params }
  let s := if u.marker then s.rleMarker e else s.inc (engReg e + 4)
  let s := s.putEng e x
  if x.fits cost = false then s.engCut e
  else
    let v := if u.marker then BitVec.ofNat 64 (u.frame % 2 ^ 48) else u.word
    s.putEng e { x.setPair d v with
      pc := if u.marker then x.mark else (x.pc + 1) % 4096, used := cost, fl := x.fl.clearKQ }

/-- HITGET (R399, R401, R414). -/
def State.engHitget (s : State) (e d : Nat) : State :=
  if s.engRuns e = false then s
  else
    let (s', w) := s.engFetch e
    match w with
    | none => s'.engTrap e 5
    | some w =>
      if w &&& maskD ≠ encA 0x30 d 0 0 0 then
        if engDecodes w then s else s'.engTrap e 1
      else if pairOk d = false then s'.engTrap e 2
      else
        let p := (s.engine e).prog
        let s := s'.engEnd e
        let x := s.engine e
        if x.waiting = false ∨ x.prog ≠ p then s
        else
          match x.queue with
          | [] => s
          | u :: rest => if x.prog = some u.mode then s.engDeliver e d u rest else s.engStart e u.mode u.frame

/-- A fatal entry stops every engine at once; memories are kept (R139, R406). -/
def State.engHalt (s : State) : State :=
  let s := (List.range 96).foldl (fun s e =>
    let x := s.engine e
    if x = {} then s else s.putEng e { x with
      prog := none, queue := [], unit := none, waiting := false, used := 0, cut := false, late := false, sent := false
      counts := [] }) s
  s.updEng (fun g => { g with q := [], todo := [], cross := [], out := [] })

/-- A page or island reset of cluster `n` makes its engines start again (R405). On an island reset what an engine forwards
is lost on the sealed crossing (R37). -/
def State.engRestart (s : State) (n : Nat) (island : Bool) : State :=
  let lost := s.eng.out.filter (fun w => island && decide (w.src / 8 = n))
  let s := s.updEng (fun g => { g with out := g.out.filter (fun w => !(island && decide (w.src / 8 = n))) })
  let s := lost.foldl (fun s _ => (s.incSat (Reg.eclXlost n)).stick (Pg.ecl n) 0x20000) s
  (List.range 8).foldl (fun s k =>
    let e := 8 * n + k
    let x := s.engine e
    if x.prog = none then s
    else
      let fwd := match x.hand with
        | some _ => !x.sent && !x.cut && !x.waiting
        | none => false
      let s := if fwd && island then (s.incSat (Reg.eclXlost n)).stick (Pg.ecl n) 0x20000
        else if fwd then s.engForward e 2 else s
      let m := s.modeNow
      let s := if 2 ≤ m ∧ m ≤ 5 then s.engStart e m s.time.frame
        else s.putEng e { s.engine e with prog := none, unit := none, waiting := false }
      match x.unit with
      | some u => if u.marker && !x.waiting && !x.cut then s.engPass e u.mode u.frame else s.engKick e
      | none => s.engKick e) s

/-- ENGINE_START_CUTOFF (R400). -/
def execEngineStartCutoff (e : Fin 96) (s : State) : Host.Outcome State Fault Refusal := .next (s.engCutoff e true)

/-- ENGINE_CUTOFF (R402, R404). -/
def execEngineCutoff (e : Fin 96) (s : State) : Host.Outcome State Fault Refusal := .next (s.engCutoff e false)

end Sys2Proof.Machine
end

