-- ==== Sys2Proof/Machine/EngMem.lean ====
section
/-!
DEFINITION. Loads and stores of the hit engines, and the load of programs and tables (R395 to R397, R413, R419 to R421).
-/
namespace Sys2Proof.Machine

/-- Memory code of the cluster memory of an engine (R517). -/
abbrev cmem (e : Nat) : Nat := 1 + e / 8

/-- A load of `n` bytes at address `a`: the value, or exception 3, 4 or 5 (R395, R403). -/
def State.engLoad (s : State) (e : Nat) (a : Word) (n : Nat) (f : Nat → Eng) : EngRes :=
  if accessExc a n ≠ 0 then .exc s (accessExc a n)
  else
    let (s, bs, ue) := s.smRead (cmem e) a.toNat n
    if ue then .exc s 5 else .done s (f (leNat bs))

/-- A store of `n` bytes at address `a`, or exception 3 or 4. -/
def State.engStore (s : State) (e : Nat) (x : Eng) (a : Word) (n v : Nat) : EngRes :=
  if accessExc a n ≠ 0 then .exc s (accessExc a n) else .done (s.smWrite (cmem e) a.toNat (leBytes n v)) x

/-- HIDX of the hit in hand (R415). -/
def Eng.hidx (x : Eng) : Nat := x.hit.tile * 128 + dfld x.hit.word 63 57

/-- The signed extension of a 16-bit value. -/
abbrev sext16 (n : Nat) : Word := (BitVec.ofNat 16 n).signExtend 32

/-- A load in format B at a + sign-extended immediate (R413). -/
def State.engLoadB (s : State) (e op d a n : Nat) (imm : BitVec 16) (f : Nat → Word) : State :=
  s.engRun e (encB op d a imm) maskAll (fun _ => 2) (fun s x => s.engLoad e (x.g a + simm imm) n (fun v => x.setG d (f v)))

/-- LDW (R413). -/
def execLdw (e : Fin 96) (d a : Fin 32) (imm : BitVec 16) (s : State) : Host.Outcome State Fault Refusal :=
  .next (s.engLoadB e 0x10 d a 4 imm word)

/-- LDH (R413): sign-extended. -/
def execLdh (e : Fin 96) (d a : Fin 32) (imm : BitVec 16) (s : State) : Host.Outcome State Fault Refusal :=
  .next (s.engLoadB e 0x11 d a 2 imm sext16)

/-- LDHU (R413): zero-extended. -/
def execLdhu (e : Fin 96) (d a : Fin 32) (imm : BitVec 16) (s : State) : Host.Outcome State Fault Refusal :=
  .next (s.engLoadB e 0x12 d a 2 imm word)

/-- LDB (R413): zero-extended. -/
def execLdb (e : Fin 96) (d a : Fin 32) (imm : BitVec 16) (s : State) : Host.Outcome State Fault Refusal :=
  .next (s.engLoadB e 0x13 d a 1 imm word)

/-- LDD (R413): a register pair, 8 bytes. -/
def execLdd (e : Fin 96) (d a : Fin 32) (imm : BitVec 16) (s : State) : Host.Outcome State Fault Refusal :=
  .next (s.engRun e (encB 0x14 d a imm) maskAll (fun _ => 3) (fun s x =>
    if pairOk d = false then .exc s 2
    else s.engLoad e (x.g a + simm imm) 8 (fun v => x.setPair d (BitVec.ofNat 64 v))))

/-- LDHX (R413): the signed half-word at a + 2 × HIDX. -/
def execLdhx (e : Fin 96) (d a : Fin 32) (s : State) : Host.Outcome State Fault Refusal :=
  .next (s.engRun e (encA 0x15 d a 0 0) maskDA (fun _ => 2) (fun s x =>
    s.engLoad e (x.g a + word (2 * x.hidx)) 2 (fun v => x.setG d (sext16 v))))

/-- LDWX (R413): the word at a + 4 × HIDX. -/
def execLdwx (e : Fin 96) (d a : Fin 32) (s : State) : Host.Outcome State Fault Refusal :=
  .next (s.engRun e (encA 0x16 d a 0 0) maskDA (fun _ => 2) (fun s x =>
    s.engLoad e (x.g a + word (4 * x.hidx)) 4 (fun v => x.setG d (word v))))

/-- A store in format B at a + sign-extended immediate (R413). -/
def State.engStoreB (s : State) (e op d a n : Nat) (imm : BitVec 16) : State :=
  s.engRun e (encB op d a imm) maskAll (fun _ => 1) (fun s x => s.engStore e x (x.g a + simm imm) n (x.g d).toNat)

/-- STW (R413). -/
def execStw (e : Fin 96) (d a : Fin 32) (imm : BitVec 16) (s : State) : Host.Outcome State Fault Refusal :=
  .next (s.engStoreB e 0x18 d a 4 imm)

/-- STH (R413). -/
def execSth (e : Fin 96) (d a : Fin 32) (imm : BitVec 16) (s : State) : Host.Outcome State Fault Refusal :=
  .next (s.engStoreB e 0x19 d a 2 imm)

/-- STB (R413). -/
def execStb (e : Fin 96) (d a : Fin 32) (imm : BitVec 16) (s : State) : Host.Outcome State Fault Refusal :=
  .next (s.engStoreB e 0x1A d a 1 imm)

/-- STD (R413): a register pair, 8 bytes. -/
def execStd (e : Fin 96) (d a : Fin 32) (imm : BitVec 16) (s : State) : Host.Outcome State Fault Refusal :=
  .next (s.engRun e (encB 0x1B d a imm) maskAll (fun _ => 1) (fun s x =>
    if pairOk d = false then .exc s 2
    else s.engStore e x (x.g a + simm imm) 8 (x.pair d).toNat))

/-- AMOADD (R413, R396): d = the word at a; b is added to that word. -/
def execAmoadd (e : Fin 96) (d a b : Fin 32) (s : State) : Host.Outcome State Fault Refusal :=
  .next (s.engRun e (encA 0x1D d a b 0) maskAll (fun _ => 3) (fun s x =>
    if accessExc (x.g a) 4 ≠ 0 then .exc s (accessExc (x.g a) 4)
    else
      let (s, bs, ue) := s.smRead (cmem e) (x.g a).toNat 4
      if ue then .exc s 5
      else
        let v := word (leNat bs)
        s.engStore e (x.setG d v) (x.g a) 4 (v + x.g b).toNat))

/-- No engine of the cluster runs or waits (R420). -/
def State.clusterStopped (s : State) (n : Nat) : Bool :=
  (List.range 8).all (fun k => decide ((s.engine (8 * n + k)).prog = none))

/-- A load of cluster `n` is refused (R420). An offset that is not a multiple of 4 is refused with them. -/
def State.loadRefused (s : State) (n : Nat) : Bool :=
  let len := s.fld (Reg.eclLoadLen n) 18 0
  let off := s.fld (Reg.eclLoadDst n) 17 0
  let imem := s.flag (Reg.eclLoadDst n) 31
  decide (s.nat (Reg.eclLoadSrc n) % 64 ≠ 0) || decide (len = 0) || decide (len % 4 ≠ 0) || decide (off % 4 ≠ 0)
    || decide ((if imem then 0x4000 else 0x40000) < off + len) || s.flag (Reg.eclLoadCtl n) 31
    || (imem && !s.clusterStopped n)

/-- The load of cluster `n` as it was started. -/
def State.eload (s : State) (n : Nat) : ELoad := sget {} n s.eng.loads

/-- Effect of a write of ECL.LOAD_CTL: a load takes its source, target and length as they stand (R419, R420). -/
def State.loadCtlWrite (s : State) (n : Nat) (v : Word) : State :=
  let k := Reg.eclLoadCtl n
  if v.getLsbD 31 = false then s.plainWrite k v
  else if s.loadRefused n then (s.plainWrite k (setBit v 31 (s.flag k 31))).refuse (Pg.ecl n)
  else
    let l : ELoad := { src := s.rd (Reg.eclLoadSrc n), dst := s.rd (Reg.eclLoadDst n), len := s.rd (Reg.eclLoadLen n) }
    ((s.plainWrite k v).setFlag k 0 false).updEng (fun g => { g with loads := sset {} n l g.loads })

/-- The copy of a load, up to 32 bytes at a time, with fuel for the parts: it stops on an uncorrectable source. The answer
says whether it ran to its end (R419, R421). -/
def State.loadCopy (s : State) (n : Nat) (dsts : List Nat) (code : Nat) : Nat → Nat → Nat → Nat → State × Bool
  | 0, _, _, _ => (s, true)
  | fuel + 1, src, off, len =>
    if len = 0 then (s, true)
    else
      let k := Nat.min len 32
      let (s, bs, ue) := s.memGet (5 + n) src k
      if ue then (s, false)
      else
        let s := dsts.foldl (fun s b => s.smWrite code (b + off) bs) s
        s.loadCopy n dsts code fuel (src + k) (off + k) (len - k)

/-- The load of cluster `n` runs to its end (R419). -/
def State.loadDone (s : State) (n : Nat) : State :=
  let k := Reg.eclLoadCtl n
  if s.flag k 31 = false then s
  else
    let l := s.eload n
    let imem := l.dst.getLsbD 31
    let dsts := if imem = false then [0] else if l.dst.getLsbD 23 then (List.range 8).map (· * 0x4000)
      else [wfld l.dst 26 24 * 0x4000]
    let len := wfld l.len 18 0
    let (s, ok) := s.loadCopy n dsts (if imem then 13 + n else 1 + n) (len / 32 + 1) l.src.toNat (wfld l.dst 17 0) len
    let s := s.setFlag k 31 false
    if ok then (s.setFlag k 0 true).raise (Pg.ecl n) (2 ^ 24)
    else (s.setFlag k 1 true).stick (Pg.ecl n) 0x40000

/-- The memory, the address and whether it lies in that memory, of the word at ECL.MEM_ADDR (R421). -/
def State.memAddr (s : State) (n : Nat) : Nat × Nat × Bool :=
  let k := Reg.eclMemAddr n
  let w := 4 * s.fld k 17 2
  if s.flag k 31 then (13 + n, s.fld k 26 24 * 0x4000 + w, decide (w < 0x4000)) else (1 + n, w, true)

/-- ECL.MEM_ADDR counts on after an access. -/
def State.memNext (s : State) (n : Nat) : State := s.incF (Reg.eclMemAddr n) 17 2

/-- Effect of a write of ECL.MEM_DATA (R420, R421). -/
def State.memDataWrite (s : State) (n : Nat) (v : Word) : State :=
  let (code, a, ok) := s.memAddr n
  if !ok || (s.flag (Reg.eclMemAddr n) 31 && !s.clusterStopped n) then s.refuse (Pg.ecl n)
  else ((s.smWrite code a (leBytes 4 v.toNat)).wr (Reg.eclMemData n) v).memNext n

/-- A read of ECL.MEM_DATA: the word, a free value where it reads uncorrectable or where no word lies (R421). -/
def State.memDataRead (s : State) (n : Nat) : State × Word :=
  let (code, a, ok) := s.memAddr n
  if ok then
    let (s, bs, _) := s.smRead code a 4
    (((s.wr (Reg.eclMemData n) (word (leNat bs))).memNext n), word (leNat bs))
  else
    let w := (Config.freeDWord s.fresh).setWidth 32
    ((s.draw.wr (Reg.eclMemData n) w).memNext n, w)

/-- ENGINE_LOAD (R419, R420). -/
def execEngineLoad (d : Dom) (n : Fin 12) (v : Word) (s : State) : Host.Outcome State Fault Refusal :=
  .next (s.hostWrite d (Reg.eclLoadCtl n) v (fun s => s.loadCtlWrite n v))

/-- ENGINE_LOAD_DONE (R419): the copy waits while the cluster or the memory island has no clock (R40). -/
def execEngineLoadDone (n : Fin 12) (s : State) : Host.Outcome State Fault Refusal :=
  .next (if s.islandLive (5 + n.val) && !s.memStill then s.loadDone n else s)

end Sys2Proof.Machine
end

