-- ==== Sys2Proof/Machine/EngFlow.lean ====
section
/-!
DEFINITION. Branches, units, output, special values and time instructions of the hit engines (R410, R412 to R418).
-/
namespace Sys2Proof.Machine

/-- BR (R412, R413): branch when the condition holds, in 2 cycles; a reserved condition raises exception 1. -/
def execBr (e : Fin 96) (cond : Fin 16) (disp : BitVec 22) (s : State) : Host.Outcome State Fault Refusal :=
  .next (s.engRun e (encC 0x20 cond disp) maskAll (fun x => if condHolds x.fl cond = some true then 2 else 1) (fun s x =>
    match condHolds x.fl cond with
    | some true => .done s { x with pc := branchPc x.pc disp }
    | some false => .done s x
    | none => .exc s 1))

/-- CALL (R413): g31 = PC + 1 and branch. -/
def execCall (e : Fin 96) (disp : BitVec 22) (s : State) : Host.Outcome State Fault Refusal :=
  .next (s.engOp e (encC 0x21 0 disp) maskAll 2 (fun x =>
    { x.setG 31 (word x.pc) with pc := branchPc x.pc disp }))

/-- RET (R413): PC = g31. -/
def execRet (e : Fin 96) (s : State) : Host.Outcome State Fault Refusal :=
  .next (s.engOp e (encA 0x22 0 0 0 0) maskFn 2 (fun x => { x with pc := (x.g 31).toNat % 4096 }))

/-- HITGET (R399, R401, R414). -/
def execHitget (e : Fin 96) (d : Fin 32) (s : State) : Host.Outcome State Fault Refusal := .next (s.engHitget e d)

/-- HITPUT (R408, R413). -/
def execHitput (e : Fin 96) (a b : Fin 32) (s : State) : Host.Outcome State Fault Refusal :=
  .next (s.engRun e (encA 0x30 0 a b 0x001) maskAB (fun _ => 1) (fun s x => s.engSend e x false (x.g b ++ x.g a)))

/-- EMIT (R408, R413, R414): to the destination named by the d field; a reserved one raises exception 1. -/
def execEmit (e : Fin 96) (d a b : Fin 32) (s : State) : Host.Outcome State Fault Refusal :=
  .next (s.engRun e (encA 0x30 d a b 0x002) maskAll (fun _ => 1) (fun s x =>
    if 1 < d.val then .exc s 1 else s.engSend e x (decide (d.val = 1)) (x.g b ++ x.g a)))

/-- The value of MOVS selector `a`, `none` for a reserved one (R415). -/
def Eng.special (x : Eng) (e a : Nat) : Option Word :=
  match a with
  | 0 => some (word x.hidx)
  | 1 => some (word x.frame)
  | 2 => some (word (x.frame / 2 ^ 32 % 2 ^ 16))
  | 3 => some x.hit.ctxA
  | 4 => some x.hit.ctxB
  | 5 => some (word (match x.limit with
    | some l => l - x.used
    | none => 0))
  | 6 => some (word e)
  | 7 => some (word x.mode)
  | 16 => some x.fl.bits
  | _ => if 8 ≤ a ∧ a ≤ 15 then some (x.params.getD (a - 8) 0) else none

/-- MOVS (R415). -/
def execMovs (e : Fin 96) (d a : Fin 32) (s : State) : Host.Outcome State Fault Refusal :=
  .next (s.engRun e (encA 0x30 d a 0 0x003) maskDA (fun _ => 1) (fun s x =>
    match x.special e a with
    | some v => .done s (x.setG d v)
    | none => .exc s 1))

/-- MOVK (R413): d = K. -/
def execMovk (e : Fin 96) (d : Fin 32) (s : State) : Host.Outcome State Fault Refusal :=
  .next (s.engOp e (encA 0x30 d 0 0 0x004) maskD 1 (fun x => x.setG d (if x.fl.k then 1 else 0)))

/-- TFULL (R416): the engine time value of hit pair a. -/
def execTfull (e : Fin 96) (d a : Fin 32) (s : State) : Host.Outcome State Fault Refusal :=
  .next (s.engRun e (encA 0x30 d a 0 0x005) maskDA (fun _ => 1) (fun s x =>
    if pairOk d && pairOk a then .done s (x.setPair d (BitVec.ofNat 64 (fullTime x.frame (x.pair a)))) else .exc s 2))

/-- TSUB (R416, R258): the difference of two time values, with Z, N, V and K. -/
def execTsub (e : Fin 96) (d a b : Fin 32) (s : State) : Host.Outcome State Fault Refusal :=
  .next (s.engRun e (encA 0x30 d a b 0x006) maskAll (fun _ => 1) (fun s x =>
    if pairOk a && pairOk b then
      .done s { x.setG d (tdiff (x.pair a) (x.pair b)).1 with fl := x.fl.setT (x.pair a) (x.pair b) }
    else .exc s 2))

/-- WALK (R417): the walk-corrected T0 of hit pair a, with the constant of its channel at g(b) + 2 × HIDX. -/
def execWalk (e : Fin 96) (d a b : Fin 32) (s : State) : Host.Outcome State Fault Refusal :=
  .next (s.engRun e (encA 0x30 d a b 0x007) maskAll (fun _ => 1) (fun s x =>
    if pairOk a = false then .exc s 2
    else s.engLoad e (x.g b + word (2 * x.hidx)) 2 (fun k =>
      let r := walkT0 (x.pair a) k
      { x.setG d r.1 with fl := x.fl.setK r.2 })))

/-- Whether the neighbour's latest hit lies within `w` bins of the hit in hand (R418). -/
def nearHit (u : EUnit) (ctx w : Word) : Bool :=
  let d : Int := (tleadOf u.word : Int) - ((wfld ctx 23 0 : Int) - (if ctx.getLsbD 30 then 2 ^ 24 else 0))
  ctx.getLsbD 31 && decide (d.natAbs < w.toNat)

/-- NEAR (R418). -/
def execNear (e : Fin 96) (d a b : Fin 32) (s : State) : Host.Outcome State Fault Refusal :=
  .next (s.engRun e (encA 0x30 d a b 0x008) maskAll (fun _ => 1) (fun s x =>
    if 1 < a.val then .exc s 1
    else
      let k := nearHit x.hit (if a.val = 0 then x.hit.ctxA else x.hit.ctxB) (x.g b)
      .done s { x.setG d (if k then 1 else 0) with fl := x.fl.setK k }))

/-- Field `b` of a hit word, `none` for a reserved selector (R415). -/
def hitField (x : Eng) (w : DWord) (b : Nat) : Option Nat :=
  match b with
  | 0 => some (dfld w 63 57)
  | 1 => some (dfld w 56 54)
  | 2 => some (tleadOf w)
  | 3 => some (dfld w 29 18)
  | 4 => some (dfld w 17 2)
  | 5 => some (dfld w 1 0)
  | 6 => some x.hidx
  | 7 => some x.hit.tile
  | _ => none

/-- HFLD (R415): field b of hit pair a. -/
def execHfld (e : Fin 96) (d a b : Fin 32) (s : State) : Host.Outcome State Fault Refusal :=
  .next (s.engRun e (encA 0x30 d a b 0x009) maskAll (fun _ => 1) (fun s x =>
    match hitField x (x.pair a) b with
    | none => .exc s 1
    | some v => if pairOk a then .done s (x.setG d (word v)) else .exc s 2))

/-- FRAME × 65,536 + g(a), with g(a) signed (R410). -/
def Eng.tickOf (x : Eng) (a : Nat) : Nat := unsigned 64 ((x.frame * 65536 : Nat) + (x.g a).toInt)

/-- ACC (R410): an accept from source 4. -/
def execAcc (e : Fin 96) (a : Fin 32) (imm : BitVec 16) (s : State) : Host.Outcome State Fault Refusal :=
  .next (s.engRun e (encB 0x31 0 a imm) maskAI (fun _ => 1) (fun s x =>
    if 256 ≤ imm.toNat then .exc s 1 else .done (s.sendAccept (4 + 8 * (e.val / 8)) (x.tickOf a) imm.toNat) x))

/-- ALRT (R410): a Tail alert from source 4. -/
def execAlrt (e : Fin 96) (a : Fin 32) (imm : BitVec 16) (s : State) : Host.Outcome State Fault Refusal :=
  .next (s.engRun e (encB 0x32 0 a imm) maskAI (fun _ => 1) (fun s x =>
    if 256 ≤ imm.toNat then .exc s 1 else .done (s.sendAlert (4 + 8 * (e.val / 8)) (x.tickOf a) imm.toNat) x))

end Sys2Proof.Machine
end

