-- ==== Sys2Proof/Machine/Dealer.lean ====
section
/-!
DEFINITION. The dispatcher: rotation, neighbour contexts, bypass and frame markers (R386 to R391).
-/
namespace Sys2Proof.Machine

/-- The island that deals words of mode `m` to the engines: INTAKE in Stream and Calibrate, ACQ in Triggered and Hamper. -/
def dealIsland (m : Nat) : Nat := if m = 2 ∨ m = 5 then 2 else 4

/-- A context word for the channel of half a map entry and a word of frame `f` (R391). -/
def State.nbrWord (s : State) (half : Nat) (f : Nat) : Word :=
  if half < 0x8000 then 0
  else
    let (g, lead) := sget (0, 0) (half % 2048) s.eng.latest
    if g = f + 1 then word (2 ^ 31 + lead) else if g = f ∧ 0 < f then word (2 ^ 31 + 2 ^ 30 + lead) else 0

/-- The neighbour context of a word of channel index `c`: with NBR_CTL.EN = 0 every context reads 0 (R391). -/
def State.nbrContext (s : State) (mode c f : Nat) : Word × Word :=
  if s.flag Reg.engNbrCtl 31 = false then (0, 0) else
  let e := (sget (0 : Word) c (sget [] mode s.eng.maps)).toNat
  (s.nbrWord (e / 65536) f, s.nbrWord (e % 65536) f)

/-- The neighbour map is read at the entry of mode `m`: one uncorrectable entry makes every context of the mode invalid
(R391, R507). -/
def State.nbrRead (s : State) (m : Nat) : State :=
  if s.flag Reg.engNbrCtl 31 = false then s.updEng (fun g => { g with maps := sset [] m [] g.maps })
  else
    let base := s.fld Reg.engNbrCtl 9 0 * 65536
    let (s, es, bad) := (List.range 2048).foldl (fun (x : State × List (Nat × Word) × Bool) c =>
      let (s, bs, ue) := x.1.memGet (dealIsland m) (base + 4 * c) 4
      (s, sset 0 c (word (leNat bs)) x.2.1, x.2.2 || ue)) (s, [], false)
    let s := s.updEng (fun g => { g with maps := sset [] m (if bad then [] else es) g.maps })
    if bad then (s.raise Pg.eng 0x10).stick Pg.eng 0x20000 else s

/-- A unit joins an engine's input queue, and a stopped engine starts. -/
def State.engPush (s : State) (e : Nat) (u : EUnit) : State :=
  let x := s.engine e
  (s.putEng e { x with queue := x.queue ++ [u] }).engKick e

/-- A word that finds the queue full bypasses the engine (R388). -/
def State.dealBypass (s : State) (e : Nat) (u : EUnit) : State :=
  let j := engGroup e
  let s := ((s.incSat (Reg.engBypass j)).raise Pg.eng (2 ^ j)).stick Pg.eng 0x10000
  s.outWord ⟨e, u.ev.getD 0, u.frame, 0, u.tile, 3, u.word⟩

/-- A unit arrives at its engine: a word that finds the queue full bypasses it (R388). -/
def State.dealArrive (s : State) (e : Nat) (u : EUnit) : State :=
  if u.marker = false ∧ 512 ≤ (s.engine e).queue.length then s.dealBypass e u else s.engPush e u

/-- A unit crosses to the island of its engine: a sealed crossing loses it (R37), one to a stopped clock holds it (R40). -/
def State.dealSend (s : State) (e : Nat) (u : EUnit) : State :=
  if s.sealedOff (engIsland e) || s.sealedOff (dealIsland u.mode) then s.xferLost (dealIsland u.mode) (engIsland e)
  else if s.fab.stopped.getLsbD (engIsland e) then s.updEng (fun g => { g with cross := g.cross ++ [(e, u)] })
  else s.dealArrive e u

/-- The clock of island `n` returns: what waits on its crossing is delivered in order (R40). -/
def State.dealReturn (s : State) (n : Nat) : State :=
  let hs := s.eng.cross.filter (fun h => decide (engIsland h.1 = n))
  let s := s.updEng (fun g => { g with cross := g.cross.filter (fun h => decide (engIsland h.1 ≠ n)) })
  (hs.foldl (fun s h => s.dealArrive h.1 h.2) s).outDrain

/-- A frame start adds the frame to those whose markers are to be sent (R390), and to those the latency ring holds. -/
def State.dealFrameStart (s : State) (f : Nat) : State :=
  let m := s.modeOf f
  if m < 2 then s
  else
    let s := s.updEng (fun g => { g with
      todo := (List.range 4).foldl (fun t j => sset [] j (sget [] j t ++ [(f, m)]) t) g.todo })
    if m = 3 then (s.updAcq (fun a => { a with frames := a.frames ++ [f] })).showRing else s

/-- The marker of frame `f` of mode `m` is due in group `j`: no word of the frame can follow (R390). -/
def State.markerDue (s : State) (j f m : Nat) : Bool :=
  (sget [] j s.eng.q).all (fun w => !decide (w.mode = m ∧ w.frame ≤ f))
    && (if m = 3 then
          (match s.acq.skip with
            | some g => decide (f ≤ g)
            | none => false)
          || (decide (f + 4 ≤ s.time.frame) && s.intakeClosed f && !s.ringCovers f)
        else if m = 4 then s.hampDone f
        else s.intakeClosed f)

/-- The first marker that is due in group `j`: markers of one mode keep the order of their frames. -/
def State.nextMarker (s : State) (j : Nat) : List (Nat × Nat) → List Nat → Option (Nat × Nat)
  | [], _ => none
  | (f, m) :: r, seen =>
    if m ∉ seen ∧ s.markerDue j f m then some (f, m) else s.nextMarker j r (m :: seen)

/-- The marker of a frame before `f` is due in group `j` in Stream or Calibrate, where it is sent when intake closes its
frame, before any word of the next frame (R283, R390). -/
def State.markerFirst (s : State) (j f : Nat) : Bool :=
  match s.nextMarker j (sget [] j s.eng.todo) [] with
  | none => false
  | some (g, m) => (decide (m = 2) || decide (m = 5)) && decide (g < f)

/-- The dispatcher deals the oldest hit word of group `j` (R386, R388, R391, R422); a dealing island that is stopped or in reset
deals nothing (R38, R40); in Stream and Calibrate a marker that is due goes before the words of later frames (R390). -/
def State.dealWord (s : State) (j : Nat) : State :=
  match sget [] j s.eng.q with
  | [] => s
  | w :: r =>
    if s.markerFirst j w.frame then s else
    let k := sget 0 j s.eng.rot
    let e := engAt j k
    if s.islandLive (dealIsland w.mode) = false then s else
    let c := w.tile * 128 + dfld w.word 63 57
    let seen := decide (dfld w.word 56 54 ≤ 3)
    let ctx := if seen then s.nbrContext w.mode c w.frame else (0, 0)
    let s := s.updEng (fun g => { g with
      q := sset [] j r g.q, rot := sset 0 j ((k + 1) % 24) g.rot
      latest := if seen then sset (0, 0) c (w.frame + 1, tleadOf w.word) g.latest else g.latest })
    let (s, n) := match w.ev with
      | some n => (s, n)
      | none => s.streamEv w.mode w.frame j
    s.dealSend e { mode := w.mode, frame := w.frame, tile := w.tile, word := w.word, ctxA := ctx.1, ctxB := ctx.2,
                   ev := some n }

/-- The dispatcher sends the frame marker that is due to the 24 engines of group `j` (R390); a dealing island
that is stopped or in reset sends nothing (R38, R40). -/
def State.dealMarker (s : State) (j : Nat) : State :=
  match s.nextMarker j (sget [] j s.eng.todo) [] with
  | none => s
  | some (f, m) =>
    if s.islandLive (dealIsland m) = false then s
    else
    let s := s.updEng (fun g => { g with todo := sset [] j ((sget [] j g.todo).erase (f, m)) g.todo })
    let s := if m = 4 then s.hampFrameEnd f else s
    let s := if m = 2 ∨ m = 5 then (s.streamEv m f j).1 else s
    ((List.range 24).foldl (fun s k => s.dealSend (24 * j + k) { marker := true, mode := m, frame := f }) s).outDrain

/-- DISPATCH_WORD (R386). -/
def execDispatchWord (j : Fin 4) (s : State) : Host.Outcome State Fault Refusal := .next (s.dealWord j)

/-- DISPATCH_MARKER (R390). -/
def execDispatchMarker (j : Fin 4) (s : State) : Host.Outcome State Fault Refusal := .next (s.dealMarker j)

end Sys2Proof.Machine
end

