-- ==== Sys2Proof/Machine/Queues.lean ====
section
/-!
DEFINITION. The device-to-host queues (R439 to R454).
-/
namespace Sys2Proof.Machine

/-- Queue `q` beside its registers. -/
def State.dq (s : State) (q : Nat) : DevQ := sget {} q s.que.dev

/-- The state with queue `q` replaced. -/
def State.setDq (s : State) (q : Nat) (x : DevQ) : State := s.updQue (fun a => { a with dev := sset {} q x a.dev })

/-- Granules of queue `q` (R441): 64 to each 4 KiB of SIZE. -/
def State.qGranules (s : State) (q : Nat) : Nat := s.fld (Reg.qdevSize q) 19 0 * 64

/-- Entries of the completion ring of queue `q` (R449). -/
def State.qEntries (s : State) (q : Nat) : Nat := 2 ^ (s.fld (Reg.qdevCtl q) 23 20 + 6)

/-- The queue is enabled. -/
def State.qOn (s : State) (q : Nat) : Bool := s.flag (Reg.qdevCtl q) 0

/-- The queue is of the bulk class (R439). -/
def State.qBulk (s : State) (q : Nat) : Bool := s.flag (Reg.qdevCtl q) 8

/-- The port of queue `q`. -/
def State.qPort (s : State) (q : Nat) : Fin 2 := if s.flag (Reg.qdevCtl q) 16 then 1 else 0

/-- Free granules of the queue, by the consumer block last read (R446). -/
def State.qFree (s : State) (q : Nat) : Nat :=
  match (s.dq q).cons with
  | some (g, _) => (g + 2 ^ 32 - (s.dq q).used % 2 ^ 32) % 2 ^ 32
  | none => 0

/-- Notices written and not yet consumed. -/
def State.qOpen (s : State) (q : Nat) : Nat :=
  match (s.dq q).cons with
  | some (_, d) => ((s.dq q).cplw + 2 ^ 32 - d % 2 ^ 32) % 2 ^ 32
  | none => (s.dq q).cplw

/-- WPTR, CREDIT, STATE and LINK_OFF of queue `q`, and QUE.ENABLED, follow the queue. -/
def State.showQ (s : State) (q : Nat) : State :=
  let on := s.qOn q
  let s := s.wr (Reg.qdevCredit q) (word (s.qFree q % 2 ^ 26))
  let s := s.setF (Reg.qdevStat q) 17 16 (if on then 1 else 0)
  let s := s.setFlag (Reg.qdevStat q) 19 (on && !s.portAnswers (s.qPort q))
  s.setFlag (if q < 32 then Reg.queEnabledLo else Reg.queEnabledHi) (q % 32) on

/-- WPTR, CREDIT, STATE and LINK_OFF of every enabled queue follow the queue. -/
def State.showQueues (s : State) : State := (List.range 64).foldl (fun s q => if s.qOn q then s.showQ q else s) s

/-- LINK_OFF of every enabled queue follows its port: its link is down, or its function is in D3hot (R448). -/
def State.showLinkOff (s : State) : State :=
  (List.range 64).foldl (fun s q =>
    if s.qOn q then s.setFlag (Reg.qdevStat q) 19 (!s.portAnswers (s.qPort q)) else s) s

/-- Queue `q` begins a new epoch (R450). -/
def State.qEpoch (s : State) (q : Nat) : State :=
  let s := s.setF (Reg.qdevStat q) 31 28 (s.fld (Reg.qdevStat q) 31 28 + 1)
  let s := s.setDq q { s.dq q with used := 0, cplw := 0, pseq := 0, wptr2 := 0, used2 := 0, cons := none }
  (s.wr (Reg.qdevWptr q) 0).showQ q

/-- The vector that a port routes interrupt source `n` to, if it does (R112). -/
def State.routeOf (s : State) (p n : Nat) : Option Nat :=
  let k := Reg.irqRoute p (n / 4)
  let b := 8 * (n % 4)
  if s.flag k (b + 7) then some (s.fld k (b + 5) b) else none

/-- The vector is in service (R113). -/
def State.inService (s : State) (p v : Nat) : Bool := s.flag ((if v < 32 then Reg.irqInsvcLo p else Reg.irqInsvcHi p)) (v % 32)

/-- The MSI-X of a port is enabled. -/
def State.msixEn (s : State) (p : Nat) : Bool := (if p = 0 then s.fab.port0 else s.fab.port1).msixEn

/-- The interrupt source of queue `q` pulses: a port takes the pulse when it routes the source, the vector is not in
service and it can send (R113, R115, R453, R721). -/
def State.qPulse (s : State) (q : Nat) : State :=
  let s := s.setDq q { s.dq q with notices := 0, noticeAt := none }
  let ps := (List.range 2).filter (fun p => s.portAnswers p && s.msixEn p &&
    (match s.routeOf p (0xC0 + q) with
      | some v => !s.inService p v
      | none => false))
  { s with fab := { s.fab with pulses := s.fab.pulses ++ ps.map (fun p => (p, q)) } }

/-- A notice has been written: the source pulses when MOD.COUNT are due (R453). -/
def State.qNotice (s : State) (q : Nat) : State :=
  let c := s.fld (Reg.qdevMod q) 15 0
  let x := s.dq q
  let s := s.setDq q { x with notices := x.notices + 1, noticeAt := some (x.noticeAt.getD s.time.up) }
  if 0 < c ∧ c ≤ x.notices + 1 then s.qPulse q else s

/-- A packet for queue `q` is discarded and counted (R446, R448). -/
def State.qDrop (s : State) (q : Nat) : State := (s.incSat (Reg.qdevDrop q)).stick Pg.qdev 0x10000

/-- Granules of a packet with `len` payload bytes (R441). -/
def packetGranules (len : Nat) : Nat := (8 + len + 63) / 64

/-- Granules skipped before a packet of `n` granules (R441). -/
def State.qSkip (s : State) (q n : Nat) : Nat :=
  let w := s.nat (Reg.qdevWptr q)
  if s.qGranules q < w + n then s.qGranules q - w else 0

/-- Credit allows a packet of `n` granules (R446). -/
def State.qRoom (s : State) (q n : Nat) : Bool :=
  s.qOn q && (s.dq q).cons.isSome && decide (n + s.qSkip q n ≤ s.qFree q) && decide (s.qOpen q < s.qEntries q)

/-- Writes a packet's granules into the queue's memory; the answer is the payload length written: a bulk packet ends before
a page that refuses its part (R441, R443, R513). -/
def State.qWrite (s : State) (q off : Nat) (p : Packet) (word1 : Nat → Nat) : State × Nat :=
  let n := p.payload.length
  let bytes := fun (len : Nat) (t : Bool) =>
    leBytes 4 len ++ leBytes 4 (word1 t.toNat) ++ p.payload.take len
      ++ List.replicate (packetGranules n * 64 - 8 - len) 0
  let base := s.fld (Reg.qdevBase q) 20 0 * 4096 + off
  if s.qBulk q then
    let bs := bytes n p.trunc
    let (s, k) := s.dramWrite (bs.length / 2048 + 2) base bs 0
    if k = bs.length then (s, n)
    else if k = 0 then (s, 0)
    else
      let len := Nat.min n (k - 8)
      ((s.dramWrite 2 base (leBytes 4 len ++ leBytes 4 (word1 1)) 0).1, len)
  else (s.smWrite 0 base (bytes n p.trunc), n)

/-- The completion notice with CPLW = `n` (R449). -/
def qNoticeBytes (entries n off len epoch src credit pseq : Nat) (trunc last : Bool) : List Byte :=
  leBytes 8 (len + off * 2 ^ 32) ++ leBytes 8 (packFields [(1, (n / entries + 1) % 2), (4, epoch), (1, trunc.toNat),
    (1, last.toNat), (3, src), (22, credit), (32, pseq)])

/-- The islands beyond the crossings of queue `q`: that of its memory and that of its port. -/
def State.qIslands (s : State) (q : Nat) : List Nat := [if s.qBulk q then 19 else 18, 22 + (s.qPort q).val]

/-- A side of the crossings of queue `q` has no clock, so its packet waits (R40). -/
def State.qStill (s : State) (q : Nat) : Bool := (17 :: s.qIslands q).any (fun i => s.fab.stopped.getLsbD i)

/-- A packet meets a sealed crossing and is lost, counted in QUE.XLOST unless EVB is itself in reset (R37, R39). -/
def State.qLost (s : State) : State := if s.fab.inReset.getLsbD 17 then s else s.incSat Reg.queXlost

/-- A packet is placed with its completion notice (R441, R444, R446, R449), but for a sealed crossing (R37). -/
def State.qPlace (s : State) (q : Nat) (p : Packet) : State :=
  if (17 :: s.qIslands q).any (fun i => s.sealedOff i) then s.qLost else
  let x := s.dq q
  let g := packetGranules p.payload.length
  let k := s.qSkip q g
  let w := if k = 0 then s.nat (Reg.qdevWptr q) else 0
  let epoch := s.fld (Reg.qdevStat q) 31 28
  let (s, len) := s.qWrite q (w * 64) p (fun t =>
    packFields [(4, epoch), (1, t), (1, p.last.toNat), (3, p.src), (23, x.pseq)])
  let trunc := p.trunc || decide (len < p.payload.length)
  let ring := s.rd64 (Reg.qdevCplLo q) + x.cplw % s.qEntries q * 16
  let s := s.emit (.hostWrite (s.qPort q) ring
    (qNoticeBytes (s.qEntries q) x.cplw (w * 64) len epoch p.src (g + k) x.pseq trunc p.last))
  let w' := if w + g = s.qGranules q then 0 else w + g
  let u := (x.used + g + k) % 2 ^ 32
  let s := s.setDq q { s.dq q with
    used := u, used2 := u, wptr2 := w', cplw := (x.cplw + 1) % 2 ^ 32, pseq := (x.pseq + 1) % 2 ^ 32 }
  let s := (s.wr (Reg.qdevWptr q) (word w')).inc (Reg.qdevPackets q)
  let s := s.updQue (fun a => { a with copied := a.copied + g * 64 })
  let s := s.wr Reg.queCopyKib (word (s.que.copied / 1024))
  let s := if p.src = 0 ∧ p.uncounted = false then s.inc Reg.evbEvents else s
  (s.qNotice q).showQ q

/-- The oldest packet that waits for queue `q`. -/
def State.qHead (s : State) (q : Nat) : Option Packet := s.que.packets.find? (fun p => decide (p.queue = q))

/-- A list without its first packet of queue `q`. -/
def dropHead (q : Nat) : List Packet → List Packet
  | [] => []
  | p :: r => if p.queue = q then r else p :: dropHead q r

/-- The state without the oldest packet that waits for queue `q`. -/
def State.qPop (s : State) (q : Nat) : State := s.updQue (fun a => { a with packets := dropHead q a.packets })

/-- The two copies of the write pointer and of USED differ (R452). -/
def State.qMismatch (s : State) (q : Nat) : Bool :=
  decide ((s.dq q).wptr2 ≠ s.nat (Reg.qdevWptr q)) || decide ((s.dq q).used2 ≠ (s.dq q).used)

/-- A packet is too big for its queue (R442). -/
def State.qTooBig (s : State) (q : Nat) (p : Packet) : Bool :=
  s.qOn q && (decide (s.qGranules q < packetGranules p.payload.length) || decide (2 ^ 24 < p.payload.length))

/-- Packet `p`, the oldest of queue `q`, is discarded with TOO_BIG (R442). -/
def State.qBigDrop (s : State) (q : Nat) (p : Packet) : State :=
  (((s.qPop q).evWritten p).setFlag (Reg.qdevStat q) 22 true).raise Pg.qdev 0x8

/-- Queue `q` begins a new epoch, whose update of the copies compares them: a mismatch is shown and counted (R450, R452). -/
def State.qUpdate (s : State) (q : Nat) : State :=
  if s.qMismatch q then
    (((s.qEpoch q).setFlag (Reg.qdevStat q) 23 true).raise Pg.qdev 0x10).incSat Reg.queMismatches
  else s.qEpoch q

/-- A pointer mismatch discards packet `p`, the oldest of queue `q`, ends an extraction whose block waits, and begins a new
epoch (R450, R452, R454). -/
def State.qMismatched (s : State) (q : Nat) (p : Packet) : State :=
  (if p.waits then s.tailXEnd q else (s.qPop q).evWritten p).qUpdate q

/-- The queue can take packet `p` now: credit, a free notice and its port (R446, R448). -/
def State.qTakes (s : State) (q : Nat) (p : Packet) : Bool :=
  s.qRoom q (packetGranules p.payload.length) && s.portAnswers (s.qPort q)

/-- The writer of queue `q` takes its oldest packet (R442, R446, R448, R452). -/
def State.qPacket (s : State) (q : Nat) : State :=
  match s.qHead q with
  | none => s
  | some p =>
    if s.qTooBig q p then s.qBigDrop q p
    else if s.qOn q && s.qMismatch q then s.qMismatched q p
    else if s.qTakes q p then (if s.qStill q then s else ((s.qPop q).qPlace q p).evWritten p)
    else if p.waits && s.qOn q && s.portAnswers (s.qPort q) then s
    else ((s.qPop q).qDrop q).evWritten p

/-- A packet closed with the bytes written so far, whose number is a free value, and TRUNC set (R139, R451). -/
def State.cutPacket (s : State) (p : Packet) : Packet :=
  { p with payload := p.payload.take (Config.freeNat s.fresh % (p.payload.length / 4 + 1) * 4), trunc := true }

/-- The flush of queue `q` takes effect: the packet its writer has in hand, the oldest one that waits, completes on a ring
queue and is cut short on a bulk queue, or when `cut` says so; then a new epoch begins. A packet that is too big is discarded
as ever, and on a mismatch R452 applies and the flush counts as done (R439, R442, R451, R452, R454). -/
def State.qFlush (s : State) (q : Nat) (cut : Bool) : State :=
  let s := match s.qHead q with
    | none => s.qUpdate q
    | some p =>
      if s.qTooBig q p then (s.qBigDrop q p).qUpdate q
      else if s.qMismatch q then s.qMismatched q p
      else if s.qTakes q p then
        (((s.qPop q).draw.qPlace q (if cut || s.qBulk q then s.cutPacket p else p)).evWritten p).qEpoch q
      else (s.tailXEnd q).qEpoch q
  (s.setFlag (Reg.qdevCtl q) 31 false).raise Pg.qdev 0x1

/-- A write of EN = 1 is refused (R440). -/
def State.qRefused (s : State) (q : Nat) (v : Word) : Bool :=
  let n := s.fld (Reg.qdevSize q) 19 0
  let b := s.fld (Reg.qdevBase q) 20 0
  if v.getLsbD 8 then
    decide (s.variant = .s) || decide (n < 256) || decide (524288 < n) || decide (n % 256 ≠ 0) || decide (b % 256 ≠ 0)
      || decide (2 ^ 21 < b + n)
  else decide (n < 1) || decide (256 < n) || decide (12288 < b + n)

/-- Effect of a write of the CTL register of queue `q` (R440, R451). -/
def State.qCtlWrite (s : State) (q : Nat) (v : Word) : State :=
  let k := Reg.qdevCtl q
  let old := s.rd k
  if s.qOn q then
    let m : Word := 0x00F10100
    let s := if v &&& m = old &&& m then s else s.refuse Pg.qdev
    if v.getLsbD 0 = false then
      let s := s.qFlush q false
      (s.setFlag k 0 false).showQ q
    else if v.getLsbD 31 then s.qFlush q false
    else s
  else
    let v := setBit v 31 false
    if v.getLsbD 0 = false then s.plainWrite k v
    else if s.qRefused q v then (s.plainWrite k (setBit v 0 false)).refuse Pg.qdev
    else (s.plainWrite k v).qEpoch q

/-- Effect of a write to another QDEV register: what an enabled queue holds fast is refused (R440). -/
def State.qdevWrite (s : State) (k : Nat) (v : Word) : State :=
  let o := k % 0x1000 - 0x40
  if k % 0x1000 < 0x40 ∨ 0xC40 ≤ k % 0x1000 then s.plainWrite k v
  else
    let q := o / 0x30
    let r := o % 0x30
    if r = 0 then s.qCtlWrite q v
    else if r < 0x1C ∧ s.qOn q ∧ (v ^^^ s.rd k) &&& rwBits k ≠ 0 then s.refuse Pg.qdev
    else s.plainWrite k v

/-- A QDEV page reset disables every queue, a packet in progress being cut short (R454); on an island reset the cells of the
hub's memories stay as they were (R504; log 16). -/
def State.qdevReset (s : State) (island : Bool) : State :=
  (List.range 64).foldl (fun s q =>
    if s.qOn q then
      let t := s.qFlush q true
      let t := if island && !s.qBulk q then { t with mem := s.mem } else t
      (t.setFlag (Reg.qdevCtl q) 0 false).showQ q
    else s) s

/-- The packets that stay at a fatal entry: of each queue the oldest, when the queue can take it, is being written and is cut
short; every other event is discarded. With `all` false only events are cut (R139, R454, R732). -/
def State.qCutAll (s : State) (all : Bool) (seen : List Nat) : List Packet → List Packet
  | [] => []
  | p :: r =>
    let rest := s.qCutAll all (p.queue :: seen) r
    if p.queue ∉ seen ∧ s.qTakes p.queue p ∧ (all ∨ p.src = 0) then
      { s.cutPacket p with ev := none, uncounted := !all } :: rest
    else if p.src = 0 then rest
    else p :: rest

/-- A fatal entry closes each packet being written with TRUNC and discards every other event that waits (R139, R454); an EVB
page reset does so with the packets of events, which are not counted (R732). A packet that is too big is discarded as ever
(R442). -/
def State.qFatal (s : State) (all : Bool) : State :=
  let s := (List.range 64).foldl (fun s q =>
    match s.qHead q with
    | some p => if s.qTooBig q p ∧ (all ∨ p.src = 0) then s.qBigDrop q p else s
    | none => s) s
  s.draw.updQue (fun a => { a with packets := s.qCutAll all [] a.packets })

/-- Free granules or free completion entries of queue `q` are below half of the total (R447). -/
def State.qLow (s : State) (q : Nat) : Bool :=
  decide (2 * s.qFree q < s.qGranules q) || decide (2 * (s.qEntries q - s.qOpen q) < s.qEntries q)

/-- `up` at which the next read of the consumer block of queue `q` is due: POLL.MIN, in 10 ns, after the last one when little is
free, but POLL.MAX, in µs, after it at the latest; the first one at once (R447). -/
def State.qReadDue (s : State) (q : Nat) : Nat :=
  match (s.dq q).readAt with
  | none => s.time.up
  | some u =>
    let late := 2000 * s.fld Reg.quePoll 31 16
    u + (if s.qLow q then Nat.min (20 * s.fld Reg.quePoll 15 0) late else late)

/-- The producer reads the consumer block of queue `q` when the read is due: GRANT, CPL_DONE and byte 8, or a read that failed
(R445, R447, R450). A port without its clock brings none (R40). -/
def State.consRead (s : State) (q : Nat) (ok : Bool) (grant done epoch : Nat) : State :=
  if s.qOn q = false || s.fab.stopped.getLsbD (22 + (s.qPort q).val) then s
  else
    let s := s.elapse (s.qReadDue q)
    let s := (s.setDq q { s.dq q with readAt := some s.time.up }).inc Reg.queConsReads
    let x := s.dq q
    if ok = false ∨ s.portAnswers (s.qPort q) = false then (s.setFlag (Reg.qdevStat q) 20 true).raise Pg.qdev 0x2
    else if epoch ≠ s.fld (Reg.qdevStat q) 31 28 then s
    else if s.qGranules q < (grant + 2 ^ 32 - x.used % 2 ^ 32) % 2 ^ 32 ∨ 2 ^ 31 ≤ (x.cplw + 2 ^ 32 - done % 2 ^ 32) % 2 ^ 32 then
      (s.setFlag (Reg.qdevStat q) 21 true).raise Pg.qdev 0x4
    else (s.setDq q { x with cons := some (grant % 2 ^ 32, done % 2 ^ 32) }).showQ q

/-- QUEUE_ENABLE (R440, R450): a write of CTL with EN = 1. -/
def execQueueEnable (d : Dom) (q : Fin 64) (v : Word) (s : State) : Host.Outcome State Fault Refusal :=
  .next (s.hostWrite d (Reg.qdevCtl q) (setBit v 0 true) (fun s => s.qCtlWrite q (setBit v 0 true)))

/-- QUEUE_DISABLE (R451): a write of CTL with EN = 0. -/
def execQueueDisable (d : Dom) (q : Fin 64) (v : Word) (s : State) : Host.Outcome State Fault Refusal :=
  .next (s.hostWrite d (Reg.qdevCtl q) (setBit v 0 false) (fun s => s.qCtlWrite q (setBit v 0 false)))

/-- QUEUE_FLUSH (R451): a write of CTL with FLUSH = 1. -/
def execQueueFlush (d : Dom) (q : Fin 64) (v : Word) (s : State) : Host.Outcome State Fault Refusal :=
  .next (s.hostWrite d (Reg.qdevCtl q) (setBit v 31 true) (fun s => s.qCtlWrite q (setBit v 31 true)))

/-- QUEUE_PACKET (R446). -/
def execQueuePacket (q : Fin 64) (s : State) : Host.Outcome State Fault Refusal := .next (s.qPacket q)

/-- CONS_BLOCK_READ (R447). -/
def execConsBlockRead (q : Fin 64) (ok : Bool) (grant done : Word) (epoch : Byte) (s : State) :
    Host.Outcome State Fault Refusal :=
  .next (s.consRead q ok grant.toNat done.toNat epoch.toNat)

/-- QUEUE_IRQ_TIMER (R453): MOD.TIMER µs have passed since the first notice after the last pulse. -/
def execQueueIrqTimer (q : Fin 64) (s : State) : Host.Outcome State Fault Refusal :=
  let t := s.fld (Reg.qdevMod q) 31 16
  match (s.dq q).noticeAt with
  | none => .next s
  | some u =>
    if t = 0 ∨ s.fld (Reg.qdevMod q) 15 0 = 0 then .next s else .next ((s.elapse (u + 2000 * t)).qPulse q)

end Sys2Proof.Machine
end

