-- ==== Sys2Proof/Machine/Lanes.lean ====
section
/-!
DEFINITION. The uplink: lane training and confirmation, data groups and their masks, transmission of events, command-class
frames and the trigger-primitive lanes (R461 to R480, R490 to R498).
-/
namespace Sys2Proof.Machine

/-- The state with the lanes' own state changed by `f`. -/
def State.updLane (s : State) (f : LaneSt → LaneSt) : State := { s with lane := f s.lane }

/-- Uplink lane `n` beside its registers. -/
def State.ul (s : State) (n : Nat) : ULane := sget {} n s.lane.lanes

/-- The state with uplink lane `n` changed by `f`. -/
def State.updUl (s : State) (n : Nat) (f : ULane → ULane) : State :=
  s.updLane (fun l => { l with lanes := sset {} n (f (sget {} n l.lanes)) l.lanes })

/-- Data group `g` beside its registers. -/
def State.lg (s : State) (g : Nat) : LGroup := sget {} g s.lane.groups

/-- The state with data group `g` changed by `f`. -/
def State.updLg (s : State) (g : Nat) (f : LGroup → LGroup) : State :=
  s.updLane (fun l => { l with groups := sset {} g (f (sget {} g l.groups)) l.groups })

/-- UTXn.STATE.STATE: 0 OFF, 1 TRAIN, 2 WAIT, 3 UP, 4 PARK, 5 BLIND (R490). -/
def State.ust (s : State) (n : Nat) : Nat := s.fld (Reg.utxState n) 2 0

/-- The lane is in UP or BLIND (R493). -/
def State.laneOn (s : State) (n : Nat) : Bool := decide (s.ust n = 3) || decide (s.ust n = 5)

/-- Uplink lane `n` may be enabled: LANE_EN and the effective GUARD mask (R490, R631). -/
def State.laneAllowed (s : State) (n : Nat) : Bool :=
  s.flag Reg.ulnkLaneEn n && s.flag Reg.guardLanes n && s.flag Reg.guardFLanes n

/-- The lanes of group `g` that are available after the next change (R493, R494). -/
def State.laneAvail (s : State) (g : Nat) : Nat :=
  (List.range 4).foldl (fun m i => if s.laneOn (4 * g + i) && !(s.ul (4 * g + i)).pendOff then m + 2 ^ i else m) 0

/-- GSTAT.ACTIVE of group `g`. -/
def State.gActive (s : State) (g : Nat) : Nat := s.fld Reg.ulnkGstat (4 * g + 3) (4 * g)

/-- GSTAT.NEXT (R471, R472), EVB.STATUS.CLOSED (R435) and the declared degradations of the uplink (R58) follow the
lanes. -/
def State.showGroups (s : State) : State :=
  let s := (List.range 4).foldl (fun s g =>
    let x := s.lg g
    let next := if x.change = some (s.time.frame + 1) then s.laneAvail g else s.gActive g
    let s := s.setF Reg.ulnkGstat (16 + 4 * g + 3) (16 + 4 * g) next
    let s := s.setFlag Reg.evbStatus g ((x.lossy && x.change.isSome) || decide (s.gActive g = 0))
    let want := s.fld Reg.ulnkLaneEn (4 * g + 3) (4 * g)
    let short := (x.lossy && x.change.isSome) || decide (Nat.land want (s.gActive g) ≠ want) ||
      decide (Nat.land want (s.laneAvail g) ≠ want)
    s.setDegraded (16 + g) (s.lane.released && short)) s
  let tp := fun (n : Nat) => s.flag Reg.ulnkLaneEn n && !s.laneOn n
  s.setDegraded 20 (s.lane.released && (tp 16 || tp 17))

/-- The event in transmission on group `g` ends with an ABORT unit (R64, R470). The answer is its priority; none where nothing
is in transmission: the group is paused, or the event at its front has been cut off already. -/
def State.groupCut (s : State) (g : Nat) : State × Option Nat :=
  match (s.lg g).tx with
  | [] => (s, none)
  | v :: r =>
    if v.abort || (s.lg g).paused then (s, none)
    else (s.updLg g (fun x => { x with tx := { v with words := [], abort := true, begun := true } :: r }), some v.prio)

/-- The module learns of a change of the lanes of group `g`; the change point follows from now (R63, R65, R66, R473). -/
def State.groupLearn (s : State) (g : Nat) (lossy : Bool) : State :=
  let f := (s.now + 61440 + 65535) / 65536
  (s.updLg g (fun x => { x with change := some f, lossy := x.lossy || lossy })).showGroups

/-- The module learns of the loss of data lane `n`: the event in transmission is cut off and counted as dropped, and the
group sends IDLE until the change point (R64, R437, R492). -/
def State.laneLoss (s : State) (n : Nat) : State :=
  if 16 ≤ n then s.showGroups
  else
    let g := n / 4
    let s := if (s.gActive g).testBit (n % 4) then
        let (s, p) := s.groupCut g
        let s := s.updLg g (fun x => { x with paused := true })
        match p with
        | some p => s.countEvDrop p Reg.evbLaneDrop 0
        | none => s
      else s
    s.groupLearn g true

/-- Lane `n` enters state `st`. -/
def State.laneEnter (s : State) (n st : Nat) : State :=
  (s.setF (Reg.utxState n) 2 0 st).updUl n (fun l => { l with entAt := s.time.up, misses := 0, dlmAt := none, tpOn := false })

/-- Lane `n` begins attempt `a` with the weights that its preset holds now (R490, R491, R497); leaving UP or BLIND is a loss
(R492). A lane that is to go OFF at its change point still does (R494). -/
def State.laneTrain (s : State) (n a : Nat) : State :=
  let was := s.laneOn n
  let s := (s.laneEnter n 1).updUl n (fun l => { l with attAt := s.time.up, dlm := false })
  let s := ((s.setF (Reg.utxState n) 5 4 a).setFlag (Reg.utxState n) 9 false).inc (Reg.utxTrains n)
  let q := if s.flag (Reg.utxEqCtl n) 8 then 0 else a
  let s := (s.setF (Reg.utxEqCtl n) 1 0 q).updUl n (fun l => { l with eq := s.rd (Reg.utxEq n q) })
  if was then ((s.incSat (Reg.utxLosses n)).raise (Pg.utx n) 2).laneLoss n else s.showGroups

/-- An attempt of lane `n` fails (R490). -/
def State.laneFail (s : State) (n : Nat) : State :=
  let a := s.fld (Reg.utxState n) 5 4
  if a < 3 then s.laneTrain n (a + 1)
  else (((s.laneEnter n 4).raise (Pg.utx n) 4).raise Pg.ulnk 4).showGroups

/-- Data lane `n` has returned (R492). -/
def State.laneReturn (s : State) (n : Nat) : State := if n < 16 then s.groupLearn (n / 4) true else s.showGroups

/-- Lane `n` is confirmed (R490): a move from BLIND changes no striping. -/
def State.laneUp (s : State) (n : Nat) : State :=
  let blind := decide (s.ust n = 5)
  let tp := (s.ul n).tpOn
  let s := (s.laneEnter n 3).raise (Pg.utx n) 1
  if blind then s.updUl n (fun l => { l with tpOn := tp }) else s.laneReturn n

/-- Lane `n` goes OFF; a lane that was available counts as lost when `lost` says so (R490, R494). -/
def State.laneOff (s : State) (n : Nat) (lost : Bool) : State :=
  let was := s.laneOn n
  let s := ((s.laneEnter n 0).setFlag (Reg.utxState n) 9 false).updUl n (fun l => { l with pendOff := false })
  if was && lost then s.laneLoss n else s.showGroups

/-- A lane that is OFF and allowed begins attempt 0 once the lanes are released (R490). -/
def State.laneStart (s : State) (n : Nat) : State :=
  if s.ust n = 0 && s.laneAllowed n && s.lane.released then s.laneTrain n 0 else s

/-- The start-up sequence releases the uplink lanes to training (R490, R639). -/
def State.laneRelease (s : State) : State :=
  let s := s.updLane (fun l => { l with released := true })
  ((List.range 18).foldl (fun s n => s.laneStart n) s).showGroups

/-- Forces lane `n` to TRAIN with attempt 0 (R482, R490, R495); a lane that is OFF stays OFF. -/
def State.laneRetrain (s : State) (n : Nat) : State := if s.ust n = 0 then s else s.laneTrain n 0

/-- The lanes follow a write of ULNK.LANE_EN (R490, R494); a lane that is enabled again before its change point is learned anew
(R473). -/
def State.laneEnWrite (s : State) (v : Word) : State :=
  let old := s.rd Reg.ulnkLaneEn
  let s := s.plainWrite Reg.ulnkLaneEn v
  ((List.range 18).foldl (fun s n =>
    if v.getLsbD n then
      let s := if (s.ul n).pendOff then (s.updUl n (fun l => { l with pendOff := false })).groupLearn (n / 4) false else s
      s.laneStart n
    else if old.getLsbD n = false ∨ s.ust n = 0 then s
    else if n < 16 ∧ s.laneOn n then (s.updUl n (fun l => { l with pendOff := true })).groupLearn (n / 4) false
    else s.laneOff n true) s).showGroups

/-- The lanes follow the effective GUARD mask: a withdrawal takes a lane OFF at once (R490, R494, R631). -/
def State.laneGuard (s : State) : State :=
  (List.range 18).foldl (fun s n =>
    if s.flag Reg.guardLanes n && s.flag Reg.guardFLanes n then s.laneStart n
    else if s.ust n = 0 then s else s.laneOff n true) s

/-- Effect of a write of ULNK.CTL (R463): refused outside Umbra and Idle and while a request is pending. -/
def State.compatWrite (s : State) (v : Word) : State :=
  if v.getLsbD 0 = s.compat then s.plainWrite Reg.ulnkCtl v
  else if 2 ≤ s.modeNow ∨ s.flag Reg.modePend 31 then s.refuse Pg.ulnk
  else
    let s := (s.plainWrite Reg.ulnkCtl v).setDegraded 22 (v.getLsbD 0)
    (List.range 18).foldl (fun s n => s.laneRetrain n) s

/-- Effect of a write to a UTX register (R490, R497). -/
def State.utxWrite (s : State) (n k : Nat) (v : Word) : State :=
  if k = Reg.utxCmd n then if v.getLsbD 0 then s.laneRetrain n else s
  else if Reg.utxEq n 0 ≤ k ∧ k ≤ Reg.utxEq n 3 ∧ 63 < wfld v 21 16 + wfld v 12 8 + wfld v 3 0 then s.refuse (Pg.utx n)
  else s.plainWrite k v

/-- Effect of a write to a ULNK register. -/
def State.ulnkWrite (s : State) (k : Nat) (v : Word) : State :=
  if k = Reg.ulnkCtl then s.compatWrite v else if k = Reg.ulnkLaneEn then s.laneEnWrite v else s.plainWrite k v

/-- A DLM is delivered with LOCKED bit `b` for lane `n` (R490, R491). -/
def State.laneDlm (s : State) (n : Nat) (b : Bool) : State :=
  let s := (s.setFlag (Reg.utxState n) 8 b).updUl n (fun l => { l with dlm := true })
  let l := s.ul n
  match s.ust n with
  | 2 => if b then s.laneUp n else s
  | 3 =>
    if b then s.updUl n (fun l => { l with misses := 0 })
    else if 3 ≤ l.misses then s.laneTrain n 0
    else s.updUl n (fun l => { l with misses := l.misses + 1 })
  | 5 => if b then s.laneUp n else s.updUl n (fun l => { l with dlmAt := some (l.dlmAt.getD s.time.up) })
  | _ => s

/-- A DLM is delivered (R482, R490). -/
def State.dlDlm (s : State) (locked : BitVec 18) : State :=
  let s := s.setF Reg.ulnkDlstat 17 0 locked.toNat
  (List.range 18).foldl (fun s n => s.laneDlm n (locked.getLsbD n)) s

/-- A serialiser or driver fault of lane `n`: a lane in UP trains again (R490). -/
def State.laneFault (s : State) (n : Nat) : State :=
  let s := ((s.raise (Pg.utx n) 8).stick (Pg.utx n) 0x10000).setFlag (Reg.utxState n) 9 false
  if s.ust n = 3 then s.laneTrain n 0 else s

/-- Group `g` stripes over the lanes `m` from now on (R473). -/
def State.groupMask (s : State) (g m : Nat) : State :=
  if m = s.gActive g then s
  else ((s.setF Reg.ulnkGstat (4 * g + 3) (4 * g) m).inc Reg.ulnkRestripes).raise Pg.ulnk 2

/-- Group `g` takes its new mask at its change point (R473, R494). -/
def State.groupChange (s : State) (g : Nat) : State :=
  let off := fun (s : State) (i : Nat) => if (s.ul (4 * g + i)).pendOff then s.laneOff (4 * g + i) false else s
  let s := (List.range 4).foldl off s
  let s := s.updLg g (fun x => { x with change := none, lossy := false, paused := false, told := none })
  (s.groupMask g (s.laneAvail g)).showGroups

/-- At the start of frame `f` a group takes the mask that the last AM before announced, also where a later learning has moved its
change point on (R472, R473). -/
def State.groupsTold (s : State) (f : Nat) : State :=
  ((List.range 4).foldl (fun s g =>
    match (s.lg g).told with
    | some (h, m) => if h = f ∧ (s.lg g).change ≠ some f then s.groupMask g m else s
    | none => s) s).showGroups

/-- Reads the words of an event for its lanes, up to a header word that reads uncorrectable (R507). -/
def State.evLaneWords (s : State) (heads : List Nat) : List Nat → Nat → State × List DWord × Bool
  | [], _ => (s, [], false)
  | p :: r, i =>
    let (s, w, ue) := s.storeGet p
    if ue && decide (i ∈ heads) then (s, [], true)
    else
      let (s, ws, cut) := s.evLaneWords heads r (i + 1)
      (s, w :: ws, cut)

/-- Group `g` begins the transmission of its next admitted event (R437, R469), which crosses from EVB to ULNK: it waits for a
stopped clock and is lost on a sealed crossing (R37, R40). -/
def State.groupSend (s : State) (g : Nat) : State :=
  let x := s.lg g
  match sget [] g s.evb.lanes with
  | [] => s
  | v :: r =>
    if x.paused || decide (s.gActive g = 0) || s.memStill || s.fab.stopped.getLsbD 17 || s.fab.stopped.getLsbD 20 then s
    else if s.sealedOff 17 || s.sealedOff 20 then
      let s := s.updEvb (fun b => { b with lanes := sset [] g r b.lanes })
      (s.wr (Reg.evbGqBytes g) (word (s.nat (Reg.evbGqBytes g) - 8 * v.body.length))).xferLost 17 20
    else
      let (s, ws, cut) := s.evLaneWords v.heads v.body 0
      let s := s.updEvb (fun b => { b with lanes := sset [] g r b.lanes })
      let s := if cut then (s.incSat Reg.seccUeEvents).incSat (Reg.evbDrop v.prio) else s
      s.updLg g (fun x => { x with tx := x.tx ++ [⟨v.evseq, v.prio, 8 * v.body.length, ws, false, cut, v.body⟩] })

/-- The ABORT unit of event `evseq` (R470). -/
def abortUnit (evseq : Nat) : DWord := BitVec.ofNat 64 (packFields [(8, 0x55), (24, 0), (32, evseq)])

/-- The units of a superframe with `cap` unit places, from unit `u` on: kind and word of each, the unit of the first event
header, what stays to be sent, and the queued bytes that have left (R435, R468 to R471). -/
def drainTx : Nat → Nat → List TxEv → List (Nat × DWord) × Option Nat × List TxEv × Nat
  | _, _, [] => ([], none, [], 0)
  | cap, u, v :: r =>
    let n := Nat.min cap v.words.length
    let own := (v.words.take n).map (fun w => ((0 : Nat), w))
    let off := if v.begun || decide (n = 0) then none else some u
    let whole := decide (v.words.length < cap) || (decide (v.words.length = cap) && !v.abort)
    if whole then
      let ab := if v.abort then [((4 : Nat), abortUnit v.evseq)] else []
      let k := n + ab.length
      let (us, o, rest, b) := drainTx (cap - k) (u + k) r
      (own ++ ab ++ us, off.or o, rest, v.bytes + b)
    else (own, off, { v with words := v.words.drop n, begun := v.begun || decide (0 < n) } :: r, 0)

/-- The `k`-th set bit of a 4-bit mask. -/
def nthLane (m k : Nat) : Nat := ((List.range 4).filter (fun i => m.testBit i)).getD k 0

/-- The payload of an alignment marker (R471). -/
def amWord (i g active next f evoff sfc : Nat) : DWord :=
  BitVec.ofNat 64 (packFields [(8, 0x33), (2, i), (2, g), (4, active), (4, next), (4, 0), (16, f), (16, evoff), (8, sfc)])

/-- The lane of group `g` that carries unit `u`, of `k` lanes in the mask `m` (R468). -/
def unitLane (g m k u : Nat) : Nat := 4 * g + nthLane m (u % k)

/-- Data group `g` sends superframe or cycle `sfc` of frame `f`, of `total` blocks (R465, R467 to R472, R475, R479). While it is
paused it sends IDLE, and the ABORT unit of the event cut off on its first lane that is still available (R64, R493). -/
def State.groupFrame (s : State) (f sfc total g : Nat) : State :=
  let x := s.lg g
  let m := s.gActive g
  let k := popCount 4 m
  let native := !s.compat
  let first := if native then 2 else 1
  let free := (List.range k).find? (fun u => s.laneOn (unitLane g m k u))
  let aborts := match x.tx with
    | v :: _ => v.abort && free.isSome
    | [] => false
  let u0 := if x.paused then free.getD 0 else 0
  let cap := if x.paused then aborts.toNat else (total - first) * k
  let (us, off, rest, bytes) := drainTx cap 0 x.tx
  let next := s.fld Reg.ulnkGstat (16 + 4 * g + 3) (16 + 4 * g)
  let s := (List.range 4).foldl (fun s i =>
    let n := 4 * g + i
    if 2 ≤ s.ust n then s.emit (.laneUnit n 0 2 (amWord i g m next f (off.getD 0xFFFF) sfc)) else s) s
  let q := sget [] g s.lane.cc
  let cc := if native then q.take k else []
  let s := (List.range cc.length).foldl (fun s j => s.emit (.laneUnit (4 * g + nthLane m j) 1 3 (cc.getD j 0))) s
  let s := s.updLane (fun l => { l with cc := sset [] g (q.drop cc.length) l.cc })
  let s := (List.range us.length).foldl (fun s u =>
    let w := us.getD u (0, 0)
    s.emit (.laneUnit (unitLane g m k (u0 + u)) (first + (u0 + u) / k) w.1 w.2)) s
  let s := (List.range 4).foldl (fun s i =>
    let n := 4 * g + i
    if 2 ≤ s.ust n then
      let sent := ((List.range us.length).filter (fun u => decide (unitLane g m k (u0 + u) = n))).length
      let hasCc := (List.range cc.length).any (fun j => decide (nthLane m j = i))
      let s := if native && !hasCc then s.emit (.laneIdle n 1 1) else s
      if first + sent < total then s.emit (.laneIdle n (first + sent) (total - first - sent)) else s
    else s) s
  let s := s.updLg g (fun x => { x with
    tx := rest, told := if sfc + 1 = (if native then 117 else 8) then some (f + 1, next) else x.told })
  s.wr (Reg.evbGqBytes g) (word (s.nat (Reg.evbGqBytes g) - bytes))

/-- The next superframe of the data lanes, or cycle in compatibility mode (R467, R477). The last superframe of a frame is cut short
by the next frame's first after 69 or 70 blocks, as the phase of the block boundaries has it, which is open (R730; entry 85). -/
def State.superframe (s : State) : State :=
  let f := s.time.frame
  let k := if s.lane.sfFrame = f then s.lane.sfc else 0
  let native := !s.compat
  if (if native then 117 else 8) ≤ k then s
  else
    let s := s.advanceTo (f * 65536 + k * (if native then 561 else 8192))
    let short := native && decide (k = 116)
    let total := if short then 69 + Config.freeNat s.fresh % 2 else if native then 85 else 512
    let s := if short then s.draw else s
    let s := (List.range 4).foldl (fun s g => s.groupFrame f k total g) s
    s.updLane (fun l => { l with sfFrame := f, sfc := k + 1 })

/-- The payloads of the CC blocks of a frame (R465, R475). -/
def ccBlocks (first : Bool) (fuel : Nat) (bs : List Byte) : List DWord :=
  match fuel with
  | 0 => []
  | n + 1 =>
    let now := bs.take 6
    let rest := bs.drop 6
    BitVec.ofNat 64 (packFields [(8, 0x2D), (1, first.toNat), (1, (decide (rest = [])).toNat), (3, now.length - 1), (3, 0),
      (48, leNat now)]) :: (if rest = [] then [] else ccBlocks false n rest)

/-- A command-class frame is handed to every carrier of R475 (R474). -/
def State.ccSend (s : State) (type : Nat) (content : List Byte) : State :=
  let head := [BitVec.ofNat 8 type, 0] ++ leBytes 2 content.length ++ content
  let bs := head ++ leBytes 4 (crc32c head).toNat
  let blocks := ccBlocks true bs.length bs
  let s := s.emit (.ccFrame type content)
  let via := ((List.range 4).filter (fun g => !s.compat && decide (s.gActive g ≠ 0))) ++ [4]
  s.updLane (fun l => { l with cc := via.foldl (fun m c => sset [] c (sget [] c m ++ blocks) m) l.cc })

/-- A block slot of UTX16 and UTX17: a lane that has nothing to send, or does not carry data, sends IDLE (R318, R466, R476, R479,
R490). -/
def State.tpSlot (s : State) : State :=
  let on := [16, 17].filter (fun n => s.laneOn n)
  let sends := [16, 17].filter (fun n => decide (2 ≤ s.ust n))
  let put := fun (s : State) (ns : List Nat) (k : Nat) (w : DWord) => sends.foldl (fun s n =>
    s.emit (if n ∈ ns then .laneUnit n 0 k w else .laneUnit n 0 1 idleWord)) s
  match s.trig.tpq with
  | (marker, p) :: r =>
    let s := s.updTrig (fun x => { x with tpq := r })
    if marker then
      let s := on.foldl (fun s n => s.updUl n (fun l => { l with tpOn := true })) s
      put s on 5 (BitVec.ofNat 64 (packFields [(8, 0x4B), (8, 0), (48, p)]))
    else
      let s := (s.inc Reg.tpathSent).wr64 Reg.tpathLastLo p
      put s (on.filter (fun n => (s.ul n).tpOn)) 0 (BitVec.ofNat 64 p)
  | [] =>
    let cycle := s.now / 8192
    let align := on.filter (fun n => s.compat && decide ((s.ul n).tpCycle ≤ cycle))
    if align ≠ [] then
      let w := amWord 0 0 0 0 s.time.frame 0xFFFF (cycle % 8)
      let w := (w &&& ~~~(0x00FFF00000000000 : DWord)) ||| (Config.freeDWord s.fresh &&& (0x00FFF00000000000 : DWord))
      align.foldl (fun s n => s.updUl n (fun l => { l with tpCycle := cycle + 1 })) (put s.draw align 2 w)
    else
      match sget [] 4 s.lane.cc with
      | [] => put s [] 1 idleWord
      | w :: r => put (s.updLane (fun l => { l with cc := sset [] 4 r l.cc })) on 3 w

/-- A fatal entry: the event in transmission on each group ends with ABORT, the others are discarded (R139). -/
def State.laneFatal (s : State) : State :=
  (List.range 4).foldl (fun s g =>
    let s := (s.groupCut g).1
    let s := s.updLg g (fun x => { x with tx := ((x.tx.filter (fun v => v.abort)).take 1).map (fun v => { v with bytes := 0 }) })
    (s.updEvb (fun b => { b with lanes := sset [] g [] b.lanes })).wr (Reg.evbGqBytes g) 0) s

/-- The ABORT units of the events that a reset has cut off leave before the lanes are reset (R139, R470). -/
def State.abortSend (s : State) : State :=
  (List.range 4).foldl (fun s g =>
    match (s.lg g).tx with
    | v :: _ =>
      match (List.range 4).find? (fun i => (s.gActive g).testBit i && s.laneOn (4 * g + i)) with
      | some i => if v.abort then s.emit (.laneUnit (4 * g + i) (if s.compat then 1 else 2) 4 (abortUnit v.evseq)) else s
      | none => s
    | [] => s) s

/-- LANE_EVENT_SEND (R437). -/
def execLaneEventSend (g : Fin 4) (s : State) : Host.Outcome State Fault Refusal := .next (s.groupSend g)

/-- UPLINK_SUPERFRAME (R467): an uplink without its clock sends nothing. -/
def execUplinkSuperframe (s : State) : Host.Outcome State Fault Refusal :=
  .next (if s.islandLive 20 then s.superframe else s)

/-- TP_BLOCK_SEND (R476): an uplink without its clock sends nothing. -/
def execTpBlockSend (s : State) : Host.Outcome State Fault Refusal :=
  .next (if s.islandLive 20 then s.tpSlot else s)

/-- LANE_EN_WRITE (R490, R494). -/
def execLaneEnWrite (d : Dom) (v : Word) (s : State) : Host.Outcome State Fault Refusal :=
  .next (s.hostWrite d Reg.ulnkLaneEn v (fun s => s.laneEnWrite v))

/-- COMPAT_WRITE (R463). -/
def execCompatWrite (d : Dom) (v : Word) (s : State) : Host.Outcome State Fault Refusal :=
  .next (s.hostWrite d Reg.ulnkCtl v (fun s => s.compatWrite v))

/-- UTX_CMD_RETRAIN (R490, R495): a write of UTXn.CMD. -/
def execUtxCmdRetrain (d : Dom) (n : Fin 18) (v : Word) (s : State) : Host.Outcome State Fault Refusal :=
  .next (s.hostWrite d (Reg.utxCmd n) v (fun s => s.utxWrite n (Reg.utxCmd n) v))

/-- UTX_SERIALISER_LOCK (R490). -/
def execUtxSerialiserLock (n : Fin 18) (s : State) : Host.Outcome State Fault Refusal :=
  if s.ust n = 1 then .next (((s.laneEnter n 2).setFlag (Reg.utxState n) 9 true).showGroups) else .next s

/-- UTX_TRAIN_TIMEOUT (R490): 1 ms in TRAIN. -/
def execUtxTrainTimeout (n : Fin 18) (s : State) : Host.Outcome State Fault Refusal :=
  if s.ust n = 1 then
    let s := s.elapse ((s.ul n).attAt + 2000000)
    .next (((s.raise (Pg.utx n) 8).stick (Pg.utx n) 0x10000).laneFail n)
  else .next s

/-- UTX_WAIT_TIMEOUT (R490): 100 ms since the attempt began. -/
def execUtxWaitTimeout (n : Fin 18) (s : State) : Host.Outcome State Fault Refusal :=
  if s.ust n = 2 then
    let s := s.elapse ((s.ul n).attAt + 200000000)
    if (s.ul n).dlm || !s.flag Reg.ulnkBlindPolicy 0 then .next (s.laneFail n)
    else .next (((s.laneEnter n 5).raise Pg.ulnk 8).laneReturn n)
  else .next s

/-- UTX_PARK_RETRY (R490): 1 s in PARK. -/
def execUtxParkRetry (n : Fin 18) (s : State) : Host.Outcome State Fault Refusal :=
  if s.ust n = 4 then .next ((s.elapse ((s.ul n).entAt + 2000000000)).laneTrain n 3) else .next s

/-- UTX_BLIND_TIMEOUT (R490): 100 ms of delivered DLMs without the bit. -/
def execUtxBlindTimeout (n : Fin 18) (s : State) : Host.Outcome State Fault Refusal :=
  match s.ust n, (s.ul n).dlmAt with
  | 5, some u => .next ((s.elapse (u + 200000000)).laneTrain n 0)
  | _, _ => .next s

/-- UTX_TX_FAULT (R490). -/
def execUtxTxFault (n : Fin 18) (s : State) : Host.Outcome State Fault Refusal := .next (s.laneFault n)

/-- GROUP_RESTRIPE (R473): the change point of group `g`. -/
def execGroupRestripe (g : Fin 4) (s : State) : Host.Outcome State Fault Refusal :=
  match (s.lg g).change with
  | none => .next s
  | some f => .next ((s.advanceTo (f * 65536)).groupChange g)

end Sys2Proof.Machine
end

