-- ==== Sys2Proof/Machine/Slow.lean ====
section
/-!
DEFINITION. Slow control: converters, excitation, open-wire diagnosis, windows, cross-check, blanking and the DMA ring (R534
to R565).
-/
namespace Sys2Proof.Machine

/-- The state with slow control's own state changed by `f`. -/
def State.updSlow (s : State) (f : SlowSt → SlowSt) : State := { s with slow := f s.slow }

/-- STATUS.SETTLING of a channel is read from the span in force (R546). -/
def State.slowSettling (s : State) (n : Nat) : Bool := decide (s.time.up < (sget {} n s.slow.chans).settle)

/-- Converter `c` beside its registers. -/
def State.conv (s : State) (c : Nat) : SlowConv := sget {} c s.slow.convs

/-- The state with converter `c` replaced; STATUS.BUSY follows it. -/
def State.setConv (s : State) (c : Nat) (x : SlowConv) : State :=
  (s.updSlow (fun a => { a with convs := sset {} c x a.convs })).setFlag Reg.slowStatusA c x.busy

/-- Channel `n` beside its registers. -/
def State.sch (s : State) (n : Nat) : SlowChan := sget {} n s.slow.chans

/-- The state with channel `n` replaced. -/
def State.setSch (s : State) (n : Nat) (x : SlowChan) : State :=
  s.updSlow (fun a => { a with chans := sset {} n x a.chans })

/-- Output period and settling length of converter `c`, in ticks and periods (R539). -/
def State.convTc (s : State) (c : Nat) : Nat × Nat :=
  let k := Reg.slowConv c
  match s.fld k 21 20 with
  | 1 => (40000000, 1)
  | 2 => (33333500, 1)
  | _ => (s.fld k 18 0 * 500, 3)

/-- Positive and negative input codes of a channel (R534). -/
def State.posNeg (s : State) (n : Nat) : Nat × Nat := (s.fld (Reg.slowCfg n) 5 0, s.fld (Reg.slowCfg n) 13 8)

/-- The excitation output a channel is bound to (R537). -/
def State.boundTo (s : State) (n : Nat) : Option Nat :=
  let r := s.fld (Reg.slowCfg n) 19 16
  if (s.posNeg n).1 ≤ 24 ∧ 1 ≤ r ∧ r ≤ 8 then some (r - 1) else none

/-- The channel is diagnosed (R549). -/
def State.diagnosed (s : State) (n : Nat) : Bool :=
  let p := s.posNeg n
  (decide (p.1 ≤ 23) || decide (p.2 ≤ 23)) && !s.flag (Reg.slowCfg n) 30

/-- Result `i` of channel `n` is diagnostic (R549). -/
def State.diagAt (s : State) (n i : Nat) : Bool := s.diagnosed n && decide (i % 16 = 15)

/-- The next conversion of converter `c` is a settled one (R540). -/
def State.settled (s : State) (c : Nat) : Bool :=
  let k := Reg.slowConv c
  let n := 16 * c + (s.conv c).pos
  let i := (s.sch n).count
  decide (1 < s.fld k 28 24) || s.flag k 30 || s.diagAt n i || (decide (0 < i) && s.diagAt n (i - 1))

/-- A conversion of converter `c` begins, or begins again, at `u` (R540, R546). `anew` says that its filter restarts. -/
def State.convBegin (s : State) (c u : Nat) (anew mark : Bool) : State :=
  let (tc, sl) := s.convTc c
  let x := s.conv c
  let set := s.settled c
  let due := if set then u + 4000 + sl * tc else u + tc
  let win := due - sl * tc
  let from' := if set then u + 4000 else if anew then Nat.max win u else Nat.max win x.from'
  s.setConv c { x with
    busy := true, from' := from', due := due, mark := mark, waits := s.slow.pauseAt.isSome
    held := if s.slow.pauseAt.isSome then some u else none }

/-- A pass of converter `c` begins at `u` (R541). -/
def State.passBegin (s : State) (c u : Nat) : State :=
  (s.setConv c { s.conv c with pos := 0, paused := none }).convBegin c u true false

/-- Codes of the sequence of converter `c` that R536 refuses. -/
def State.convRefused (s : State) (c len : Nat) : Bool :=
  let mine := (List.range len).map (fun i => 16 * c + i)
  let o := 1 - c
  let other := if s.flag (Reg.slowConv o) 31 then (List.range (s.fld (Reg.slowConv o) 28 24)).map (fun i => 16 * o + i) else []
  let ext := fun (ns : List Nat) => ns.flatMap (fun n => [(s.posNeg n).1, (s.posNeg n).2].filter (fun q => decide (q ≤ 23)))
  mine.any (fun n =>
    let p := s.posNeg n
    (decide (27 ≤ p.1) && decide (p.1 ≤ 31)) || decide (p.1 = 55)
      || !(decide (p.2 ≤ 23) || decide (p.2 = 31)) || (decide (25 ≤ p.1) && decide (p.2 ≠ 31)))
    || (ext mine).any (fun q => decide (q ∈ ext other))

/-- STATUS.ACTIVE of the channels of converter `c` follows its sequence. -/
def State.showActive (s : State) (c : Nat) : State :=
  let len := if s.flag (Reg.slowConv c) 31 then s.fld (Reg.slowConv c) 28 24 else 0
  (List.range 16).foldl (fun s i => s.setFlag (Reg.slowStatus (16 * c + i)) 0 (decide (i < len))) s

/-- Effect of a write of CONV_A or CONV_B (R536, R541, R543, R544). -/
def State.convWrite (s : State) (c : Nat) (v : Word) : State :=
  let k := Reg.slowConv c
  if s.flag k 31 then
    let rest : Word := 0x7FFFFFFF
    let s := if (v ^^^ s.rd k) &&& rest &&& 0x5F37FFFF = 0 then s else s.refuse Pg.slow
    if v.getLsbD 31 then s
    else ((s.setFlag k 31 false).setConv c {}).showActive c
  else
    let s := s.plainWrite k (setBit v 31 false)
    if v.getLsbD 31 = false then s
    else if s.convRefused c (s.fld k 28 24) then s.refuse Pg.slow
    else
      let s := s.setFlag k 31 true
      let s := (List.range 16).foldl (fun s i =>
        let n := 16 * c + i
        let x := s.sch n
        let s := s.setSch n { x with count := 0, afresh := true, lows := 0, highs := 0, ins := 0 }
        (s.wr (Reg.slowIndex n) 0).wr (Reg.slowGoodDiag n) 0xFFFFFFFF) s
      let s := (s.setConv c {}).showActive c
      if s.flag k 30 then s else s.passBegin c s.time.up

/-- Effect of a write to a SLOW register. -/
def State.slowWrite (s : State) (k : Nat) (v : Word) : State :=
  if k = Reg.slowConv 0 then s.convWrite 0 v
  else if k = Reg.slowConv 1 then s.convWrite 1 v
  else if k < Reg.slowConv 0 ∧ Reg.slowCfg 0 ≤ k ∧ (k - Reg.slowCfg 0) % 0x20 = 0 then
    let n := (k - Reg.slowCfg 0) / 0x20
    if s.flag (Reg.slowConv (n / 16)) 31 && (v ^^^ s.rd k) &&& 0xC70F3F3F != 0 then s.refuse Pg.slow else s.plainWrite k v
  else if k = Reg.slowDmaCtl ∧ s.flag k 31 then
    let s := if (v ^^^ s.rd k) &&& 0x4001001F = 0 then s else s.refuse Pg.slow
    s.setFlag k 31 (v.getLsbD 31)
  else s.plainWrite k v

/-- A record joins those that wait for the DMA ring (R559). -/
def State.slowRec (s : State) (ws : List Nat) : State :=
  if s.flag Reg.slowDmaCtl 31 then s.updSlow (fun a => { a with recs := a.recs ++ [ws.map (BitVec.ofNat 64)] }) else s

/-- A status record (R563). -/
def State.statusRec (s : State) (ch event index first last : Nat) : State :=
  s.slowRec [packFields [(4, 1), (5, ch), (7, 0), (8, event), (8, 0), (32, index)], s.now,
    first % 2 ^ 32 * 2 ^ 32 + last % 2 ^ 32]

/-- WSTATE of a channel: 0 IN, 1 LOW, 2 HIGH, 3 OPEN. -/
def State.wstate (s : State) (n : Nat) : Nat := s.fld (Reg.slowStatus n) 17 16

/-- The window state of channel `n` becomes `w`; a change is signalled when WIN_IRQ says so (R554). -/
def State.setWstate (s : State) (n w : Nat) : State :=
  let was := s.wstate n
  let s := s.setF (Reg.slowStatus n) 17 16 w
  if was ≠ w ∧ s.flag (Reg.slowWcfg n) 31 then s.raise Pg.slow 0x4 else s

/-- The comparator of channel `n` takes an eligible result (R554). -/
def State.window (s : State) (n : Nat) (r : Int) : State :=
  let lo := signed 16 (s.fld (Reg.slowWin n) 15 0)
  let hi := signed 16 (s.fld (Reg.slowWin n) 31 16)
  let cnt := s.fld (Reg.slowWcfg n) 27 24
  let hyst : Int := (s.fld (Reg.slowWcfg n) 11 0 : Nat)
  let x := s.sch n
  let clear := { x with afresh := false, lows := 0, highs := 0, ins := 0 }
  let count := fun (s : State) (y : SlowChan) (k w : Nat) =>
    if cnt ≤ k then (s.setSch n clear).setWstate n w else s.setSch n y
  match s.wstate n with
  | 3 => s
  | w =>
    if x.afresh then (s.setSch n clear).setWstate n (if r < lo then 1 else if hi < r then 2 else 0)
    else if w = 0 then
      if r < lo then count s { clear with lows := x.lows + 1 } (x.lows + 1) 1
      else if hi < r then count s { clear with highs := x.highs + 1 } (x.highs + 1) 2
      else s.setSch n clear
    else if w = 1 then
      if lo + hyst ≤ r ∨ hi < r then count s { clear with ins := x.ins + 1 } (x.ins + 1) 0 else s.setSch n clear
    else
      if r ≤ hi - hyst ∨ r < lo then count s { clear with ins := x.ins + 1 } (x.ins + 1) 0 else s.setSch n clear

/-- A diagnostic result `r` of channel `n` passes (R550). -/
def State.diagPasses (s : State) (n : Nat) (r : Int) (sat : Bool) : Bool :=
  !sat && (s.sch n).clean.any (fun c => decide ((r - c).natAbs ≤ s.fld (Reg.slowOwdelta n) 15 0))

/-- A diagnostic result of channel `n` is judged (R550, R551, R553, R554): leaving OPEN is a change of the window state. -/
def State.diagnose (s : State) (n index : Nat) (r : Int) (sat : Bool) : State :=
  let x := s.sch n
  if s.diagPasses n r sat then
    let was := s.wstate n
    let s := s.wr (Reg.slowGoodDiag n) (word index)
    if was = 3 then
      let s := (s.setWstate n 0).setFlag (Reg.slowStatus n) 2 false
      let s := (s.setFlag Reg.slowOpenmap n false).setSch n { x with afresh := true, lows := 0, highs := 0, ins := 0 }
      (s.statusRec n 2 index 0 0).raise Pg.slow 0x2
    else s
  else
    let s := (s.setF (Reg.slowStatus n) 17 16 3).setF (Reg.slowStatus n) 3 2 3
    let s := s.setFlag Reg.slowOpenmap n true
    let s := s.statusRec n 1 index (s.nat (Reg.slowGoodDiag n) + 1) (index + 2 ^ 32 - 1)
    (s.raise Pg.slow 0x1).stick Pg.slow 0x80000

/-- The cross-check of an eligible XCHK result of converter `c` (R555, R556). -/
def State.crossCheck (s : State) (c n index : Nat) (r : Int) : State :=
  let g := s.fld (Reg.slowCfg n) 26 24
  let f := s.fld (Reg.slowCfg n) 19 16
  let age := s.fld Reg.slowXchkCfg 31 16 * 2000000
  let lim := s.fld Reg.slowXchkCfg 15 12
  let keep := fun (s : State) => s.updSlow (fun a => { a with xlast := sins c ⟨r, index, s.time.up, g, f⟩ a.xlast })
  match (s.slow.xlast.find? (fun e => decide (e.1 = 1 - c))).map (fun e => e.2) with
  | none => keep s
  | some o =>
    let cfg := decide (o.gain ≠ g) || decide (o.ref ≠ f)
    let s := keep (s.setFlag Reg.slowStatusA 4 cfg)
    if cfg || decide (o.at' + age < s.time.up) then s
    else if s.fld Reg.slowXchkCfg 11 0 < (r - o.result).natAbs then
      let s := s.updSlow (fun a => { a with xfails := a.xfails + 1, xpasses := 0 })
      let s := ((s.incSat Reg.slowXchkFail).raise Pg.slow 0x8).stick Pg.slow 0x40000
      let s := s.statusRec n 3 index (unsigned 16 o.result * 65536 + unsigned 16 r) o.index
      if lim ≤ s.slow.xfails then s.setFlag Reg.slowStatusA 3 true else s
    else
      let s := s.updSlow (fun a => { a with xpasses := a.xpasses + 1, xfails := 0 })
      if lim ≤ s.slow.xpasses then s.setFlag Reg.slowStatusA 3 false else s

/-- The result of channel `n` (R537): (V_POS − V_NEG) × 2^GAIN / V_REF × 32,768, clipped; internal sources take the internal
reference of 1.250 V and GAIN 0. Where the quotient is no whole number, which neighbour the converter delivers is a free value,
as is the result against a reference of 0 V (entry 87). -/
def State.convCode (s : State) (n : Nat) (x : ConvIn) : State × Int :=
  let ext := decide ((s.posNeg n).1 ≤ 24)
  let vref : Int := if (s.boundTo n).isSome then (x.ref : Int) else 1250000000
  let num := x.diff * ((2 ^ (if ext then s.fld (Reg.slowCfg n) 26 24 else 0) * 32768 : Nat) : Int)
  let free := Config.freeNat s.fresh
  let v : Int := if vref = 0 then signed 16 (free % 65536)
    else num / vref + (if num % vref = 0 then 0 else ((free % 2 : Nat) : Int))
  (s.draw, satSigned 16 v)

/-- The result of the conversion in progress of converter `c` (R537, R540, R544, R546 to R562). -/
def State.convResult (s : State) (c : Nat) (inp : ConvIn) (ovl : Bool) : State :=
  let x := s.conv c
  if x.busy = false ∨ x.held.isSome then s
  else
    let s := s.elapse x.due
    let n := 16 * c + x.pos
    let y := s.sch n
    let absent := decide (s.variant = .s) && decide ((s.posNeg n).1 = 26)
    let (s, code) := s.convCode n inp
    let r : Int := if absent then 0 else code
    let sat := ovl || decide (r = 32767) || decide (r = -32768)
    let index := y.count % 2 ^ 32
    let diag := s.diagAt n index
    let settling := x.mark || decide (x.due ≤ y.settle)
    let off := match s.boundTo n with
      | some k => !s.flag Reg.excCtl k
      | none => false
    let blanked := match x.paused with
      | some e => decide (x.from' < e)
      | none => false
    let ok := !diag && !settling && !off
    let s := s.setSch n { y with count := y.count + 1, clean := if ok then some r else y.clean }
    let s := s.wr (Reg.slowIndex n) (word index)
    let s := if diag then s else s.wr (Reg.slowLast n) (word (packFields [(16, unsigned 16 r), (8, 0), (1, 1), (2, 0),
      (1, settling.toNat), (1, blanked.toNat), (1, off.toNat), (1, sat.toNat), (1, 0)]))
    let s := if ok then s.window n r else s
    let w := if diag && !settling && s.diagPasses n r sat && decide (s.wstate n = 3) then 0 else s.wstate n
    let s := if s.flag (Reg.slowCfg n) 31 then
        s.slowRec [packFields [(4, 0), (5, n), (1, settling.toNat), (1, diag.toNat), (1, blanked.toNat), (1, off.toNat),
          (1, sat.toNat), (2, w), (16, unsigned 16 r), (32, index)], s.now, s.time.xacc / 2 ^ 32]
      else s
    let s := if diag && !settling then s.diagnose n index r sat else s
    let s := if ok && decide ((s.posNeg n).1 = 24) then s.crossCheck c n index r else s
    let z := s.conv c
    let last := decide (s.fld (Reg.slowConv c) 28 24 ≤ z.pos + 1)
    if last && s.flag (Reg.slowConv c) 30 then
      let s := s.setConv c { z with busy := false, pos := 0, mark := false, again := none }
      match z.again with
      | some u => s.passBegin c (Nat.max u x.due)
      | none => s
    else (s.setConv c { z with pos := if last then 0 else z.pos + 1 }).convBegin c x.due false false

/-- The filters of the channels whose number satisfies `hit` restart at now: each conversion in progress begins again, and
SETTLING is due until S × Tc later (R546, R558). -/
def State.restartChans (s : State) (hit : Nat → Bool) : State :=
  let u := s.time.up
  (List.range 2).foldl (fun s c =>
    let (tc, sl) := s.convTc c
    let ns := ((List.range 16).map (fun i => 16 * c + i)).filter hit
    let s := ns.foldl (fun s n =>
      s.setSch n { s.sch n with settle := u + sl * tc }) s
    let x := s.conv c
    if x.busy && hit (16 * c + x.pos) then s.convBegin c u true true else s) s

/-- The outputs of mask `m` change: the channels bound to them restart, at the end of a pause when one is in force (R546,
R564). -/
def State.excChange (s : State) (m : Nat) : State :=
  if m = 0 then s
  else if s.slow.pauseAt.isSome then s.updSlow (fun a => { a with changed := Nat.lor a.changed m })
  else s.restartChans (fun n => match s.boundTo n with
    | some k => m.testBit k
    | none => false)

/-- Effect of a write of EXC.CTL (R545, R546). -/
def State.excWrite (s : State) (v : Word) : State :=
  let old := s.fld Reg.excCtl 7 0
  let s := s.plainWrite Reg.excCtl v
  let new := s.fld Reg.excCtl 7 0
  let m := Nat.xor old new
  let s := (s.incBy Reg.excChanges (popCount 8 m)).setF Reg.excStatus 7 0 new
  s.excChange m

/-- The modulators pause (R557). -/
def State.slowPause (s : State) : State :=
  if s.slow.pauseAt.isSome then s
  else
    let u := s.time.up
    let s := s.updSlow (fun a => { a with pauseAt := some u })
    let s := (s.setFlag Reg.slowStatusA 2 true).incFSat Reg.slowBlanks 15 0
    (List.range 2).foldl (fun s c => if (s.conv c).busy then s.setConv c { s.conv c with held := some u } else s) s

/-- The pause ends: conversions resume, or restart after more than 1 ms (R557, R558, R564). -/
def State.slowResume (s : State) : State :=
  match s.slow.pauseAt with
  | none => s
  | some p =>
    let u := s.time.up
    let m := s.slow.changed
    let waited := (List.range 2).filter (fun c => (s.conv c).waits)
    let s := (s.updSlow (fun a => { a with pauseAt := none, changed := 0 })).setFlag Reg.slowStatusA 2 false
    let s := (List.range 2).foldl (fun s c =>
      let x := s.conv c
      match x.held with
      | none => s
      | some h =>
        if x.waits then (s.setConv c { x with held := none, waits := false }).passBegin c u else
        let from' := if h < x.from' then x.from' + (u - h) else x.from'
        s.setConv c { x with due := x.due + (u - h), from' := from', held := none, paused := some u }) s
    if p + 2000000 < u then
      let s := (s.incFSat Reg.slowBlanks 31 16).raise Pg.slow 0x40
      let act := (List.range 2).filterMap (fun c =>
        if (s.conv c).busy && !waited.contains c then some (16 * c + (s.conv c).pos) else none)
      s.restartChans (fun n => decide (n ∈ act) || (match s.boundTo n with
        | some k => m.testBit k
        | none => false))
    else s.excChange m

/-- The pause follows BLANK_EN and BLANK_N (R557). -/
def State.blankCheck (s : State) : State :=
  if s.flag Reg.slowCtl 0 && s.slow.blankLow then s.slowPause else s.slowResume

/-- The oldest firing of action `code` on its way to its block, once its crossing delivers (R40, R178, R179). -/
def State.takeAct (s : State) (code : Nat) : Option (State × TimeAct) :=
  match (if s.crosses 0 (actIsland code) then s.time.acts.find? (fun a => decide (a.code = code)) else none) with
  | none => none
  | some a => some ({ s with time := { s.time with acts := s.time.acts.erase a } }, a)

/-- A firing whose action is not performed (R180). -/
def State.notDone (s : State) (i : Nat) : State := s.setFlag (Reg.timeCmpStat i) 2 true

/-- The pass in progress of converter `c` ends in the SLOW clock period (20 ticks) of now, or has ended (R564). -/
def State.passEnds (s : State) (c : Nat) : Bool :=
  let x := s.conv c
  x.held.isNone && decide (s.fld (Reg.slowConv c) 28 24 ≤ x.pos + 1) && decide (x.due / 20 ≤ s.time.up / 20)

/-- A trigger of converter `c` by firing `a` (R541, R542): a pass begins at most 274 ns after the target tick, when within them is
a free value. One in the clock period in which a pass ends starts the next pass (R564). -/
def State.convTrigger (s : State) (c : Nat) (a : TimeAct) : State :=
  let k := Reg.slowConv c
  let u := a.fired + Config.freeNat s.fresh % (549 - Nat.min a.late 548)
  if !s.flag k 31 || !s.flag k 30 then s.notDone a.unit
  else if (s.conv c).busy then
    if s.passEnds c && (s.conv c).again.isNone then s.draw.setConv c { s.conv c with again := some u }
    else (s.incSat Reg.slowTrigMiss).raise Pg.slow 0x20
  else s.draw.passBegin c u

/-- The oldest record is written to the DMA ring, or discarded (R559 to R561). `ok` is the outcome of the host write. -/
def State.recWrite (s : State) (ok : Bool) : State :=
  match s.slow.recs with
  | [] => s
  | ws :: r =>
    let q := if s.slow.rseq = 4294967295 then 1 else s.slow.rseq + 1
    let s := s.updSlow (fun a => { a with recs := r, rseq := q })
    let a := s.rd64 Reg.slowDmaBaseLo + q % 2 ^ s.fld Reg.slowDmaCtl 4 0 * 32
    let bs := (ws.map (fun w => w.toNat) ++ [q]).flatMap (leBytes 8)
    let sram := s.flag Reg.slowDmaCtl 30
    let p : Fin 2 := if s.flag Reg.slowDmaCtl 16 then 1 else 0
    if sram && decide (a + 32 ≤ memSize 0) then (s.memPut 27 a bs).wr Reg.slowDmaHead (word q)
    else if !sram && ok && s.portAnswers p then (s.emit (.hostWrite p a bs)).wr Reg.slowDmaHead (word q)
    else ((s.incSat Reg.slowDmaDrop).raise Pg.slow 0x10).stick Pg.slow 0x20000

/-- A SLOW page reset or a reset of island 27 (R565); BLANK_N keeps its level. -/
def State.slowReset (s : State) : State := s.updSlow (fun a => { blankLow := a.blankLow })

/-- CONVERTER_ENABLE (R536): a write of CONV_A or CONV_B with EN = 1. -/
def execConverterEnable (d : Dom) (c : Fin 2) (v : Word) (s : State) : Host.Outcome State Fault Refusal :=
  .next (s.hostWrite d (Reg.slowConv c) (setBit v 31 true) (fun s => s.convWrite c (setBit v 31 true)))

/-- CONVERTER_TRIGGER (R542): a compare with ACTION 2 reaches the SLOW island. -/
def execConverterTrigger (s : State) : Host.Outcome State Fault Refusal :=
  match s.takeAct 2 with
  | none => .next s
  | some (s, a) =>
    let s := if a.arg.testBit 0 then s.convTrigger 0 a else s
    .next (if a.arg.testBit 1 then s.convTrigger 1 a else s)

/-- CONVERSION_COMPLETE (R540): the filter of converter `c` delivers the result of `x`, or an overload. -/
def execConversionComplete (c : Fin 2) (x : ConvIn) (overload : Bool) (s : State) : Host.Outcome State Fault Refusal :=
  .next (s.convResult c x overload)

/-- EXC_CHANGE (R546): a write of EXC.CTL. -/
def execExcChange (d : Dom) (v : Word) (s : State) : Host.Outcome State Fault Refusal :=
  .next (s.hostWrite d Reg.excCtl v (fun s => s.excWrite v))

/-- EXC_CURRENT_LIMIT (R545): output `k` enters or leaves current limit. -/
def execExcCurrentLimit (k : Fin 8) (entered : Bool) (s : State) : Host.Outcome State Fault Refusal :=
  let s := s.setFlag Reg.excStatus (8 + k.val) entered
  .next (if entered then (s.raise Pg.exc (2 ^ k.val)).stick Pg.exc 0x10000 else s)

/-- BLANK_START (R557): BLANK_N falls. -/
def execBlankStart (s : State) : Host.Outcome State Fault Refusal :=
  .next ((s.updSlow (fun a => { a with blankLow := true })).blankCheck)

/-- BLANK_END (R558): BLANK_N rises. -/
def execBlankEnd (s : State) : Host.Outcome State Fault Refusal :=
  .next ((s.updSlow (fun a => { a with blankLow := false })).blankCheck)

/-- The way of a record is clocked: that of SLOW, and to host memory that of the port (R40). -/
def State.recLive (s : State) : Bool :=
  s.islandLive 27 && (s.flag Reg.slowDmaCtl 30 || !s.fab.stopped.getLsbD (if s.flag Reg.slowDmaCtl 16 then 23 else 22))

/-- DMA_RECORD_WRITE (R560). -/
def execDmaRecordWrite (ok : Bool) (s : State) : Host.Outcome State Fault Refusal :=
  .next (if s.recLive then s.recWrite ok else s)

end Sys2Proof.Machine
end

