-- ==== Sys2Proof/Machine/Servo.lean ====
section
/-!
DEFINITION. The bias servo: control law, measurements, outputs, loop states and the oscillation detector (R566 to R588).
-/
namespace Sys2Proof.Machine

/-- Servo loop `l` beside its registers. -/
def State.sl (s : State) (l : Nat) : ServoLoop := sget {} l s.servo.loops

/-- The state with servo loop `l` changed by `f`. -/
def State.updSl (s : State) (l : Nat) (f : ServoLoop → ServoLoop) : State :=
  { s with servo := { s.servo with loops := sset {} l (f (sget {} l s.servo.loops)) s.servo.loops } }

/-- STATUS.STATE of a loop: 0 OFF, 1 RUN, 2 HOLD, 3 FROZEN (R582). -/
def State.lstate (s : State) (l : Nat) : Nat := s.fld (Reg.servoStatus l) 2 0

/-- Dimension `NX`, `NY` and `NU` of a loop (R566). -/
def State.dims (s : State) (l : Nat) : Nat × Nat × Nat :=
  (s.fld (Reg.servoCtl l) 18 16, s.fld (Reg.servoCtl l) 14 12, s.fld (Reg.servoCtl l) 9 8)

/-- Signed half-word `i` of the registers from `k` on, two to a word. -/
def State.half (s : State) (k i : Nat) : Int :=
  signed 16 (s.fld (k + 4 * (i / 2)) (16 * (i % 2) + 15) (16 * (i % 2)))

/-- The state with that half-word replaced. -/
def State.setHalf (s : State) (k i : Nat) (v : Int) : State :=
  s.setF (k + 4 * (i / 2)) (16 * (i % 2) + 15) (16 * (i % 2)) (unsigned 16 v)

/-- Mantissa (i, j) of the matrix at block offset `base` with `c` columns of loop `l` (R567). -/
def State.coef (s : State) (l base c i j : Nat) : Int := s.half (Reg.svcoefCoef l 0 + base) (i * c + j)

/-- Adds to a 40-bit accumulator with saturation; the flag is sticky (R568, R570). -/
def acc40 (a : Int × Bool) (v : Int) : Int × Bool :=
  let r := satS 40 (a.1 + v)
  (r.1, a.2 || r.2)

/-- The result of a stage: rounded half towards +∞, limited to 16 bits, and whether it was limited (R569). -/
def stageResult (acc : Int) (sh : Nat) : Int × Bool :=
  satS 16 (if sh = 0 then acc else (acc + ((2 ^ (sh - 1) : Nat) : Int)) / ((2 ^ sh : Nat) : Int))

/-- The shift 15 − EXP of the stage whose exponent lies at bit `lo` of EXP (R568). -/
def State.stageShift (s : State) (l lo : Nat) : Nat := (15 - signed 6 (s.fld (Reg.servoExp l) (lo + 5) lo)).toNat

/-- One element of a stage: the sum of products in order, its result, and the flags of accumulator and result. -/
def stageElem (sh : Nat) (start : Int) (ps : List Int) : Int × Bool × Bool :=
  let a := ps.foldl acc40 (satS 40 start)
  let r := stageResult a.1 sh
  (r.1, a.2, r.2)

/-- Sets sticky bits of a loop's SAT, which signals INT_STAT.SAT_l (R570, R575). -/
def State.loopSat (s : State) (l bits : Nat) : State :=
  if bits = 0 then s else (s.wr (Reg.servoSat l) (s.rd (Reg.servoSat l) ||| word bits)).raise Pg.servo (2 ^ (16 + l))

/-- The stages' flags as bits `b` (accumulator) and `b + 1` (result). -/
def stageBits (b : Nat) (es : List (Int × Bool × Bool)) : Nat :=
  (if es.any (fun e => e.2.1) then 2 ^ b else 0) + (if es.any (fun e => e.2.2) then 2 ^ (b + 1) else 0)

/-- The effective bias-trim window of output `k` (R575, R631). -/
def State.biasWindow (s : State) (k : Nat) : Nat × Nat :=
  (Nat.max (s.fld (Reg.guardBias k) 15 0) (s.fld (Reg.guardFBias k) 15 0),
    Nat.min (s.fld (Reg.guardBias k) 31 16) (s.fld (Reg.guardFBias k) 31 16))

/-- A code limited to a window, and whether it was limited. -/
def clampCode (w : Nat × Nat) (c : Nat) : Nat × Bool :=
  if c < w.1 then (w.1, true) else if w.2 < c then (w.2, true) else (c, false)

/-- The outputs a loop names (R578). -/
def State.outsOf (s : State) (l : Nat) : List Nat :=
  let o0 := s.fld (Reg.servoOutsel l) 3 0
  if (s.dims l).2.2 = 2 then [o0, s.fld (Reg.servoOutsel l) 11 8] else [o0]

/-- The loop that drives output `k` (R577, R578). -/
def State.driver (s : State) (k : Nat) : Option Nat :=
  (List.range 16).find? (fun l => decide (s.lstate l ≠ 0) && decide (k ∈ s.outsOf l))

/-- The codes of the outputs that no latest cycle decides: SAFE in Umbra, MAN where no loop drives (R577). -/
def State.servoOutputs (s : State) : State :=
  (List.range 16).foldl (fun s k =>
    let c := Reg.servoCode k
    let d := s.driver k
    let s := (s.setFlag c 31 d.isSome).setF c 27 24 (d.getD 0)
    if s.modeNow ≠ 0 ∧ d.isSome then s
    else
      let r := clampCode (s.biasWindow k) (s.fld (if s.modeNow = 0 then Reg.servoSafe k else Reg.servoMan k) 15 0)
      (s.setF c 15 0 r.1).setF c 17 16 (if r.2 then 2 else 0)) s

/-- The state of a loop follows its freeze causes and HOLD (R582, R583). -/
def State.loopState (s : State) (l : Nat) : State :=
  let k := Reg.servoStatus l
  let was := s.lstate l
  if was = 0 then s
  else
    let now := if s.fld k 10 8 ≠ 0 then 3 else if s.flag (Reg.servoCtl l) 30 then 2 else 1
    let s := s.setF k 2 0 now
    let s := if was ≠ 1 ∧ now = 1 then s.updSl l (fun x => { x with block := 0 }) else s
    if was ≠ 3 ∧ now = 3 then s.raise Pg.servo (2 ^ l) else s

/-- Sets or clears freeze cause `b` (8 UMBRA, 9 OSC, 10 STALE) of a loop. -/
def State.setCause (s : State) (l b : Nat) (v : Bool) : State := (s.setFlag (Reg.servoStatus l) b v).loopState l

/-- A write of EN = 1 is refused (R578, R588). -/
def State.loopRefused (s : State) (l : Nat) (v : Word) : Bool :=
  let nx := wfld v 18 16
  let nu := wfld v 9 8
  let outs := if nu = 2 then [s.fld (Reg.servoOutsel l) 3 0, s.fld (Reg.servoOutsel l) 11 8] else [s.fld (Reg.servoOutsel l) 3 0]
  let others := ((List.range 16).filter (fun m => decide (m ≠ l) && decide (s.lstate m ≠ 0))).flatMap (fun m => s.outsOf m)
  let ex := fun (lo : Nat) => (let e := signed 6 (s.fld (Reg.servoExp l) (lo + 5) lo)
                               decide (e < -16) || decide (15 < e))
  decide (nx < 1) || decide (6 < nx) || decide (4 < wfld v 14 12) || decide (nu < 1) || decide (2 < nu)
    || ex 8 || ex 16 || ex 24
    || (List.range 4).any (fun q =>
        let k := Reg.servoMeas l q
        decide (11 < s.fld k 24 21) || (decide (s.fld k 31 30 = 1) && decide (31 < s.fld k 17 0)))
    || outs.any (fun o => decide (o ∈ others)) || (decide (nu = 2) && decide (outs.getD 0 0 = outs.getD 1 0))

/-- A cycle in progress is abandoned: x keeps its value from before that cycle (R581, R582). -/
def State.servoAbandon (s : State) (l : Nat) : State :=
  let x := s.sl l
  if x.start.isSome ∧ s.time.up < x.done then
    let s := (List.range 3).foldl (fun s j => s.wr (Reg.servoX l j) (x.kept.getD j 0)) s
    s.updSl l (fun x => { x with done := s.time.up })
  else s

/-- A loop is set OFF: its outputs go to MAN (R577, R582). -/
def State.loopOff (s : State) (l : Nat) : State :=
  let s := s.servoAbandon l
  ((s.setF (Reg.servoStatus l) 10 8 0).setF (Reg.servoStatus l) 2 0 0).servoOutputs

/-- A loop leaves OFF (R572, R582). -/
def State.loopOn (s : State) (l : Nat) : State :=
  let s := s.updSl l (fun x => { start := x.start, tried := x.tried })
  let s := (s.wr (Reg.servoStatus l) 0).wr (Reg.servoStaleRun l) 0
  let s := s.setF (Reg.servoStatus l) 2 0 (if s.flag (Reg.servoCtl l) 30 then 2 else 1)
  (if s.modeNow = 0 then s.setCause l 8 true else s).servoOutputs

/-- Effect of a write of a loop's CTL (R20, R577, R582, R588): what is refused keeps its value, EN and HOLD of a loop that is not
OFF take effect. -/
def State.loopCtlWrite (s : State) (l : Nat) (v : Word) : State :=
  let k := Reg.servoCtl l
  let en := s.flag k 31
  let bad := v.getLsbD 31 && s.loopRefused l v
  let s := if s.lstate l = 1 ∨ (en = true ∧ bad = true) then
      let s := if (v ^^^ s.rd k) &&& 0x00077300 = 0 ∧ (bad = false ∨ s.lstate l = 1) then s else s.refuse Pg.servo
      (s.setFlag k 31 (v.getLsbD 31)).setFlag k 30 (v.getLsbD 30)
    else if bad then (s.plainWrite k (setBit v 31 false)).refuse Pg.servo
    else s.plainWrite k v
  let now := s.flag k 31
  if now && !en then s.loopOn l
  else if en && !now then s.loopOff l
  else if s.lstate l = 0 then s
  else (s.loopState l).servoOutputs

/-- CMD.RESUME of a FROZEN loop (R582). -/
def State.loopResume (s : State) (l : Nat) : State :=
  if s.lstate l = 3 then
    let k := Reg.servoStatus l
    let s := ((s.setF k 31 24 0).setF k 21 20 0).wr (Reg.servoStaleRun l) 0
    (s.setF k 10 9 0).loopState l
  else s

/-- Effect of a write to a SERVO register (R577, R588). -/
def State.servoWrite (s : State) (k : Nat) (v : Word) : State :=
  if k < Reg.servoCtl 0 then s.plainWrite k v
  else if Reg.servoObase 0 ≤ k then (s.plainWrite k v).servoOutputs
  else
    let l := (k - Reg.servoCtl 0) / 0x70
    let r := (k - Reg.servoCtl 0) % 0x70
    let held := (decide (4 ≤ r) && decide (r ≤ 0x20)) || decide (r = 0x30) || decide (r = 0x34)
      || (decide (0x40 ≤ r) && decide (r ≤ 0x48))
    if r = 0 then s.loopCtlWrite l v
    else if r = 0x3C then if v.getLsbD 0 then s.loopResume l else s
    else if held && decide (s.lstate l = 1) then s.refuse Pg.servo
    else if r = 8 ∧ s.lstate l ≠ 0 then
      let t := s.plainWrite k v
      let mine := t.outsOf l
      let clash := (List.range 16).any (fun m => decide (m ≠ l) && decide (t.lstate m ≠ 0) &&
        (t.outsOf m).any (fun o => decide (o ∈ mine)))
      if clash || decide (mine.length = 2 ∧ mine.getD 0 0 = mine.getD 1 0) then s.refuse Pg.servo else t.servoOutputs
    else if r = 0x24 ∨ r = 0x28 then
      let m := if r = 0x24 then 3 else 12
      (s.plainWrite k v).updSl l (fun x => { x with host := Nat.lor x.host m })
    else s.plainWrite k v

/-- Effect of a write to a SVCOEF register (R588). -/
def State.svcoefWrite (s : State) (k : Nat) (v : Word) : State :=
  if Reg.svcoefCoef 0 0 ≤ k ∧ s.lstate ((k - Reg.svcoefCoef 0 0) / 0xE0) = 1 then s.refuse Pg.svcoef else s.plainWrite k v

/-- A latched measurement: its value before the offset, whether it is fresh, and what is seen of its source (R571,
R572). -/
def State.measure (s : State) (l q : Nat) : State × Int × Bool × Nat :=
  let k := Reg.servoMeas l q
  let x := s.sl l
  let old := sget 0 q x.seen
  match s.fld k 31 30 with
  | 1 =>
    let c := s.fld k 17 0 % 32
    let w := s.rd (Reg.slowLast c)
    let i := s.nat (Reg.slowIndex c)
    let good := w.getLsbD 7 && !w.getLsbD 4 && !w.getLsbD 2 && !w.getLsbD 1
    (s, signed 16 (wfld w 31 16), good && (x.first || decide (i ≠ old)), i)
  | 2 =>
    let (s, bs, ue) := s.smRead (1 + s.fld k 24 21) (s.fld k 17 0 / 4 * 4) 4
    let n := leNat bs
    if ue then (s.stick Pg.servo 0x40000, 0, false, old)
    else (s, signed 16 n, x.first || decide (n / 65536 ≠ old), n / 65536)
  | 3 => (s, s.half (Reg.servoHosty l 0) q, x.first || x.host.testBit q, old)
  | _ => (s, 0, false, old)

/-- The mode in force is in a measurement's MODES (R573). -/
def State.measMode (s : State) (l q : Nat) : Bool :=
  let m := s.modeNow
  decide (1 ≤ m) && (s.fld (Reg.servoMeas l q) 29 25).testBit (m - 1)

/-- Latches the measurements of a loop: per measurement y and whether it is fresh (R566, R571 to R573). -/
def State.latch (s : State) (l : Nat) : Nat → Nat → State × List (Int × Bool)
  | 0, _ => (s, [])
  | n + 1, q =>
    let (s, v, fresh, seen) := s.measure l q
    let s := s.updSl l (fun x => { x with seen := sset 0 q seen x.seen })
    let ok := fresh && s.measMode l q
    let y := satSigned 16 (v - s.half (Reg.servoYoff l 0) q)
    let s := if ok then s.setHalf (Reg.servoY l 0) q y else s
    let (s, r) := s.latch l n (q + 1)
    (s, (y, ok) :: r)

/-- The oscillation check of a cycle (R584): whether REV reaches LIMIT. -/
def State.oscCheck (s : State) (l : Nat) (ys : List (Int × Bool)) : State × Bool :=
  let c := Reg.servoOdCfg l
  let k := Reg.servoStatus l
  let x := s.sl l
  let off := decide (s.fld c 27 24 = 0)
  let s := if x.block % s.fld c 23 16 = 0 ∧ off = false then s.setF k 31 24 0 else s
  let s := s.updSl l (fun x => { x with block := (x.block + 1) % s.fld c 23 16 })
  if off then (s, false) else
  match ys[s.fld c 29 28]? with
  | some (y, true) =>
    let d := satSigned 16 (s.half (Reg.servoR l) 0 - y)
    let thr : Int := (s.fld c 15 0 : Nat)
    let old := s.fld k 21 20
    let new := if thr ≤ d then 1 else if d ≤ -thr then 2 else old
    let rev := if old ≠ 0 ∧ new ≠ old then Nat.min 255 (s.fld k 31 24 + 1) else s.fld k 31 24
    let s := (s.setF k 21 20 new).setF k 31 24 rev
    (s, decide (s.fld c 27 24 ≤ rev))
  | _ => (s, false)

/-- Converts u(i) to a code and applies it; the answer is ua(i) (R575). -/
def State.applyOut (s : State) (l i : Nat) (u : Int) : State × Int :=
  let o := (s.outsOf l).getD i 0
  let base : Int := (s.fld (Reg.servoObase o) 15 0 : Nat)
  let z := base + u
  let r0 : Nat × Bool := if z < 0 then (0, true) else if 65535 < z then (65535, true) else (z.toNat, false)
  let r1 := clampCode (s.biasWindow o) r0.1
  let k := Reg.servoCode o
  let s := (s.setF k 15 0 r1.1).setF k 17 16 ((if r1.2 then 2 else 0) + (if r0.2 then 1 else 0))
  (s.loopSat l ((if r0.2 then 64 else 0) + (if r1.2 then 128 else 0)), (r1.1 : Int) - base)

/-- SLOW clocks of a cycle (R581). -/
def cycleClocks (d : Nat × Nat × Nat) : Nat :=
  20 + (d.2.2 * (d.1 + d.2.2) + 4) + (d.2.1 * d.1 + 4) + (d.1 * (d.1 + d.2.2 + d.2.1) + 4)

/-- One cycle of a loop in RUN (R566 to R575, R582, R584). -/
def State.servoCycle (s : State) (l : Nat) : State :=
  let (nx, ny, nu) := s.dims l
  let ix := List.range nx
  let (s, ys) := s.latch l ny 0
  let s := s.updSl l (fun x => { x with host := 0, first := false })
  let bad := (List.range ny).any (fun q =>
    decide (s.fld (Reg.servoMeas l q) 31 30 ≠ 0) && s.measMode l q && !(ys.getD q (0, false)).2)
  let s := s.wr (Reg.servoStaleRun l) (if bad then word (Nat.min 65535 (s.nat (Reg.servoStaleRun l) + 1)) else 0)
  let (s, osc) := s.oscCheck l ys
  let max := s.fld (Reg.servoStaleMax l) 15 0
  let stale := decide (max ≠ 0) && decide (max < s.nat (Reg.servoStaleRun l))
  if osc || stale then
    let s := if osc then s.setCause l 9 true else s
    if stale then s.setCause l 10 true else s
  else
    let x := ix.map (fun j => s.half (Reg.servoX l 0) j)
    let r := (List.range nu).map (fun j => s.half (Reg.servoR l) j)
    let at' := fun (v : List Int) (j : Nat) => v.getD j 0
    let us := (List.range nu).map (fun i => stageElem (s.stageShift l 8) 0
      (ix.map (fun j => -(s.coef l 0xC0 6 i j * at' x j)) ++ (List.range nu).map (fun j => s.coef l 0xD8 2 i j * at' r j)))
    let s := s.loopSat l (stageBits 0 us)
    let s := (List.range nu).foldl (fun s i => s.setHalf (Reg.servoU l) i (us.getD i (0, false, false)).1) s
    let (s, ua) := (List.range nu).foldl (fun (a : State × List Int) i =>
      let (s, v) := a.1.applyOut l i (us.getD i (0, false, false)).1
      (s, a.2 ++ [v])) (s, [])
    let she := s.stageShift l 16
    let es := (List.range ny).map (fun i =>
      let y := ys.getD i (0, false)
      if y.2 then stageElem she (y.1 * ((2 ^ she : Nat) : Int)) (ix.map (fun j => -(s.coef l 0x90 6 i j * at' x j)))
      else (0, false, false))
    let s := s.loopSat l (stageBits 2 es)
    let e := es.map (fun v => v.1)
    let xs := ix.map (fun i => stageElem (s.stageShift l 24) 0
      (ix.map (fun j => s.coef l 0 6 i j * at' x j) ++ (List.range nu).map (fun j => s.coef l 0x48 2 i j * at' ua j)
        ++ (List.range ny).map (fun j => s.coef l 0x60 4 i j * at' e j)))
    let s := s.loopSat l (stageBits 4 xs)
    let s := ix.foldl (fun s i => s.setHalf (Reg.servoX l 0) i (xs.getD i (0, false, false)).1) s
    s.inc (Reg.servoCycles l)

/-- Now lies in the SLOW clock period (20 ticks) of `t`. -/
def State.samePeriod (s : State) (t : Option Nat) : Bool := t.any (fun p => decide (p / 20 = s.time.up / 20))

/-- A start reaches a loop in RUN (R580, R581): a second one in its clock period counts for nothing; one that is performed waits
for the loops of lower number started in that period, and those of higher number wait for it. A cycle that freezes the loop is
over with its first phase (R582, R584). -/
def State.servoStart (s : State) (l : Nat) : State :=
  let u := s.time.up
  let x := s.sl l
  let k := Reg.servoErrs l
  let gap := match x.start with
    | some p => u - p
    | none => 1000000
  if s.samePeriod x.tried then s
  else
    let s := s.updSl l (fun x => { x with tried := some u })
    if gap < 200000 then
      let s := (s.incFSat k 31 16).stick Pg.servo 0x10000
      if u < x.done then (s.incFSat k 15 0).stick Pg.servo 0x20000 else s
    else
      let s := if 20000000 < gap then (s.incFSat k 31 16).stick Pg.servo 0x10000 else s
      let mates := (List.range 16).filter (fun m => decide (m ≠ l) && s.samePeriod (s.sl m).start)
      let wait := ((mates.filter (fun m => decide (m < l))).map (fun m => (s.sl m).clocks)).sum
      let n := cycleClocks (s.dims l)
      let kept := (List.range 3).map (fun j => s.rd (Reg.servoX l j))
      let s := s.updSl l (fun x => { x with start := some u, done := u + 20 * (wait + n), clocks := n, kept := kept })
      let s := s.servoCycle l
      let s := if s.lstate l = 3 then s.updSl l (fun x => { x with done := u, clocks := 20 }) else s
      (mates.filter (fun m => decide (l < m) && decide (u < (s.sl m).done))).foldl (fun s m =>
        s.updSl m (fun y => { y with done := y.done + 20 * (s.sl l).clocks })) s

/-- Umbra takes effect, or a fatal entry: every loop freezes and the outputs go to SAFE (R577, R582). -/
def State.servoUmbra (s : State) : State :=
  ((List.range 16).foldl (fun s l =>
    if s.lstate l = 0 then s else (s.servoAbandon l).setCause l 8 true) s).servoOutputs

/-- Idle takes effect after Umbra (R582): driven outputs keep SAFE until the first cycle. -/
def State.servoIdle (s : State) : State :=
  ((List.range 16).foldl (fun s l => if s.lstate l = 0 then s else s.setCause l 8 false) s).servoOutputs

/-- A SERVO page reset or a reset of island 27 (R587): the registers are reset with the page. -/
def State.servoReset (s : State) : State := { s with servo := {} }.servoOutputs

/-- SERVO_CYCLE (R566, R579): a compare with ACTION 3 reaches the SLOW island. -/
def execServoCycle (s : State) : Host.Outcome State Fault Refusal :=
  match s.takeAct 3 with
  | none => .next s
  | some (s, a) =>
    let ls := (List.range 16).filter (fun l => a.arg.testBit l && decide (s.lstate l = 1))
    if s.modeNow = 0 ∨ ls = [] then .next (s.notDone a.unit) else .next (ls.foldl (fun s l => s.servoStart l) s)

/-- SERVO_LOOP_ENABLE (R582): a write of CTL with EN = 1. -/
def execServoLoopEnable (d : Dom) (l : Fin 16) (v : Word) (s : State) : Host.Outcome State Fault Refusal :=
  .next (s.hostWrite d (Reg.servoCtl l) (setBit v 31 true) (fun s => s.loopCtlWrite l (setBit v 31 true)))

/-- SERVO_LOOP_DISABLE (R582): a write of CTL with EN = 0. -/
def execServoLoopDisable (d : Dom) (l : Fin 16) (v : Word) (s : State) : Host.Outcome State Fault Refusal :=
  .next (s.hostWrite d (Reg.servoCtl l) (setBit v 31 false) (fun s => s.loopCtlWrite l (setBit v 31 false)))

/-- SERVO_HOLD (R582): a write of CTL with the HOLD bit as given. -/
def execServoHold (d : Dom) (l : Fin 16) (v : Word) (s : State) : Host.Outcome State Fault Refusal :=
  .next (s.hostWrite d (Reg.servoCtl l) v (fun s => s.loopCtlWrite l v))

/-- SERVO_RESUME (R582): a write of CMD. -/
def execServoResume (d : Dom) (l : Fin 16) (v : Word) (s : State) : Host.Outcome State Fault Refusal :=
  .next (s.hostWrite d (Reg.servoCmd l) v (fun s => s.servoWrite (Reg.servoCmd l) v))

end Sys2Proof.Machine
end

