-- ==== Sys2Proof/Machine/Light.lean ====
section
/-!
DEFINITION. The calibration light controller: states, headroom, light classes, colour ratio and faults (R589 to R605).
-/
namespace Sys2Proof.Machine

/-- The state with the light controller's own part changed. -/
def State.updLight (s : State) (f : LightSt → LightSt) : State := { s with light := f s.light }

/-- STATUS.STATE: 0 OFF, 1 RAMP, 2 ON, 3 FAULT (R603). -/
def State.lightState (s : State) : Nat := s.fld Reg.lightStatus 2 0

/-- STATUS.CLASS: 0 DARK, 1 GLOW, 2 SPRINKLE (R597). -/
def State.lightClass (s : State) : Nat := s.fld Reg.lightStatus 5 4

/-- GUARD allows light (R591, R631). -/
def State.lightAllow (s : State) : Bool := s.flag Reg.guardLight 31 && s.flag Reg.guardFLight 31

/-- The effective boost ceiling and the ceiling of string `k` (R591, R631). -/
def State.boostCeil (s : State) : Nat := Nat.min (s.fld Reg.guardLight 9 0) (s.fld Reg.guardFLight 9 0)
def State.currentCeil (s : State) (k : Nat) : Nat :=
  let b := 8 * (k % 4)
  Nat.min (s.fld (Reg.guardImax (k / 4)) (b + 7) b) (s.fld (Reg.guardFImax (k / 4)) (b + 7) b)

/-- BOOST.VMAX and a string's IFS as the controller uses them (R591). -/
def State.vmaxUsed (s : State) : Nat := Nat.min (s.fld Reg.lightBoost 9 0) s.boostCeil
def State.ifsUsed (s : State) (k : Nat) : Nat := Nat.min (s.fld (Reg.lightScfg k) 7 0) (s.currentCeil k)

/-- The sinks follow the codes in use and the string currents as limited (R590, R591). -/
def State.showSinks (s : State) : State :=
  let ds := (List.range 8).map (fun k => (k, s.ifsUsed k * s.fld (Reg.lightSstatus k) 9 0))
  s.updLight (fun x => { x with drive := ds.filter (fun d => decide (d.2 ≠ 0)) })

/-- The pulses of the period in progress up to now, in ticks. -/
def State.lightSpans (s : State) : List (Nat × Nat × Nat) :=
  s.light.pulses.flatMap (fun e => e.2.map (fun p =>
    (e.1, Nat.min s.time.up (s.light.startAt + 20 * p.1), Nat.min s.time.up (s.light.startAt + 20 * (p.1 + p.2)))))

/-- String `k` was on for at least 1 µs of the 10 µs up to `t` (R592). -/
def State.stringOn (s : State) (t k : Nat) : Bool :=
  decide (2000 ≤ (((s.light.spans ++ s.lightSpans).filter (fun p => decide (p.1 = k))).map (fun p =>
    Nat.min t p.2.2 - Nat.max (t - 20000) p.2.1)).sum)

/-- STATUS.CLAMP follows the programmed values and the ceilings (R591). -/
def State.lightClamp (s : State) : State :=
  let c := decide (s.boostCeil < s.fld Reg.lightBoost 9 0) ||
    (List.range 8).any (fun k => decide (s.currentCeil k < s.fld (Reg.lightScfg k) 7 0))
  let s := s.setFlag Reg.lightStatus 11 c
  let s := if s.vmaxUsed < s.fld Reg.lightStatus 25 16 then s.setF Reg.lightStatus 25 16 s.vmaxUsed else s
  (if c then s.stick Pg.light 0x20000 else s).showSinks

/-- Every sink off, every string's code in use 0, no pulse and nothing to take back. -/
def State.sinksOff (s : State) : State :=
  ((List.range 8).foldl (fun s k => s.setF (Reg.lightSstatus k) 9 0 0) s).updLight
    (fun x => { x with pulses := [], owed := [], period := 0, lowSince := none, drive := [], spans := x.spans ++ s.lightSpans })

/-- The controller goes to state `n` with its sinks off and the boost off. -/
def State.lightStop (s : State) (n : Nat) : State :=
  ((s.sinksOff.setF Reg.lightStatus 2 0 n).setF Reg.lightStatus 5 4 0).setF Reg.lightStatus 25 16 0

/-- OFF to RAMP when the conditions hold (R603). -/
def State.lightTry (s : State) : State :=
  if s.lightState = 0 ∧ s.flag Reg.lightCtl 31 ∧ s.modeNow = 5 ∧ s.lightAllow then
    let s := s.lightClamp
    let s := s.setF Reg.lightTrim 15 0 0x4000
    let s := (s.setF Reg.lightStatus 10 8 0).setF Reg.lightStatus 2 0 1
    let s := s.setF Reg.lightStatus 25 16 (Nat.min (s.fld Reg.lightBoost 25 16) s.vmaxUsed)
    s.updLight (fun x => { x with rampAt := s.time.up, period := 0, lowSince := none })
  else s

/-- RAMP or ON ends in OFF: EN written 0, Calibrate ends, a fatal entry or a GUARD withdrawal; FAULT stays (R603, R604). -/
def State.lightOff (s : State) : State := if s.lightState = 1 ∨ s.lightState = 2 then s.lightStop 0 else s

/-- What a change of GUARD's light limits does (R591, R603). -/
def State.lightGuard (s : State) : State :=
  let s := s.lightClamp
  if s.lightAllow then s.lightTry else s.lightOff

/-- What the mode that takes effect does (R120, R603): Calibrate lets the light start, any other mode ends it. -/
def State.lightMode (s : State) : State := if s.modeNow = 5 then s.lightTry else s.lightOff

/-- A LIGHT page reset or a reset of island 27 (R603); the registers are reset with the page. -/
def State.lightReset (s : State) : State := { s with light := {} }.lightStop 0

/-- `(2a + b) / 2b`: `a / b` rounded half up. -/
def roundDiv (a b : Nat) : Nat := (2 * a + b) / (2 * b)

/-- The level of a string in GLOW, with the group multiplier under the ratio loop (R594). -/
def State.glowLevel (s : State) (k : Nat) : Nat :=
  let n := wfld s.light.glow 15 0
  if s.flag (Reg.lightScfg k) 8 ∧ s.flag Reg.lightCtl 8 then Nat.min 65535 (n * s.fld Reg.lightTrim 15 0 / 16384) else n

/-- The 12-bit bit reversal of a slot number (R595). -/
def bitRev12 (i : Nat) : Nat := (List.range 12).foldl (fun a b => a * 2 + i / 2 ^ b % 2) 0

/-- The runs of consecutive on-slots of a SPRINKLE period (R595): first slot and length. -/
def onRuns (on : Nat) : List (Nat × Nat) :=
  ((List.range 4096).foldl (fun (acc : List (Nat × Nat)) i =>
    if bitRev12 i < on then
      match acc with
      | (a, n) :: r => if a + n = i then (a, n + 1) :: r else (i, 1) :: (a, n) :: r
      | [] => [(i, 1)]
    else acc) []).reverse

/-- The code of string `k` and its pulses in a period, before R601, in SLOW clocks (R594, R595). -/
def State.stringPlan (s : State) (k : Nat) : Nat × List (Nat × Nat) :=
  if s.flag (Reg.lightScfg k) 31 = false then (0, [])
  else if s.lightClass = 1 then
    let n := s.glowLevel k
    if n = 0 then (0, [])
    else if 6553 ≤ n then (Nat.min 1023 (roundDiv (n * 1023) 65535), [(0, 5000)])
    else (102, [(0, roundDiv (n * 4096) 6553 * 5000 / 4096)])
  else
    let slot := wfld s.light.spr 23 16 + 1
    let runs := (onRuns (wfld s.light.spr 12 0)).map (fun r => (r.1 * slot, r.2 * slot))
    (if runs = [] then 0 else wfld s.light.cur 9 0, runs)

/-- Pulses shortened in order until `owed` clocks have been taken back; what is left owed (R601). -/
def takeBack : Nat → List (Nat × Nat) → List (Nat × Nat) × Nat
  | owed, [] => ([], owed)
  | owed, (a, n) :: r =>
    let c := Nat.min n owed
    let t := takeBack (owed - c) r
    (if n = c then t.1 else (a, n - c) :: t.1, t.2)

/-- The pulses after the lengthening of the first one to 2 µs, the clocks still owed, and whether one was lengthened
(R601). -/
def lengthen (ps : List (Nat × Nat)) : List (Nat × Nat) × Nat × Bool :=
  match ps with
  | [] => ([], 0, false)
  | (a, n) :: r =>
    if ps.any (fun p => decide (200 ≤ p.2)) then (ps, 0, false)
    else
      let covered := fun (p : Nat × Nat) => Nat.min p.2 (a + 200 - p.1)
      let rest := (r.map (fun p => (p.1 + covered p, p.2 - covered p))).filter (fun p => p.2 ≠ 0)
      let t := takeBack (200 - n - (r.map covered).sum) rest
      ((a, 200) :: t.1, t.2, true)

/-- String `k` at a period start: its code, its pulses and what it owes (R594, R595, R601). -/
def State.stringPeriod (s : State) (first : Bool) (k : Nat) : State :=
  let (d, ps) := s.stringPlan k
  let s := s.setF (Reg.lightSstatus k) 9 0 d
  let r := if first then lengthen ps else
    let t := takeBack (sget 0 k s.light.owed) ps
    (t.1, t.2, false)
  let s := if r.2.2 then s.inc Reg.lightStretches else s
  s.updLight (fun x => { x with owed := sset 0 k r.2.1 x.owed, pulses := sset [] k r.1 x.pulses })

/-- SLOW clocks of a period of the class in force (R594, R595). -/
def State.periodClocks (s : State) : Nat := if s.lightClass = 1 then 5000 else 4096 * (wfld s.light.spr 23 16 + 1)

/-- A period of the class in force starts (R594 to R598, R601). -/
def State.lightPeriod (s : State) : State :=
  let s := s.updLight (fun x => { x with
    glow := s.rd Reg.lightGlow
    spr := s.rd Reg.lightSprinkle
    cur := s.rd Reg.lightSprCur })
  let s := s.updLight (fun x => { x with spans := x.spans ++ s.lightSpans, startAt := s.time.up })
  let first := decide (s.light.period % 256 = 0)
  let s := ((List.range 8).foldl (fun s k => s.stringPeriod first k) s).showSinks
  s.updLight (fun x => { x with period := x.period % 256 + 1, nextAt := s.time.up + 20 * s.periodClocks })

/-- Class `c` is in force from now and starts its first period (R596, R597, R604). -/
def State.lightStart (s : State) (c : Nat) : State :=
  let s := s.sinksOff.setF Reg.lightStatus 5 4 c
  if c = 0 then s else s.lightPeriod

/-- A class change in state ON (R597). -/
def State.lightChange (s : State) (c : Nat) : State :=
  ((s.lightStart c).incF Reg.lightCounts 15 0).raise Pg.light 0x8

/-- A compare with ACTION 4 changes the class, or is not performed (R597). -/
def State.lightAct (s : State) (a : TimeAct) : State :=
  if s.lightState ≠ 2 ∨ 2 < a.arg % 65536 then s.notDone a.unit else s.lightChange (a.arg % 65536)

/-- The compare actions that reach the light controller before a write of now, or in its SLOW clock period, take effect first
(R597, R604). -/
def State.lightActs (s : State) : State :=
  let here := fun (a : TimeAct) => decide (a.fired / 20 = s.time.up / 20) || decide (a.fired + 548 ≤ s.time.up + a.late)
  (s.time.acts.filter (fun a => decide (a.code = 4) && here a)).foldl (fun s _ =>
    match s.takeAct 4 with
    | some (s, a) => s.lightAct a
    | none => s) s

/-- Effect of a write of CTL (R20, R597, R603, R604): a refused CLASS changes no class. -/
def State.lightCtlWrite (s : State) (v : Word) : State :=
  let s := s.lightActs.plainWrite Reg.lightCtl v
  if s.flag Reg.lightCtl 31 = false then s.lightOff
  else
    let c := s.fld Reg.lightCtl 1 0
    if s.lightState = 2 ∧ s.lightClass ≠ c ∧ wfld v 1 0 = c then s.lightChange c else s.lightTry

/-- CMD.CLEAR in FAULT (R603). -/
def State.lightClear (s : State) : State :=
  if s.lightState = 3 then ((s.wr Reg.lightFault 0).lightStop 0).lightTry else s

/-- Effect of a write to a LIGHT register (R603, R605). -/
def State.lightWrite (s : State) (k : Nat) (v : Word) : State :=
  let held := decide (s.lightState ≠ 0)
  if k = Reg.lightCtl then s.lightCtlWrite v
  else if k = Reg.lightCmd then if v.getLsbD 0 then s.lightClear else s
  else if k = Reg.lightRatio ∧ held then
    let t := if (v ^^^ s.rd k) &&& 0xFFF = 0 then s else s.refuse Pg.light
    t.setF k 31 16 (wfld v 31 16)
  else if (List.range 8).any (fun i => decide (k = Reg.lightScfg i)) ∨ k = Reg.lightBoost ∨ k = Reg.lightHead then
    if held then s.refuse Pg.light else (s.plainWrite k v).lightClamp
  else s.plainWrite k v

/-- A fault: sinks and boost off, the cause recorded (R602). -/
def State.lightFaults (s : State) (bits : Nat) : State :=
  let s := s.lightStop 3
  let s := s.wr Reg.lightFault (s.rd Reg.lightFault ||| word bits)
  ((s.incFSat Reg.lightCounts 31 16).raise Pg.light 1).stick Pg.light 0x10000

/-- LIGHT_ENABLE (R603): a write of CTL with EN = 1. -/
def execLightEnable (d : Dom) (v : Word) (s : State) : Host.Outcome State Fault Refusal :=
  .next (s.hostWrite d Reg.lightCtl (setBit v 31 true) (fun s => s.lightCtlWrite (setBit v 31 true)))

/-- LIGHT_RAMP_DONE (R600, R603): LBST_S reaches VSTART in RAMP, within 1 ms; later than that the fault has come first. -/
def execLightRampDone (s : State) : Host.Outcome State Fault Refusal :=
  if s.lightState = 1 ∧ s.light.rampAt + 2000000 < s.time.up then .next (s.lightFaults 0x20000)
  else if s.lightState = 1 then
    let s := s.setF Reg.lightStatus 2 0 2
    .next ((s.lightStart (s.fld Reg.lightCtl 1 0)).updLight (fun x => { x with headAt := s.time.up + 20000 }))
  else .next s

/-- LIGHT_BOOST_UV (R600): 1 ms of RAMP has passed without VSTART. -/
def execLightBoostUv (s : State) : Host.Outcome State Fault Refusal :=
  if s.lightState = 1 then .next ((s.elapse (s.light.rampAt + 2000000)).lightFaults 0x20000) else .next s

/-- LIGHT_FAULT (R600, R602): a check of string `k` over the last 1 µs of a pulse of at least 2 µs, or of the boost output,
reads `mv` millivolts. -/
def execLightFault (string : Option (Fin 8)) (mv : Nat) (s : State) : Host.Outcome State Fault Refusal :=
  match string with
  | none =>
    if (s.lightState = 1 ∨ s.lightState = 2) ∧ s.boostCeil * 40 + 1000 < mv then .next (s.lightFaults 0x10000) else .next s
  | some k =>
    if s.lightState = 2 ∧ (sget [] k.val s.light.pulses).any (fun p => decide (200 ≤ p.2)) then
      let s := s.setF (Reg.lightSvsnk k) 15 0 mv
      if mv < 200 then .next (s.lightFaults (2 ^ k.val))
      else if s.fld Reg.lightHead 7 0 * 100 < mv then .next (s.lightFaults (2 ^ (8 + k.val)))
      else .next s
    else .next s

/-- LIGHT_CLEAR (R603): a write of CMD. -/
def execLightClear (d : Dom) (v : Word) (s : State) : Host.Outcome State Fault Refusal :=
  .next (s.hostWrite d Reg.lightCmd v (fun s => s.lightWrite Reg.lightCmd v))

/-- LIGHT_CLASS_CHANGE (R597): a write of CTL, or a compare with ACTION 4 that reaches the SLOW island. -/
def execLightClassChange (w : Option (Dom × Word)) (s : State) : Host.Outcome State Fault Refusal :=
  match w with
  | some (d, v) => .next (s.hostWrite d Reg.lightCtl v (fun s => s.lightCtlWrite v))
  | none =>
    match s.takeAct 4 with
    | none => .next s
    | some (s, a) => .next (s.lightAct a)

/-- HEADROOM_TICK (R592, R593, R596): the LSNK_S voltages in millivolts, of which those of the strings that were on for at least 1 µs
of the last 10 µs count. -/
def execHeadroomTick (volts : List (Fin 8 × Nat)) (s : State) : Host.Outcome State Fault Refusal :=
  if s.lightState = 2 then
    let s := s.elapse s.light.headAt
    let vs := volts.filter (fun p => s.flag (Reg.lightScfg p.1) 31 && s.stringOn s.time.up p.1)
    let s := s.updLight (fun x => { x with
      headAt := s.time.up + 20000, spans := [] })
    match vs with
    | [] => .next ((s.updLight (fun x => { x with lowSince := none })).setFlag Reg.lightStatus 8 false)
    | (_, v0) :: r =>
      let v := r.foldl (fun a p => Nat.min a p.2) v0
      let set := s.fld Reg.lightStatus 25 16
      let next := if v < 550 then Nat.min (set + 1) s.vmaxUsed else if 650 < v then set - 1 else set
      let low := decide (s.vmaxUsed ≤ set) && decide (v < 450)
      let since := if low then some (s.light.lowSince.getD s.time.up) else none
      let s := (s.setF Reg.lightStatus 25 16 next).updLight (fun x => { x with lowSince := since })
      let long := match since with
        | some u => decide (u + 2000000 ≤ s.time.up)
        | none => false
      let was := s.flag Reg.lightStatus 8
      let s := s.setFlag Reg.lightStatus 8 long
      .next (if long && !was then s.raise Pg.light 2 else s)
  else .next s

/-- RATIO_CYCLE_END (R599): the averages of a whole cycle of 256 periods. With MINPD = 0 and PD0 = 0 the ratio is a free
value. -/
def execRatioCycleEnd (pd0 pd1 : BitVec 16) (s : State) : Host.Outcome State Fault Refusal :=
  if s.lightState = 2 ∧ s.light.period = 256 then
    let s := s.elapse s.light.nextAt
    let s := s.wr Reg.lightPdAvg (word (pd1.toNat * 65536 + pd0.toNat))
    if s.flag Reg.lightCtl 8 = false then .next s
    else if pd0.toNat < s.fld Reg.lightRatio 7 0 then .next (s.setFlag Reg.lightStatus 10 true)
    else
      let m := if pd0 = 0 then Config.freeNat s.fresh % 65536 else Nat.min 65535 (pd1.toNat * 4096 / pd0.toNat)
      let s := if pd0 = 0 then s.draw else s
      let step : Int := (4 * ((s.fld Reg.lightRatio 31 16 : Int) - (m : Int))) / ((2 ^ s.fld Reg.lightRatio 11 8 : Nat) : Int)
      let z := (s.fld Reg.lightTrim 15 0 : Int) + step
      let t := if z < 0x2000 then 0x2000 else if 0x8000 < z then 0x8000 else z.toNat
      let lim := decide (z < 0x2000) || decide ((0x8000 : Int) < z)
      let s := s.wr Reg.lightTrim (word (m * 65536 + t))
      let s := (s.setFlag Reg.lightStatus 10 false).setFlag Reg.lightStatus 9 lim
      .next (if lim then s.raise Pg.light 4 else s)
  else .next s

/-- LIGHT_PERIOD_START (R594 to R598, R601): the next period of GLOW or SPRINKLE starts. -/
def execLightPeriodStart (s : State) : Host.Outcome State Fault Refusal :=
  if s.lightState = 2 ∧ s.lightClass ≠ 0 then .next (s.elapse s.light.nextAt).lightPeriod else .next s

end Sys2Proof.Machine
end

