-- ==== Sys2Proof/Machine/Age.lean ====
section
/-!
DEFINITION. Ageing measurement: monitors, the campaign of six steps, rail re-planning and end of margin (R704 to R716).
-/
namespace Sys2Proof.Machine

/-- The island whose timing ring oscillator `k` measures (R704). -/
def oscIsland (k : Nat) : Nat := k + 2

/-- The signed value of 16 bits, or a free one where the manual states none (a margin outside its format). -/
def State.margin16 (s : State) (ok : Bool) (z : Int) : State × Int :=
  if ok && decide (-32768 ≤ z) && decide (z ≤ 32767) then (s, z) else (s.draw, signed 16 (Config.freeNat s.fresh))

/-- MARGIN_k from the count of oscillator `k` (R705). -/
def State.oscMargin (s : State) (k count : Nat) : State × Int :=
  let c : Int := (s.nat (Reg.ageCcrit k) : Int)
  s.margin16 (decide (c ≠ 0)) ((1000 * ((count : Int) - c)) / c)

/-- A measurement of every oscillator: COUNT_k, MARGIN_k and the core margin over the live islands; oscillator 17 of the
NRS-2048S takes no part (R705, R709). -/
def State.ageOscs (s : State) (counts : List Nat) : State × Int :=
  let r := (List.range 24).foldl (fun (a : State × Option Int) k =>
    if a.1.islandExists (oscIsland k) then
      let n := counts.getD k 0
      let s := a.1.wr (Reg.ageCount k) (word n)
      let (s, z) := s.oscMargin k n
      let s := s.setF (Reg.ageOmargin k) 15 0 (unsigned 16 z)
      (s, if s.islandLive (oscIsland k) then
          some (match a.2 with
            | some m => if z < m then z else m
            | none => z)
        else a.2)
    else a) (s, none)
  match r.2 with
  | some m => (r.1, m)
  | none => r.1.margin16 false 0

/-- The effective VDD_CORE window of GUARD in mV (R631, R710). -/
def State.railWindow (s : State) : Nat × Nat :=
  (Nat.max (s.fld Reg.guardRail 15 0) (s.fld Reg.guardFRail 15 0), Nat.min (s.fld Reg.guardRail 31 16) (s.fld Reg.guardFRail 31 16))

/-- `round(V × 2^-N)` of VOUT_COMMAND for a set point in mV (R711). -/
def voutCode (mv : Nat) (n : Int) : Nat :=
  if n < 0 then (2 * mv * 2 ^ (-n).toNat + 1000) / 2000 else (2 * mv + 1000 * 2 ^ n.toNat) / (2000 * 2 ^ n.toNat)

/-- The rail step to `mv` (R711): the PMBus transaction, and whether READ_VOUT lies within 5 mV of it. -/
def State.railStep (s : State) (mv : Nat) (r : Option (Bool × Int × Nat)) : State × Bool :=
  let at' := s.age.rail0.getD (0, 0)
  match r with
  | some (true, n, v) =>
    let s := s.emit (.pmbus at'.1 at'.2 0x21 (voutCode mv n))
    if v ≤ mv + 5 ∧ mv ≤ v + 5 then
      let s := { s with age := { s.age with setpt := mv } }
      ((s.incFSat Reg.ageCounts 31 16).raise Pg.age 0x10, true)
    else (s, false)
  | _ => (s, false)

/-- Step 1 after a measurement that gave `m` (R709 to R711): rail steps while they are wanted and allowed. The answer is the
last margin and whether a step failed. -/
def State.railLoop (s : State) : Nat → Int → List (Option (Bool × Int × Nat)) → List (List Nat) → State × Int × Bool
  | 0, m, _, _ => (s, m, false)
  | n + 1, m, rails, oscs =>
    let lo : Int := (s.fld Reg.ageRcfg 7 0 : Nat)
    let hi : Int := (s.fld Reg.ageRcfg 15 8 : Nat)
    let w := s.railWindow
    let step := s.fld Reg.ageRcfg 31 24
    let target : Int := if m < lo then (s.age.setpt + step : Nat) else (s.age.setpt : Int) - (step : Int)
    if (lo ≤ m ∧ m ≤ hi) ∨ s.age.rail0 = none ∨ target < (w.1 : Int) ∨ (w.2 : Int) < target then (s, m, false)
    else
      let (s, ok) := s.railStep target.toNat (rails.headD none)
      if ok then
        let (s, m) := s.ageOscs (oscs.headD [])
        s.railLoop n m rails.tail oscs.tail
      else
        let s := s.setFlag Reg.ageStat 1 true
        ((s.raise Pg.age 0x8).stick Pg.age 0x20000, m, true)

/-- Step 1 RAIL (R709); a rail step that fatal cause 3 meets fails (R715). -/
def State.ageRail (s : State) (x : AgeRun) : State × AgeRun :=
  let (s, m) := s.ageOscs (x.meas.osc.headD [])
  let rail := match x.railCut with
    | some n => x.meas.rail.take n
    | none => x.meas.rail
  if s.flag Reg.ageCtl 0 then
    let (s, m, bad) := s.railLoop (s.fld Reg.ageRcfg 23 16) m rail x.meas.osc.tail
    (s, { x with margin := m, failed := bad })
  else (s, { x with margin := m })

/-- The drift of a tile, where DREF is not 0 (R706). -/
def State.drift (s : State) (t : Nat) : Option Nat :=
  let r := s.fld (Reg.ageDref t) 15 0
  let d := s.fld (Reg.ageDly t) 15 0
  if r = 0 then none else some (if r ≤ d then d - r else r - d)

/-- Step 2 DELAY (R709, R715). -/
def State.ageDelay (s : State) (dly : List Nat) : State :=
  (List.range 16).foldl (fun s t =>
    if s.pwr t ≠ 4 then s
    else
      let s := s.setF (Reg.ageDly t) 15 0 (dly.getD t 0)
      let big := match s.drift t with
        | some d => decide (s.fld Reg.ageLcfg 23 16 < d)
        | none => false
      if s.flag Reg.ageCtl 2 && big then
        if s.modeNow = 1 then
          let k := Reg.tileCalCtl t
          ((s.setFlag k 1 true).enqTile t k (setBit (s.rd k) 1 true)).setFlag Reg.ageDefer t false
        else s.setFlag Reg.ageDefer t true
      else s.setFlag Reg.ageDefer t false) s

/-- A tile has a tile-link lane below EYE_MIN (R709). -/
def State.eyeLow (s : State) (t : Nat) : Bool :=
  (List.range 4).any (fun l => decide (s.fld (Reg.ageTeye t) (8 * l + 6) (8 * l) < s.fld Reg.ageLcfg 5 0))

/-- Step 3 LINK (R709, R712): a preset goes to its tile on the control bus. -/
def State.ageLink (s : State) (eyes : List (List Nat)) : State :=
  (List.range 16).foldl (fun s t =>
    if s.lst t ≠ 2 ∧ s.lst t ≠ 3 then s
    else
      let s := (List.range 4).foldl (fun s l =>
        let v := if (s.fld (Reg.tlnkLstat t) 15 12).testBit l then Nat.min 64 ((eyes.getD t []).getD l 0) else 0
        s.setF (Reg.ageTeye t) (8 * l + 6) (8 * l) v) s
      let p := s.fld (Reg.agePreset t) 2 0
      if s.flag Reg.ageCtl 1 && s.eyeLow t && decide (p < 7) then
        { s with age := { s.age with presets := s.age.presets ++ [(t, p + 1, s.namedFrame)] } }.enqTile t (Reg.agePreset t)
          (word (p + 1))
      else s) s

/-- Step 4 DOWNLINK (R709, R707). -/
def State.ageDown (s : State) (drx : List Nat) : State :=
  (List.range 2).foldl (fun s n =>
    if s.flag (Reg.drxStatus n) 1 then s.setF (Reg.ageDeye n) 6 0 (Nat.min 64 (drx.getD n 0))
    else if s.flag (Reg.drxStatus n) 0 then s
    else s.setF (Reg.ageDeye n) 6 0 0) s

/-- Step 5 CRYSTAL (R709); whether EOM.XTAL is to be set. -/
def State.ageCrystal (s : State) : State × Bool :=
  if s.flag Reg.ageCtl 8 && s.flag Reg.clkStatus 6 && !s.flag Reg.clkStatus 4 then
    let adj := (2 * s.nat Reg.clkXratioLo * 500000000 + 2 ^ 32) / 2 ^ 33
    if s.fld Reg.clkXratioHi 7 0 ≠ 40 ∨ 8388607 < adj then (s, true)
    else (s.setF Reg.clkXadj 23 0 adj, false)
  else (s, false)

/-- The end-of-margin bits at step 6 (R713). -/
def State.ageEom (s : State) (x : AgeRun) : Nat :=
  let w := s.railWindow
  let core := decide (x.margin < (s.fld Reg.ageRcfg 7 0 : Int)) && (decide (w.2 ≤ s.age.setpt) || !s.flag Reg.ageCtl 0)
  let link := (List.range 16).any (fun t => (decide (s.lst t = 2) || decide (s.lst t = 3)) && s.eyeLow t &&
    decide (s.fld (Reg.agePreset t) 2 0 = 7))
  let drx := (List.range 2).any (fun n => decide (s.fld (Reg.ageDeye n) 6 0 < s.fld Reg.ageLcfg 5 0))
  let tdc := (List.range 16).any (fun t => s.flag Reg.ageDefer t ||
    (match s.drift t with
     | some d => decide (4 * s.fld Reg.ageLcfg 23 16 < d)
     | none => false))
  packFields [(1, (decide (x.margin < 0)).toNat), (1, x.xtal.toNat), (1, tdc.toNat), (1, drx.toNat), (1, link.toNat),
    (1, core.toNat)]

/-- The campaign ends: GO, BUSY and STEP read 0 (R708, R709). -/
def State.ageStop (s : State) : State :=
  let s := { s with age := { s.age with run := none } }
  ((s.setFlag Reg.ageCtl 31 false).setFlag Reg.ageStat 31 false).setF Reg.ageStat 26 24 0

/-- Step 6 REPORT (R709, R713). -/
def State.ageReport (s : State) (x : AgeRun) : State :=
  let s := s.wr Reg.ageCore (word (s.age.setpt * 65536 + unsigned 16 x.margin))
  let eom := s.ageEom x
  let fresh := Nat.land eom (63 - s.fld Reg.ageEom 5 0)
  let s := s.setF Reg.ageEom 5 0 eom
  let s := if fresh = 0 then s else (s.raise Pg.age 0x2).stick Pg.age 0x10000
  let s := s.wr64 Reg.ageLastLo x.xstart
  let s := s.setF Reg.ageDuration 15 0 ((s.time.up - x.start + 1999999) / 2000000)
  ((s.incF Reg.ageCounts 15 0).raise Pg.age 0x1).ageStop

/-- Step 4 of a campaign waits for a host scan of a DRX lane (R715). -/
def State.ageWaits (s : State) : Bool :=
  decide (s.fld Reg.ageStat 26 24 = 4) && (s.flag (Reg.drxScanCtl 0) 31 || s.flag (Reg.drxScanCtl 1) 31)

/-- A campaign cut off ends without a report (R715). -/
def State.ageCut (s : State) : State := s.ageStop.setFlag Reg.ageStat 0 true

/-- The step in progress ends, if it is due, and the next one begins, or the campaign ends where a fatal entry has come (R709,
R715); a host scan of a DRX lane holds step 4 back. -/
def State.ageNext (s : State) : State :=
  match s.age.run with
  | none => s
  | some x =>
    let i := s.fld Reg.ageStat 26 24
    if s.ageWaits then
      { s with age := { s.age with run := some { x with due := s.time.up + x.meas.ticks.getD 3 0 } } }
    else if s.time.up < x.due then s
    else
      let r : State × AgeRun := match i with
        | 1 => s.ageRail x
        | 2 => (s.ageDelay x.meas.dly, x)
        | 3 => (s.ageLink x.meas.eyes, x)
        | 4 => (s.ageDown x.meas.drx, x)
        | 5 =>
          let t := s.ageCrystal
          (t.1, { x with xtal := t.2 })
        | _ => (s, x)
      if x.ending then r.1.ageCut
      else if i = 6 then r.1.ageReport r.2
      else
        let y := { r.2 with due := x.due + x.meas.ticks.getD i 0 }
        ({ r.1 with age := { r.1.age with run := some y } }).setF Reg.ageStat 26 24 (i + 1)

/-- Every step that is due by now is performed, while the SLOW island, whose sequencer runs the campaign, has its clock. -/
def State.agePoll (s : State) : State :=
  if s.fab.stopped.getLsbD 27 then s else s.ageNext.ageNext.ageNext.ageNext.ageNext.ageNext

/-- A fatal entry lets the campaign end after its current step; a step 4 that has not begun is dropped (R715). -/
def State.ageAbort (s : State) : State :=
  let s := s.agePoll
  match s.age.run with
  | some x => if s.ageWaits then s.ageCut else { s with age := { s.age with run := some { x with ending := true } } }
  | none => s

/-- Fatal cause 3 arises: a rail step in progress fails, and how many of step 1 went before it is a free value (R715). -/
def State.ageRailFault (s : State) : State :=
  let s := s.ageAbort
  match s.age.run with
  | some x =>
    if s.fld Reg.ageStat 26 24 = 1 then
      { s with age := { s.age with run := some { x with railCut := some (Config.freeNat s.fresh % 17) } } }.draw
    else s
  | none => s

/-- XTIME, a tick count (R154). -/
def State.xtimeNow (s : State) : Nat := s.time.xacc / 2 ^ 32

/-- NEXT becomes the XTIME of now plus PERIOD_D days (R708). -/
def State.ageSchedule (s : State) : State :=
  s.wr64 Reg.ageNextLo (s.xtimeNow + s.fld Reg.agePeriodD 15 0 * 172800000000000)

/-- A campaign starts with the measurements `m` (R708). -/
def State.ageStart (s : State) (m : AgeMeas) : State :=
  let x : AgeRun := {
    meas := m
    xstart := s.xtimeNow
    start := s.time.up
    due := s.time.up + m.ticks.getD 0 0 }
  let s := s.ageSchedule
  let s := { s with age := { s.age with run := some x } }
  ((s.setFlag Reg.ageCtl 31 true).wr Reg.ageStat (word (2 ^ 31 + 2 ^ 24))).agePoll

/-- Measurements of which nothing is known: a campaign that another agent's write of GO starts. -/
def State.freeMeas (s : State) : AgeMeas :=
  let n := s.fresh
  let f := fun (i : Nat) => Config.freeNat (n + i)
  { osc := (List.range 17).map (fun j => (List.range 24).map (fun k => f (24 * j + k)))
    rail := (List.range 16).map (fun j => some (f (500 + 3 * j) % 2 = 0, -(f (501 + 3 * j) % 16 : Nat), f (502 + 3 * j)))
    dly := (List.range 16).map (fun t => f (600 + t))
    eyes := (List.range 16).map (fun t => (List.range 4).map (fun l => f (700 + 4 * t + l)))
    drx := [f 800, f 801]
    ticks := (List.range 6).map (fun i => f (802 + i) % 173000000) }

/-- Effect of a write of AGE.CTL with the measurements of a campaign it may start (R708). -/
def State.ageCtlWrite (s : State) (v : Word) (m : AgeMeas) : State :=
  let s := s.agePoll
  let busy := s.age.run.isSome
  let s := (s.plainWrite Reg.ageCtl (setBit v 31 false))
  if v.getLsbD 31 = false then s
  else if busy then s.refuse Pg.age
  else s.ageStart m

/-- Effect of a write to an AGE register. -/
def State.ageWrite (s : State) (k : Nat) (v : Word) : State :=
  if k = Reg.ageCtl then
    let m := s.freeMeas
    { s with fresh := s.fresh + 1000 }.ageCtlWrite v m
  else if k = Reg.ageRcfg ∧ wfld v 15 8 ≤ wfld v 7 0 then s.refuse Pg.age
  else s.plainWrite k v

/-- Presets whose frame has begun take effect (R712). -/
def State.agePresets (s : State) (f : Nat) : State :=
  let due := s.age.presets.filter (fun p => decide (p.2.2 ≤ f))
  let s := due.foldl (fun s p => s.setF (Reg.agePreset p.1) 2 0 p.2.1) s
  { s with age := { s.age with presets := s.age.presets.filter (fun p => decide (f < p.2.2)) } }

/-- An AGE page reset, a warm reset or a reset of island 27 (R715): the registers are reset with the page. -/
def State.ageReset (s : State) : State := { s with age := { s.age with run := none, presets := [] } }

/-- AGE_CAMPAIGN_GO (R708): a write of CTL with GO = 1. -/
def execAgeCampaignGo (d : Dom) (v : Word) (m : AgeMeas) (s : State) : Host.Outcome State Fault Refusal :=
  .next (s.hostWrite d Reg.ageCtl (setBit v 31 true) (fun s => s.ageCtlWrite (setBit v 31 true) m))

/-- AGE_CAMPAIGN_SCHEDULED (R708): XTIME has reached NEXT and the SLOW island runs; a start that falls in a campaign is skipped. -/
def execAgeCampaignScheduled (m : AgeMeas) (s : State) : Host.Outcome State Fault Refusal :=
  if s.islandLive 27 = false ∨ s.fld Reg.agePeriodD 15 0 = 0 ∨ s.xtimeNow < s.rd64 Reg.ageNextLo then .next s
  else
    let s := s.agePoll
    .next (if s.age.run.isSome then s.ageSchedule else s.ageStart m)

end Sys2Proof.Machine
end

