-- ==== Sys2Proof/Machine/Tiu.lean ====
section
/-!
DEFINITION. The AUX inputs and the time-interval unit (R259 to R271).
-/
namespace Sys2Proof.Machine

/-- Measurement unit `u`. -/
def State.tiuUnit (s : State) (u : Nat) : TiuUnit := sget {} u s.tiu.units

/-- The state with unit `u` changed by `f`. -/
def State.updTiu (s : State) (u : Nat) (f : TiuUnit → TiuUnit) : State :=
  { s with tiu := { s.tiu with units := sset {} u (f (s.tiuUnit u)) s.tiu.units } }

/-- STAT and the head-result registers of unit `u` follow its queue and its held edge (R268). -/
def State.tiuShow (s : State) (u : Nat) : State :=
  let x := s.tiuUnit u
  let held := match x.held with
    | none => 0
    | some h => if h.isStop then 2 else 1
  let s := (s.setF (Reg.tiuStat u) 20 16 x.queue.length).setF (Reg.tiuStat u) 1 0 held
  let r := x.queue.head?.getD ⟨0, 0, 0⟩
  let v := unsigned 64 r.value
  let s := (s.wr (Reg.tiuResFlags u) (word r.flags)).wr (Reg.tiuResLo u) (word v)
  (s.wr (Reg.tiuResHi u) (word (v / 2 ^ 32))).wr64 (Reg.tiuTfirstLo u) r.first

/-- A read of RES_HI removes the head result. -/
def State.tiuPop (s : State) (u : Nat) : State :=
  (s.updTiu u (fun x => { x with queue := x.queue.drop 1 })).tiuShow u

/-- A completed result enters the queue of its unit or is lost (R268), and the unit re-arms or clears EN (R267). -/
def State.tiuDone (s : State) (u : Nat) (r : TiuResult) : State :=
  let s := if s.flag (Reg.tiuCtl u) 12 then s else s.setFlag (Reg.tiuCtl u) 0 false
  let s := s.updTiu u (fun x => { x with held := none })
  let s := if r.flags.testBit 3 then (s.raise Pg.tiu 0x100).stick Pg.tiu 0x20000 else s
  let s := if (s.tiuUnit u).queue.length < 16 then
      (s.updTiu u (fun x => { x with queue := x.queue ++ [r] })).raise Pg.tiu (2 ^ u)
    else ((s.incSat (Reg.tiuLost u)).raise Pg.tiu (2 ^ (4 + u))).stick Pg.tiu 0x10000
  s.tiuShow u

/-- A result of `d` bins on the scale that CTL.SCALE asks for, as a signed 49-bit value, and whether it was scaled (R263,
R269). That a value beyond 49 bits is limited to them is DEDUCED (entry 72). -/
def State.tiuScale (s : State) (u : Nat) (d : Int) : Int × Bool :=
  if s.flag (Reg.tiuCtl u) 1 && s.flag Reg.clkStatus 6 then
    let x : Nat := s.xratio
    let num : Int := d * 40 * (100000000000 + 5 * signed 24 (s.fld Reg.clkXadj 23 0)) * (2 ^ 32 : Nat)
    let den : Int := 100000000000 * (x : Int)
    (satSigned 49 ((2 * num + den) / (2 * den)), true)
  else (satSigned 49 d, false)

/-- RES_FLAGS (R264 to R269). -/
def tiuFlags (firstBin : Nat) (ovf ambig sub scaled : Bool) : Nat :=
  packFields [(8, firstBin), (4, 0), (1, ovf.toNat), (1, ambig.toNat), (1, sub.toNat), (1, scaled.toNat)]

/-- The held edge of a unit has become more than 2^40 ticks old: the unit completes with OVF (R266, R269). -/
def State.tiuOverflow (s : State) (u : Nat) : State :=
  match (s.tiuUnit u).held with
  | none => s
  | some h =>
    let m : Int := ((2 ^ 48 - 1 : Nat) : Int)
    let (v, sc) := s.tiuScale u (if h.isStop then -m else m)
    s.tiuDone u ⟨tiuFlags (h.at' % 256) true false false sc, v, h.at' / 256⟩

/-- Whether an edge selection takes an edge: 0 rising, 1 falling, 2 both. -/
def edgeFits (sel : Nat) (rising : Bool) : Bool := decide (sel = 2) || decide (sel = if rising then 0 else 1)

/-- Unit `u` sees an edge of `line` at `at'`; `near` carries the separation from the captured edge that opened the 1.6 ns
when the edge is a near edge of it (R262 to R265). Without the crystal the unit is unavailable (R176). -/
def State.tiuEdge (s : State) (line : Nat) (rising : Bool) (at' : Nat) (near : Option Nat) (u : Nat) : State :=
  let c := Reg.tiuCtl u
  if s.flag c 0 = false ∨ s.time.xtal = false then s
  else
    let s := match (s.tiuUnit u).held with
      | some h => if h.at' + 2 ^ 48 < at' then s.tiuOverflow u else s
      | none => s
    if s.flag c 0 = false then s
    else
      let start := decide (s.fld c 5 4 = line) && edgeFits (s.fld c 7 6) rising
      let stop := decide (s.fld c 9 8 = line) && edgeFits (s.fld c 11 10) rising
      match (s.tiuUnit u).held with
      | none =>
        if start then (s.updTiu u (fun x => { x with held := some ⟨false, at'⟩ })).tiuShow u
        else if stop then (s.updTiu u (fun x => { x with held := some ⟨true, at'⟩ })).tiuShow u
        else s
      | some h =>
        if (if h.isStop then start else stop) then
          let ambig := near.isSome && decide (h.at' = at')
          let d : Int := if ambig then ((near.getD 0 : Nat) : Int)
            else if h.isStop then (h.at' : Int) - (at' : Int) else (at' : Int) - (h.at' : Int)
          let (v, sc) := s.tiuScale u d
          s.tiuDone u ⟨tiuFlags (h.at' % 256) false ambig (decide (d = 0)) sc, v, h.at' / 256⟩
        else s

/-- An edge on an AUX input (R259 to R265): captured when no AUX edge came in the 1.6 ns before it; near when it is the second
edge within 1.6 ns after a captured one, on another input; else ignored. An edge within 1.6 ns of an ignored or near edge only
is ignored. DEDUCED (entry 72). A measurement unit takes a near edge at the time of the captured edge that opened the 1.6 ns,
whichever edge is its partner. DESIGN CHOICE (entry 83). -/
def State.auxEdge (s : State) (line tick bin : Nat) (high : Bool) : State :=
  let s := s.advanceTo tick
  let rising := high != s.flag Reg.tiuAuxCtl line
  let T := tick * 256 + bin
  let feed := fun (s : State) (o : AuxOpen) (near : Option Nat) =>
    let s := s.captureAt line o.at' o.wacc o.xacc rising
    (List.range 4).foldl (fun s u => s.tiuEdge line rising o.at' near u) s
  let fresh := fun (s : State) =>
    let o : AuxOpen := ⟨line, T, s.time.wacc, s.time.xacc, T, false⟩
    feed { s with tiu := { s.tiu with aux := some o } } o none
  match s.tiu.aux with
  | none => fresh s
  | some o =>
    let s' := { s with tiu := { s.tiu with aux := some { o with last := T, more := true } } }
    if o.last + 819 < T then fresh s
    else if o.line = line ∨ o.more ∨ o.at' + 819 < T then s'.incFSat Reg.tiuAuxPile (8 * line + 7) (8 * line)
    else
      let s := s'
      feed (s.incFSat Reg.tiuAuxNear (8 * line + 7) (8 * line)) o (some (T - o.at'))

/-- Effect of a write of a unit's CTL: while EN is 1 the other fields keep their values, and a change of one is refused
(R20, R271). -/
def State.tiuCtlWrite (s : State) (u : Nat) (v : Word) : State :=
  let k := Reg.tiuCtl u
  let old := s.rd k
  let s := if old.getLsbD 0 then
      (if (old ^^^ v) &&& 0x1FF2 ≠ 0 then s.refuse Pg.tiu else s).setFlag k 0 (v.getLsbD 0)
    else s.plainWrite k v
  if v.getLsbD 0 then s else (s.updTiu u (fun x => { x with held := none })).tiuShow u

/-- The units, their queues and the AUX counters are cleared (R271). -/
def State.tiuClear (s : State) : State :=
  let s := { s with tiu := {}, regs := s.regs.filter (fun e => decide (e.1 / 0x1000 ≠ Pg.tiu)) }
  s

/-- AUX_EDGE. -/
def execAuxEdge (line : Fin 4) (tick : Nat) (bin : Fin 256) (high : Bool) (s : State) : Host.Outcome State Fault Refusal :=
  .next (s.auxEdge line tick bin high)

/-- TIU_OVERFLOW (R266). -/
def execTiuOverflow (u : Fin 4) (s : State) : Host.Outcome State Fault Refusal :=
  match (s.tiuUnit u).held with
  | none => .next s
  | some h => .next ((s.advanceTo (h.at' / 256 + 2 ^ 40 + 1)).tiuOverflow u)

/-- TIU_CTL_WRITE (R271). -/
def execTiuCtlWrite (d : Dom) (u : Fin 4) (v : Word) (s : State) : Host.Outcome State Fault Refusal :=
  .next (s.hostWrite d (Reg.tiuCtl u) v (fun s => s.tiuCtlWrite u v))

end Sys2Proof.Machine
end

