-- ==== Sys2Proof/Machine/Crypto.lean ====
section
/-!
DEFINITION. SHA-256 and the Ed25519 signature check of RFC 8032 with its SHA-512, which R655 names for firmware images.
-/
namespace Sys2Proof.Machine

/-- The first 32 bits of the fractional parts of the cube roots of the first 64 primes. -/
def sha256K : List Nat :=
  [0x428A2F98, 0x71374491, 0xB5C0FBCF, 0xE9B5DBA5, 0x3956C25B, 0x59F111F1, 0x923F82A4, 0xAB1C5ED5,
   0xD807AA98, 0x12835B01, 0x243185BE, 0x550C7DC3, 0x72BE5D74, 0x80DEB1FE, 0x9BDC06A7, 0xC19BF174] ++
  [0xE49B69C1, 0xEFBE4786, 0x0FC19DC6, 0x240CA1CC, 0x2DE92C6F, 0x4A7484AA, 0x5CB0A9DC, 0x76F988DA,
   0x983E5152, 0xA831C66D, 0xB00327C8, 0xBF597FC7, 0xC6E00BF3, 0xD5A79147, 0x06CA6351, 0x14292967] ++
  [0x27B70A85, 0x2E1B2138, 0x4D2C6DFC, 0x53380D13, 0x650A7354, 0x766A0ABB, 0x81C2C92E, 0x92722C85,
   0xA2BFE8A1, 0xA81A664B, 0xC24B8B70, 0xC76C51A3, 0xD192E819, 0xD6990624, 0xF40E3585, 0x106AA070] ++
  [0x19A4C116, 0x1E376C08, 0x2748774C, 0x34B0BCB5, 0x391C0CB3, 0x4ED8AA4A, 0x5B9CCA4F, 0x682E6FF3,
   0x748F82EE, 0x78A5636F, 0x84C87814, 0x8CC70208, 0x90BEFFFA, 0xA4506CEB, 0xBEF9A3F7, 0xC67178F2]

/-- The first 64 bits of the fractional parts of the cube roots of the first 80 primes. -/
def sha512K : List Nat :=
  [0x428A2F98D728AE22, 0x7137449123EF65CD, 0xB5C0FBCFEC4D3B2F, 0xE9B5DBA58189DBBC,
   0x3956C25BF348B538, 0x59F111F1B605D019, 0x923F82A4AF194F9B, 0xAB1C5ED5DA6D8118,
   0xD807AA98A3030242, 0x12835B0145706FBE, 0x243185BE4EE4B28C, 0x550C7DC3D5FFB4E2,
   0x72BE5D74F27B896F, 0x80DEB1FE3B1696B1, 0x9BDC06A725C71235, 0xC19BF174CF692694] ++
  [0xE49B69C19EF14AD2, 0xEFBE4786384F25E3, 0x0FC19DC68B8CD5B5, 0x240CA1CC77AC9C65,
   0x2DE92C6F592B0275, 0x4A7484AA6EA6E483, 0x5CB0A9DCBD41FBD4, 0x76F988DA831153B5,
   0x983E5152EE66DFAB, 0xA831C66D2DB43210, 0xB00327C898FB213F, 0xBF597FC7BEEF0EE4,
   0xC6E00BF33DA88FC2, 0xD5A79147930AA725, 0x06CA6351E003826F, 0x142929670A0E6E70] ++
  [0x27B70A8546D22FFC, 0x2E1B21385C26C926, 0x4D2C6DFC5AC42AED, 0x53380D139D95B3DF,
   0x650A73548BAF63DE, 0x766A0ABB3C77B2A8, 0x81C2C92E47EDAEE6, 0x92722C851482353B,
   0xA2BFE8A14CF10364, 0xA81A664BBC423001, 0xC24B8B70D0F89791, 0xC76C51A30654BE30,
   0xD192E819D6EF5218, 0xD69906245565A910, 0xF40E35855771202A, 0x106AA07032BBD1B8] ++
  [0x19A4C116B8D2D0C8, 0x1E376C085141AB53, 0x2748774CDF8EEB99, 0x34B0BCB5E19B48A8,
   0x391C0CB3C5C95A63, 0x4ED8AA4AE3418ACB, 0x5B9CCA4F7763E373, 0x682E6FF3D6B2B8A3,
   0x748F82EE5DEFB2FC, 0x78A5636F43172F60, 0x84C87814A1F0AB72, 0x8CC702081A6439EC,
   0x90BEFFFA23631E28, 0xA4506CEBDE82BDE9, 0xBEF9A3F7B2C67915, 0xC67178F2E372532B] ++
  [0xCA273ECEEA26619C, 0xD186B8C721C0C207, 0xEADA7DD6CDE0EB1E, 0xF57D4F7FEE6ED178,
   0x06F067AA72176FBA, 0x0A637DC5A2C898A6, 0x113F9804BEF90DAE, 0x1B710B35131C471B,
   0x28DB77F523047D84, 0x32CAAB7B40C72493, 0x3C9EBE0A15C9BEBC, 0x431D67C49C100D4C,
   0x4CC5D4BECB3E42B6, 0x597F299CFC657E2A, 0x5FCB6FAB3AD6FAEC, 0x6C44198C4A475817]

/-- The initial hash value of SHA-256. -/
def sha256H : List Nat :=
  [0x6A09E667, 0xBB67AE85, 0x3C6EF372, 0xA54FF53A, 0x510E527F, 0x9B05688C, 0x1F83D9AB, 0x5BE0CD19]

/-- The initial hash value of SHA-512. -/
def sha512H : List Nat :=
  [0x6A09E667F3BCC908, 0xBB67AE8584CAA73B, 0x3C6EF372FE94F82B, 0xA54FF53A5F1D36F1,
   0x510E527FADE682D1, 0x9B05688C2B3E6C1F, 0x1F83D9ABFB41BD6B, 0x5BE0CD19137E2179]

/-- A `w`-bit word rotated right by `k`. -/
def rotr (w x k : Nat) : Nat := x / 2 ^ k + x % 2 ^ k * 2 ^ (w - k)

/-- What differs between the two functions of the SHA-2 family: the word width, the round constants and the rotation and
shift counts of Σ0, Σ1, σ0 and σ1. -/
structure ShaParams where
  w : Nat
  k : List Nat
  big0 : Nat × Nat × Nat
  big1 : Nat × Nat × Nat
  sml0 : Nat × Nat × Nat
  sml1 : Nat × Nat × Nat
  deriving DecidableEq, Repr

/-- SHA-256. -/
def sha256P : ShaParams := { w := 32, k := sha256K, big0 := (2, 13, 22), big1 := (6, 11, 25), sml0 := (7, 18, 3), sml1 := (17, 19, 10) }

/-- SHA-512. -/
def sha512P : ShaParams := { w := 64, k := sha512K, big0 := (28, 34, 39), big1 := (14, 18, 41), sml0 := (1, 8, 7), sml1 := (19, 61, 6) }

/-- The exclusive OR of three rotations. -/
def shaBig (w x : Nat) (r : Nat × Nat × Nat) : Nat := Nat.xor (Nat.xor (rotr w x r.1) (rotr w x r.2.1)) (rotr w x r.2.2)

/-- The exclusive OR of two rotations and a shift. -/
def shaSmall (w x : Nat) (r : Nat × Nat × Nat) : Nat := Nat.xor (Nat.xor (rotr w x r.1) (rotr w x r.2.1)) (x / 2 ^ r.2.2)

/-- One round on the eight working words. -/
def shaRound (q : ShaParams) (v : List Nat) (kw : Nat) : List Nat :=
  match v with
  | [a, b, c, d, e, f, g, h] =>
    let m := 2 ^ q.w
    let ch := Nat.xor (Nat.land e f) (Nat.land (m - 1 - e) g)
    let maj := Nat.xor (Nat.xor (Nat.land a b) (Nat.land a c)) (Nat.land b c)
    let t1 := h + shaBig q.w e q.big1 + ch + kw
    let t2 := shaBig q.w a q.big0 + maj
    [(t1 + t2) % m, a, b, c, (d + t1) % m, e, f, g]
  | _ => v

/-- The rounds of a block: `win` is the window of 16 schedule words that starts with the next word used. -/
def shaRounds (q : ShaParams) : List Nat → List Nat → List Nat → List Nat
  | [], _, v => v
  | k :: ks, win, v =>
    let next := (shaSmall q.w (nth win 14) q.sml1 + nth win 9 + shaSmall q.w (nth win 1) q.sml0 + nth win 0) % 2 ^ q.w
    shaRounds q ks (win.drop 1 ++ [next]) (shaRound q v (k + nth win 0))

/-- The number that bytes stand for, highest first. -/
def beNat (bs : List Byte) : Nat := bs.foldl (fun a b => a * 256 + b.toNat) 0

/-- The blocks of a padded message, `n` at most. -/
def shaBlocks (q : ShaParams) : Nat → List Byte → List Nat → List Nat
  | 0, _, h => h
  | n + 1, bs, h =>
    if bs = [] then h
    else
      let b := q.w / 8
      let win := (List.range 16).map (fun i => beNat ((bs.drop (i * b)).take b))
      let v := shaRounds q q.k win h
      shaBlocks q n (bs.drop (16 * b)) (List.zipWith (fun x y => (x + y) % 2 ^ q.w) h v)

/-- The padding of a message: a 1 bit, zeros, and its length in bits in the last two words of a block. -/
def shaPad (q : ShaParams) (bs : List Byte) : List Byte :=
  let blk := 2 * q.w
  let lenB := q.w / 4
  let z := (blk - (bs.length + 1 + lenB) % blk) % blk
  bs ++ [0x80] ++ List.replicate z 0 ++ (leBytes lenB (bs.length * 8)).reverse

/-- A function of the family: its hash as bytes. -/
def sha (q : ShaParams) (h0 : List Nat) (bs : List Byte) : List Byte :=
  (shaBlocks q (bs.length + 1) (shaPad q bs) h0).flatMap (fun x => (leBytes (q.w / 8) x).reverse)

/-- SHA-256 of a message (R655). -/
def sha256 (bs : List Byte) : List Byte := sha sha256P sha256H bs

/-- SHA-512 of a message, as Ed25519 uses it. -/
def sha512 (bs : List Byte) : List Byte := sha sha512P sha512H bs

/-- The prime of the field of Ed25519. -/
def edP : Nat := 2 ^ 255 - 19

/-- The order of the base point. -/
def edL : Nat := 2 ^ 252 + 27742317777372353535851937790883648493

/-- `b` to the power `e` modulo `edP`; `n` bounds the bits of `e`. -/
def edPow : Nat → Nat → Nat → Nat
  | 0, _, _ => 1
  | n + 1, b, e =>
    let h := edPow n (b * b % edP) (e / 2)
    if e % 2 = 1 then h * b % edP else h

/-- The inverse modulo `edP`. -/
def edInv (x : Nat) : Nat := edPow 256 x (edP - 2)

/-- The curve constant d. -/
def edD : Nat := (edP - 121665) * edInv 121666 % edP

/-- The sum of two points in projective coordinates (X, Y, Z) of the twisted Edwards curve. -/
def edAdd (a b : Nat × Nat × Nat) : Nat × Nat × Nat :=
  let p := edP
  let zz := a.2.2 * b.2.2 % p
  let xx := a.1 * b.1 % p
  let yy := a.2.1 * b.2.1 % p
  let e := edD * (xx * yy % p) % p
  let bq := zz * zz % p
  let f := (bq + p - e) % p
  let g := (bq + e) % p
  let cross := ((a.1 + a.2.1) * (b.1 + b.2.1) + 2 * p - xx - yy) % p
  (zz * f % p * cross % p, zz * g % p * ((yy + xx) % p) % p, f * g % p)

/-- The multiple of a point by `k`; `n` bounds the bits of `k`. -/
def edMul : Nat → Nat → Nat × Nat × Nat → Nat × Nat × Nat
  | 0, _, _ => (0, 1, 1)
  | n + 1, k, q =>
    let h := edMul n (k / 2) (edAdd q q)
    if k % 2 = 1 then edAdd h q else h

/-- Two points are equal. -/
def edEq (a b : Nat × Nat × Nat) : Bool :=
  decide (a.1 * b.2.2 % edP = b.1 * a.2.2 % edP) && decide (a.2.1 * b.2.2 % edP = b.2.1 * a.2.2 % edP)

/-- The point that 32 bytes encode, if they encode one. -/
def edDecode (bs : List Byte) : Option (Nat × Nat × Nat) :=
  let n := leNat bs
  let y := n % 2 ^ 255
  let sign := n / 2 ^ 255 % 2
  let p := edP
  if p ≤ y then none
  else
    let u := (y * y + p - 1) % p
    let v := (edD * (y * y % p) + 1) % p
    let v3 := v * v % p * v % p
    let x0 := u * v3 % p * edPow 256 (u * (v3 * v3 % p * v % p) % p) ((p - 5) / 8) % p
    let r := v * (x0 * x0 % p) % p
    let x := if r = u then some x0
      else if r = (p - u) % p then some (x0 * edPow 256 2 ((p - 1) / 4) % p)
      else none
    match x with
    | none => none
    | some x =>
      if x = 0 ∧ sign = 1 then none
      else some (if x % 2 = sign then x else p - x, y, 1)

/-- The base point, whose y is 4/5 and whose x is even. -/
def edBase : Nat × Nat × Nat := (edDecode (leBytes 32 (4 * edInv 5 % edP))).getD (0, 1, 1)

/-- The signature check of RFC 8032, section 5.1.7, with the group equation multiplied by 8. -/
def edVerify (key sig msg : List Byte) : Bool :=
  match edDecode key, edDecode (sig.take 32) with
  | some a, some r =>
    let s := leNat ((sig.drop 32).take 32)
    if edL ≤ s then false
    else
      let k := leNat (sha512 (sig.take 32 ++ key ++ msg)) % edL
      edEq (edMul 4 8 (edMul 256 s edBase)) (edAdd (edMul 4 8 r) (edMul 4 8 (edMul 256 k a)))
  | _, _ => false

end Sys2Proof.Machine
end

