-- ==== Sys2Proof/Machine/Mode.lean ====
section
/-!
DEFINITION. Operating modes: requests, changes, the fatal entry and loss of REF (R117 to R148, R172 to
R176, R226, R714).
-/
namespace Sys2Proof.Machine

/-- The state with the mode logic's own part changed. -/
def State.updMode (s : State) (f : ModeSt → ModeSt) : State := { s with mode := f s.mode }

/-- A request is pending (MODE.PEND.VALID). -/
def State.pending? (s : State) : Bool := s.flag Reg.modePend 31

/-- Every tile for which `p` holds goes OFF. -/
def State.tilesOff (s : State) (p : Nat → Bool) : State :=
  (List.range 16).foldl (fun s t => if p t then (s.tileOff t).drainHeld t else s) s

/-- MODE.RESULT holds an outcome; a refusal is signalled (R126). -/
def State.modeResult (s : State) (code : Nat) : State :=
  let s := s.wr Reg.modeResult (word (2 ^ 31 + code * 2 ^ 28))
  if code = 0 then s else s.raise Pg.mode 0x2

/-- The pending request goes: an Umbra-to-Idle preparation ends with its tiles powered down (R133, R144, R148); a tile that the
preparation left in FAULT goes OFF with them. DESIGN CHOICE (entry 84). -/
def State.dropPend (s : State) : State :=
  let s := (s.wr Reg.modePend 0).setFlag Reg.modeCurrent 31 false
  if s.modeNow = 0 then (s.updMode (fun m => { m with prep := false, prepDone := false })).tilesOff (fun t => decide (s.pwr t ≠ 0) || (s.tile t).onAt.isSome)
  else s

/-- A pending request is discarded (R144). -/
def State.discardPend (s : State) : State := if s.pending? then s.dropPend.stick Pg.mode 0x40000 else s

/-- FAULT_N and SYS.STATUS.FAULT (R141, R142). -/
def State.setFaultN (s : State) (b : Bool) : State := (s.updMode (fun m => { m with faultN := b })).setFlag Reg.sysStatus 2 b

/-- The trigger primitives that wait are not sent in Umbra; the frame markers are (R118, R318). -/
def State.tpStop (s : State) : State := s.updTrig (fun x => { x with tpq := x.tpq.filter (fun e => e.1) })

/-- The data path stops at once: the column of R139 for a fatal entry. -/
def State.pathStop (s : State) : State :=
  let s := s.tpStop.laneFatal.qFatal true
  let s := { s.evbDiscard.engHalt with xfers := s.xfers.filter (fun x => match x with
    | .hit _ _ _ | .out _ => false
    | _ => true) }
  let s := s.ringEmpty.hampFatal
  let s := s.tailFatal
  let s := s.updAcq (fun a => { a with streams := a.streams.filter (fun x => decide (x.1 < 0x10000)) })
  let s := s.tilesOff (fun _ => true)
  (s.lightOff.servoUmbra).ageAbort

/-- Umbra is in force from now on, in the frame that contains now. -/
def State.toUmbra (s : State) : State :=
  let f := Nat.max s.time.frame (frameOf s.now)
  let s := (s.setF Reg.modeCurrent 3 0 0).wr64 Reg.modeSinceLo f
  let s := s.updMode (fun m => { m with prep := false, prepDone := false, hist := (f, 0, false) :: m.hist })
  s.setDegraded 23 false

/-- The pages whose registers a commanded mode change writes. -/
def undoPages : List Nat := [Pg.mode, Pg.lring, Pg.hamp, Pg.tail, Pg.rle]

/-- The registers that a commanded mode change writes: those pages, and the result of each capture unit that takes mode changes. -/
def State.undoReg (s : State) (k : Nat) : Bool :=
  decide (k / 0x1000 ∈ undoPages) ||
    (decide (k / 0x1000 = Pg.time) && (List.range 24).any (fun i =>
      decide (s.fld (Reg.timeCapCtl i) 6 1 = 7) && decide (Reg.timeCapCtl i < k) && decide (k ≤ Reg.timeCapLost i)))

/-- The bits of a register that writes alone change (R18). -/
def writtenBits (k : Nat) : Word :=
  match regRow? k with
  | some r => word r.rw ||| word r.rwl ||| word r.rws
  | none => 0

/-- A request that has taken effect at this very tick is pending again, as if its frame had not started: what the block itself
writes into registers, the history of modes and the stores of ACQ are those it found (R143). -/
def State.undoChange (s : State) : State :=
  match s.undo with
  | none => s
  | some u =>
    if u.at' ≠ s.now then s
    else
      let ks := ((s.regs ++ u.regs).map (fun e => e.1)).filter (fun k => s.undoReg k)
      let s := ks.foldl (fun s k =>
        s.wr k ((sget (resetOf k) k u.regs &&& ~~~writtenBits k) ||| (s.rd k &&& writtenBits k))) s
      let s := { s with undo := none, acq := u.acq }
      let s : State := s.updMode (fun m => { m with hist := u.hist })
      let s : State := s.setDegraded 23 (decide (s.modeNow = 5))
      if s.modeNow = 0 then s.servoUmbra else s

/-- Fatal cause `c` arises (R137, R140 to R144). Where a request has taken effect at this very tick, the fatal entry takes place
and the request is discarded (R143). -/
def State.fatalStart (s : State) (c : Nat) : State :=
  if s.mode.fatal.getLsbD c then s
  else
    let s := s.undoChange.updMode (fun m => { m with fatal := m.fatal ||| BitVec.ofNat 16 (2 ^ c) })
    let s := s.wr Reg.modeCause (word (256 + c))
    let s := s.discardPend.setFaultN true
    let s := if c = 3 then s.ageRailFault else s
    if s.modeNow = 0 then s
    else
      let s := (s.inc Reg.modeChanges).capture 7
      let s := (s.incSat Reg.modeFatalCount).raise Pg.mode 0x9
      ((s.stick Pg.mode 0x20000).toUmbra.pathStop).capture 8

/-- Fatal cause `c` no longer lasts (R140). -/
def State.fatalEnd (s : State) (c : Nat) : State :=
  let s := s.updMode (fun m => { m with fatal := m.fatal &&& ~~~(BitVec.ofNat 16 (2 ^ c)) })
  s.setFlag Reg.modeCause 8 (s.mode.fatal != 0)

/-- The outcome code of a request, judged in the order of R726. -/
def State.modeJudge (s : State) (target : Nat) (tail at' : Bool) (frame : Nat) : Nat :=
  let cur := s.modeNow
  let data := decide (2 ≤ target) && decide (target ≤ 4)
  if 5 < target then 2
  else if s.pending? then 1
  else if (target = cur ∧ tail = s.tailOn) ∨ (cur = 0 ∧ target ≠ 1) then 2
  else if tail ∧ (s.variant = .s ∨ data = false ∨ 3 < s.fld Reg.deccCtl 2 0) then 5
  else if cur = 0 ∧ (s.flag Reg.sysStatus 6 = false ∨ s.flag Reg.sysStatus 0 ∨ s.flag Reg.modeCause 8) then 4
  else if at' ∧ frame * 65536 < s.now + 16384 then 3
  else 0

/-- Effect of a write of MODE.REQ from domain `d` (R126 to R136, R726). STICKY.REFUSED is set for a TARGET of 6 or 7, the one
refusal for which R726 names it; that the others leave it is DESIGN CHOICE (entry 69). A refusal for its BCH strength shows in
the TAIL page as BCH and REFUSED (R124). -/
def State.modeReq (s : State) (d : Dom) (v : Word) : State :=
  let target := wfld v 2 0
  let tail := v.getLsbD 3
  let at' := v.getLsbD 4
  let frame := if at' then s.rd64 Reg.modeAtFrameLo else (s.now + 16384 + 65535) / 65536
  let code := s.modeJudge target tail at' frame
  let s := if 5 < target then s.refuse Pg.mode else s
  let s := if code = 5 ∧ s.variant = .t ∧ 2 ≤ target ∧ target ≤ 4 then s.stick Pg.tail 0x10001 else s
  let s := s.modeResult code
  if code ≠ 0 then s
  else
    let s := s.wr Reg.modePend (word (2 ^ 31 + (if tail then 8 else 0) + target))
    let s := (s.wr64 Reg.modePendFrameLo frame).setFlag Reg.modeCurrent 31 true
    let s := s.updMode (fun m => { m with pendDom := domIdx d })
    if s.modeNow = 0 then
      let s := s.updMode (fun m => { m with prep := true, prepDone := false })
      (List.range 16).foldl (fun s t => s.tilePower t) (s.setFaultN false)
    else s

/-- Effect of an accepted write of MODE.CANCEL (R133). -/
def State.modeCancel (s : State) : State := if s.pending? then s.dropPend.modeResult 0 else s.modeResult 6

/-- A MODE page reset withdraws a pending request (R148); RESULT, INT_STAT and STICKY are reset with the page. -/
def State.modeReset (s : State) : State := if s.pending? then s.dropPend else s

/-- Hit words in intake leave it in ascending frame for their old path, before the tiles of a commanded Umbra go OFF (R130,
R137, R139). -/
def State.intakeDrain (s : State) : Nat → State
  | 0 => s
  | n + 1 =>
    let heads := (List.range 16).filterMap (fun l => ((s.link l).buf.head?).map (fun e => (l, e)))
    match heads with
    | [] => s
    | h :: r =>
      let b := r.foldl (fun a e => if e.2.1 < a.2.1 then e else a) h
      (s.passWord b.1 b.2.1 b.2.2).intakeDrain n

/-- The words that intake holds. -/
def State.intakeCount (s : State) : Nat := (List.range 16).foldl (fun n l => n + (s.link l).buf.length) 0

/-- The pending request takes effect at the start of frame `f` (R125, R127, R137 to R139). PEND_FRAME keeps the frame of the last
request once none is pending. DESIGN CHOICE (entry 69). -/
def State.modeApply (s : State) (f : Nat) : State :=
  let m := s.fld Reg.modePend 2 0
  let tail := s.flag Reg.modePend 3
  let old := s.modeNow
  let oldTail := s.tailOn
  let s := { s with undo := some ⟨s.now, s.regs, s.mode.hist, s.acq⟩ }
  let s := s.wr Reg.modePend 0
  let s := s.wr Reg.modeCurrent (word ((if tail then 8 else 0) + m))
  let s := (s.wr64 Reg.modeSinceLo f).inc Reg.modeChanges
  let s := s.raise Pg.mode 0x1
  let s := s.updMode (fun x => { x with
    prep := false, prepDone := false, hist := (f, m, tail) :: x.hist })
  let s := s.capture 7
  let s := if oldTail && !tail then s.tailEnd f else if tail && !oldTail then s.tailStart f else s
  let s := if old = 4 ∧ m ≠ 4 then s.hampStop (f * 65536) else if old ≠ 4 ∧ m = 4 then s.hampEnter (f * 65536) else s
  let s := if m ≠ old then ((s.nbrRead m).allowFull).engUnpass m f else s
  let s := s.setDegraded 23 (decide (m = 5))
  let s := if m = 0 then
      let s := s.setF Reg.modeCause 3 0 1
      let s := s.setF Reg.modeCause 5 4 s.mode.pendDom
      ((s.tpStop.intakeDrain s.intakeCount).tilesOff (fun _ => true)).servoUmbra
    else if old = 0 then s.servoIdle
    else s
  s.lightMode

/-- The pending request takes effect at the start of frame `f` (R127, R129). -/
def State.modeDue (s : State) (f : Nat) : Bool :=
  s.pending? && decide (s.rd64 Reg.modePendFrameLo ≤ f) && (decide (s.modeNow ≠ 0) || s.mode.prepDone)

/-- A disagreement in the voted copies of the hub register at `k`; where all three copies disagree the register's value is
a free one and fatal cause 6 applies (R714). -/
def State.hubVote (s : State) (k : Nat) (all3 : Bool) : State :=
  let s := ((s.incSat Reg.ageSeuHub).raise Pg.age 0x4).stick Pg.age 0x40000
  if all3 then
    let w := word (Config.freeNat s.fresh)
    let m := match regRow? k with
      | some r => word r.rw ||| word r.rwl ||| word r.rws
      | none => 0
    (s.draw.wr k ((s.rd k &&& ~~~m) ||| (w &&& m))).fatalStart 6
  else s

/-- UMBRA_IDLE_PREP_COMPLETE (R129, R223): every tile that is not disabled is LIVE or FAULT. A tile whose DISABLE is written to 0
after this and before the change is powered up too, and the change does not wait for it. DESIGN CHOICE (entry 84). -/
def execUmbraIdlePrepComplete (s : State) : Host.Outcome State Fault Refusal :=
  let done := (List.range 16).all (fun t => s.flag (Reg.tileCtl t) 8 || decide (s.pwr t = 4) || decide (s.pwr t = 5))
  if s.pending? && s.mode.prep && !s.mode.prepDone && done then
    let s := s.updMode (fun m => { m with prepDone := true })
    if s.rd64 Reg.modePendFrameLo * 65536 ≤ s.now then
      .next (((s.wr64 Reg.modePendFrameLo (s.now / 65536 + 1)).stick Pg.mode 0x10000).raise Pg.mode 0x4)
    else .next s
  else .next s

/-- A fatal condition that the module itself still finds (R140). -/
def State.causeLasts (s : State) (c : Nat) : Bool :=
  match c with
  | 2 => s.flag Reg.guardStatus 16
  | 4 => s.time.refLost
  | 5 => decide (s.activeStw = none)
  | 6 => true
  | _ => false

/-- FATAL_CAUSE_END (R140). -/
def execFatalCauseEnd (cause : Fin 16) (s : State) : Host.Outcome State Fault Refusal :=
  if s.causeLasts cause then .next s else .next (s.fatalEnd cause)

/-- RAIL_FAULT (R680): fatal cause 3. -/
def execRailFault (s : State) : Host.Outcome State Fault Refusal := .next (s.fatalStart 3)

/-- Holdover begins or ends (R173, R174). -/
def State.setHoldover (s : State) (b : Bool) : State :=
  (((s.setFlag Reg.sysStatus 3 b).setFlag Reg.clkStatus 4 b).setFlag Reg.clkStatus 3 b).setFlag Reg.clkStatus 0 (!b)

/-- REF_LOST (R173, R176): holdover on the crystal, or without a crystal all three bases stop. A loss while REF is lost already,
in its qualification included, has no further effect. DESIGN CHOICE (entry 62). A whole crystal period begins at the loss.
DESIGN CHOICE (entry 82). -/
def execRefLost (s : State) : Host.Outcome State Fault Refusal :=
  if s.time.refLost then .next s
  else
    let s := (if s.time.xtal then s.setHoldover true else s.setFlag Reg.clkStatus 0 false).incSat Reg.clkLossCount
    let s := (s.raise Pg.clk 0x1).capture 5
    let run := s.time.running && s.time.xtal
    let s := { s with time := { s.time with holdStart := s.time.up, running := run, refLost := true, holdRem := 0 } }
    .next (s.fatalStart 4)

/-- REF_RETURN (R174, R176): REF has been present and in range for 10 ms. HOLD_LEN counts the ticks that MTIME counted; 0 where it
stood still. DESIGN CHOICE (entry 62). -/
def execRefReturn (s : State) : Host.Outcome State Fault Refusal :=
  if s.time.refLost = false then .next s
  else
    let s := (s.setHoldover false).setFlag Reg.timeStatus 0 false
    let s := s.wr Reg.clkHoldLen (word (Nat.min 0xFFFFFFFF ((s.time.up - s.time.holdStart) / 2000)))
    let s := (s.raise Pg.clk 0x2).capture 6
    let locked := s.flag Reg.clkStatus 2
    let s := { s with time := { s.time with running := s.time.running || locked, refLost := false, holdRem := 0 } }
    .next (s.fatalEnd 4)

/-- REF_QUALIFY_TIMEOUT (R641): before the first lock, the PLL starts from the crystal. -/
def execRefQualifyTimeout (s : State) : Host.Outcome State Fault Refusal :=
  if s.flag Reg.clkStatus 2 then .next s
  else
    let s := { s with time := { s.time with refLost := true } }
    .next ((if s.time.xtal then s.setHoldover true else s).fatalStart 4)

end Sys2Proof.Machine
end

