-- ==== Sys2Proof/Machine/Serial.lean ====
section
/-!
DEFINITION. What the bits on the serial lanes are: the order of bits (R15), the blocks and the scrambler of 64b/66b lanes (R272,
R462), the 8b/10b characters of the compatibility format (R477, R478) and of the trigger bus (R329, R330).
-/
namespace Sys2Proof.Machine

/-- The low `n` bits of a number in the order in which a lane sends them: bit 0 first (R15). -/
def bitsOf : Nat → Nat → List Bool
  | 0, _ => []
  | n + 1, v => decide (v % 2 = 1) :: bitsOf n (v / 2)

/-- The number whose bits a lane has sent in this order, bit 0 first (R15). -/
def bitsNat : List Bool → Nat
  | [] => 0
  | b :: r => b.toNat + 2 * bitsNat r

/-- The bit that the scrambler 1 + x^39 + x^58 adds, from the last 58 bits on the lane, the latest in bit 0 (R272). -/
def scramTap (st : Nat) : Bool := st.testBit 38 != st.testBit 57

/-- The last 58 bits on the lane after bit `b`. -/
def scramNext (st : Nat) (b : Bool) : Nat := (2 * st + b.toNat) % 2 ^ 58

/-- Bits scrambled from state `st` on (R272): each is added to the sum of the bits sent 39 and 58 places before it. -/
def scramble (st : Nat) : List Bool → List Bool
  | [] => []
  | b :: r =>
    let o := b != scramTap st
    o :: scramble (scramNext st o) r

/-- Bits descrambled from state `st` on: the receiver needs the bits on the lane alone (R272). -/
def descramble (st : Nat) : List Bool → List Bool
  | [] => []
  | o :: r => (o != scramTap st) :: descramble (scramNext st o) r

/-- The 66 bits of a block on a 64b/66b lane: the sync header, 0b01 of a data block and 0b10 of a control block, unscrambled,
then the scrambled payload (R273, R462, R465). `st` is the scrambler's state: the last 58 payload bits sent. That bit 0 of the
sync header comes first, as R15 has it of a block, is DEDUCED (log 75). -/
def lineBlock (st : Nat) (data : Bool) (payload : DWord) : List Bool :=
  bitsOf 2 (if data then 1 else 2) ++ scramble st (bitsOf 64 payload.toNat)

/-- A block received: whether it is a data block, none where its sync header is invalid, and its payload (R273, R278). -/
def readBlock (st : Nat) (bits : List Bool) : Option Bool × DWord :=
  let h := bitsNat (bits.take 2)
  let d := if h = 1 then some true else if h = 2 then some false else none
  (d, BitVec.ofNat 64 (bitsNat (descramble st (bits.drop 2))))

/-- The 6-bit groups abcdei of the data characters D.x, bit a first, at negative running disparity. -/
def sixB : List Nat := [0b100111, 0b011101, 0b101101, 0b110001, 0b110101, 0b101001, 0b011001, 0b111000, 0b111001, 0b100101,
  0b010101, 0b110100, 0b001101, 0b101100, 0b011100, 0b010111, 0b011011, 0b100011, 0b010011, 0b110010, 0b001011, 0b101010,
  0b011010, 0b111010, 0b110011, 0b100110, 0b010110, 0b110110, 0b001110, 0b101110, 0b011110, 0b101011]

/-- The 4-bit groups fghj of the data characters D.x.y, bit f first, at negative running disparity. -/
def fourB : List Nat := [0b1011, 0b1001, 0b0101, 0b1100, 0b1101, 0b1010, 0b0110, 0b1110]

/-- The 10-bit groups of the special characters in use at negative running disparity: K28.1, K28.5, K27.7, K29.7, K30.7. -/
def specialB (k : Nat) : Nat :=
  match k with
  | 0x3C => 0b0011111001
  | 0xBC => 0b0011111010
  | 0xFB => 0b1101101000
  | 0xFD => 0b1011101000
  | _ => 0b0111101000

/-- The running disparity after a group of `n` bits: it changes where the group is unbalanced. -/
def rdAfter (n : Nat) (rd : Bool) (g : Nat) : Bool := if 2 * popCount n g = n then rd else !rd

/-- A data character in the 8b/10b code at running disparity `rd` (true positive): its ten bits, the first in the highest place,
and the disparity after it. -/
def dataB (rd : Bool) (c : Nat) : Nat × Bool :=
  let x := c % 32
  let y := c / 32 % 8
  let g6 := nth sixB x
  let flip6 := rd && (decide (2 * popCount 6 g6 ≠ 6) || decide (x = 7))
  let a := if flip6 then 63 - g6 else g6
  let r := rdAfter 6 rd a
  let alt := decide (y = 7) && (if r then decide (x ∈ [11, 13, 14]) else decide (x ∈ [17, 18, 20]))
  let g4 := if alt then 0b0111 else nth fourB y
  let flip4 := r && (decide (2 * popCount 4 g4 ≠ 4) || decide (y = 3))
  let b := if flip4 then 15 - g4 else g4
  (a * 16 + b, rdAfter 4 r b)

/-- A special character in the 8b/10b code. -/
def controlB (rd : Bool) (k : Nat) : Nat × Bool :=
  let g := specialB k
  let a := if rd then 1023 - g else g
  (a, rdAfter 10 rd a)

/-- Ten bits in the order of sending: a, the code of the character's bit 0, first (R15, R330). -/
def tenBits (g : Nat) : List Bool := (bitsOf 10 g).reverse

/-- Characters sent one after another from running disparity `rd` on: each is special or a data byte. -/
def charBits (rd : Bool) : List (Bool × Nat) → List Bool
  | [] => []
  | (k, c) :: r =>
    let (g, rd') := if k then controlB rd c else dataB rd c
    tenBits g ++ charBits rd' r

/-- One byte of CRC-16 with polynomial 0x1021. -/
def crc16Byte (c : Nat) (b : Byte) : Nat :=
  (List.range 8).foldl (fun c _ => if c / 32768 % 2 = 1 then Nat.xor (c * 2 % 65536) 0x1021 else c * 2 % 65536)
    (Nat.xor c (b.toNat * 256))

/-- The CRC-16 of a TBUS message, initial value 0xFFFF, over its payload bytes in the order of transmission (R330). Each byte
enters with its most significant bit first, and nothing is added at the end: DESIGN CHOICE (log 66). -/
def crc16 (bs : List Byte) : Nat := bs.foldl crc16Byte 0xFFFF

/-- The ten bytes of a TBUS message: the payload, least significant byte first, and its CRC, least significant byte first
(R330; the order of the CRC's bytes is DESIGN CHOICE, log 66). -/
def tbusBytes (payload : Nat) : List Byte := leBytes 8 payload ++ leBytes 2 (crc16 (leBytes 8 payload))

/-- A received TBUS message is valid when its CRC is: its payload (R330, R336). -/
def tbusRead (bs : List Byte) : Option Nat := if bs.drop 8 = leBytes 2 (crc16 (bs.take 8)) then some (leNat (bs.take 8)) else none

/-- A slot on TBUS, 128 bits of 4 ticks: 8 undriven, the preamble K28.5 and K28.1 whose first bit is the alignment marker, and the
message (R329). `rd` is the running disparity at the preamble, which the manual leaves open. -/
def tbusLine (rd : Bool) (payload : Nat) : List (Option Bool) :=
  List.replicate 8 none ++
  (charBits rd ((true, 0xBC) :: (true, 0x3C) :: (tbusBytes payload).map (fun b => (false, b.toNat)))).map some

/-- The eight characters of a slot in compatibility mode, by the kind of unit (R478). -/
def slotChars (kind : Nat) (payload : DWord) : List (Bool × Nat) :=
  let bytes := (leBytes 8 payload.toNat).map (fun b => (false, b.toNat))
  let k := fun (c : Nat) => (true, c) :: bytes.take 7
  match kind with
  | 0 => bytes
  | 2 => k 0xBC
  | 3 => k 0xFD
  | 4 => k 0xFB
  | 5 => k 0xFE
  | _ => (true, 0x3C) :: List.replicate 7 (false, 0)

/-- The scrambler's state after the bits `bs` on the lane. -/
def scramAfter (st : Nat) : List Bool → Nat
  | [] => st
  | b :: r => scramAfter (scramNext st b) r

/-- `n` blocks with the same payload one after another on a 64b/66b lane (R465). -/
def lineBlocks (st : Nat) (data : Bool) (payload : DWord) : Nat → List Bool
  | 0 => []
  | n + 1 =>
    let b := lineBlock st data payload
    b ++ lineBlocks (scramAfter st (b.drop 2)) data payload n

/-- The bits that an output puts on its serial lane, or on pair `p` of TBUS, in the order of sending; none stands for an undriven
bit. `st` is the scrambler's state or, in its lowest bit, the running disparity before it; the manual leaves both open. -/
def Output.line (compat : Bool) (st p : Nat) : Output → List (Option Bool)
  | .laneUnit _ _ kind payload =>
    if compat then (charBits (decide (st % 2 = 1)) (slotChars kind payload)).map some
    else (lineBlock st (decide (kind = 0)) payload).map some
  | .laneIdle _ _ n =>
    if compat then (charBits (decide (st % 2 = 1)) ((List.range n).flatMap (fun _ => slotChars 1 idleWord))).map some
    else (lineBlocks st false idleWord n).map some
  | .tileBlock _ _ sync payload => (lineBlock st (decide (sync = 1)) payload).map some
  | .tbus m0 m1 =>
    match (if p = 0 then m0 else m1) with
    | some (payload, _) => tbusLine (decide (st % 2 = 1)) payload
    | none => List.replicate 128 none
  | _ => []

end Sys2Proof.Machine
end

