-- ==== Sys2Proof/Machine/Tbus.lean ====
section
/-!
DEFINITION. The trigger bus TBUS: the transmit queue and slots, receipt and sequence checks, and delay compensation
(R327 to R342, R633).
-/
namespace Sys2Proof.Machine

/-- The state with the bus's own state changed by `f`. -/
def State.updTbus (s : State) (f : TbusSt → TbusSt) : State := { s with tbus := f s.tbus }

/-- The module's slot (R328). -/
def State.slot (s : State) : Nat := s.fld Reg.tbusStatus 3 0

/-- GUARD lets the module transmit on TBUS (R333, R631). -/
def State.tbusAllowed (s : State) : Bool := s.flag Reg.guardTbus 31 && s.flag Reg.guardFTbus 31

/-- The effective TB_MAX (R631, R633). -/
def State.tbMax (s : State) : Nat := Nat.min (s.fld Reg.guardTbus 8 0) (s.fld Reg.guardFTbus 8 0)

/-- The rank of a message type in the transmit queue: SYNC, MEASURE_REPLY, ACCEPT, ALERT, MEASURE (R332). -/
def tbusRank (type : Nat) : Nat :=
  match type with
  | 1 => 0
  | 5 => 1
  | 2 => 2
  | 3 => 3
  | _ => 4

/-- The next message of the queue by priority, first in first out within a type (R332). -/
def tbusNext (q : List (Nat × Nat × Nat)) : Option (Nat × Nat × Nat) :=
  q.foldl (fun a m => match a with
    | none => some m
    | some b => if tbusRank m.1 < tbusRank b.1 then some m else some b) none

/-- A payload of any type but SYNC (R334). -/
def tbusPayload (type src seq arg tick : Nat) : Nat :=
  packFields [(4, type), (4, src), (8, seq), (8, arg), (40, tick)]

/-- Takes the first copy of a message out of the queue. -/
def State.tbusTake (s : State) (m : Nat × Nat × Nat) : State := s.updTbus (fun x => { x with txq := x.txq.erase m })

/-- A message leaves on the enabled pairs in the module's own slot of cycle `c`, `payload p` on pair `p` (R329, R331, R341). -/
def State.tbusSend (s : State) (c : Nat) (payload : Nat → Nat) (measure : Bool) : State :=
  let nominal : Int := (((c * 8192 + s.slot * 512 + 32) * 256 : Nat) : Int)
  let lead := fun (p : Nat) => if s.flag Reg.tbusStatus 8 && !measure then ((s.fld (Reg.tbusOffset p) 15 0 : Nat) : Int) else 0
  let launch := fun (p : Nat) => if s.flag Reg.tbusCtl (2 + p) then some (payload p, nominal - lead p) else none
  s.emit (.tbus (launch 0) (launch 1))

/-- Sends a counted message: it takes the next SEQ (R334). -/
def State.tbusCounted (s : State) (c type arg : Nat) (tick : Nat → Nat) : State :=
  let q := match s.tbus.seq with
    | some n => (n + 1) % 256
    | none => 0
  let s := s.updTbus (fun x => { x with seq := some q })
  (s.tbusSend c (fun p => tbusPayload type s.slot q arg (tick p % 2 ^ 40)) (decide (type = 4))).inc Reg.tbusTxSent

/-- What the own slot of cycle `c` carries: at most `n` queued messages are looked at, those beyond the GUARD limit being
discarded on the way (R331 to R334, R339, R633). -/
def State.tbusSlot (s : State) (c : Nat) : Nat → State
  | 0 => s.tbusSend c (fun _ => tbusPayload 0 s.slot (s.tbus.seq.getD 255) 0 0) false
  | n + 1 =>
    let next := tbusNext s.tbus.txq
    let order := (List.range 16).map (fun i => (s.tbus.nextReply + i) % 16)
    let reply := (order.filterMap (fun j => (s.tbus.replies.find? (fun e => decide (e.1 = j) && decide (j ∈ s.tbus.owed))))).head?
    let first := match next with
      | some m => decide (m.1 = 1)
      | none => false
    match reply, first with
    | some (j, b0, b1), false =>
      let s := s.updTbus (fun x => { x with owed := x.owed.filter (fun k => decide (k ≠ j)), nextReply := (j + 1) % 16 })
      s.tbusCounted c 5 j (fun p => unsigned 40 (if p = 0 then b0 else b1))
    | _, _ =>
      match next with
      | some m =>
        let s := s.tbusTake m
        if s.tbMax ≤ s.tbus.sent then
          (((s.incSat Reg.tbusGuardDrop).raise Pg.tbus 0x10).stick Pg.tbus 0x10000).tbusSlot c n
        else
          let s := s.updTbus (fun x => { x with sent := x.sent + 1 })
          if m.1 = 1 then
            let v := c * 8192 + s.slot * 512 + 32
            (s.tbusSend c (fun _ => packFields [(4, 1), (4, s.slot), (5, 0), (51, v / 8192)]) false).inc Reg.tbusTxSent
          else s.tbusCounted c m.1 m.2.1 (fun _ => m.2.2)
      | none =>
        if s.flag Reg.tbusCalCtl 0 then s.tbusCounted c 4 0 (fun _ => 0)
        else s.tbusSlot c 0

/-- An entry for `k` was heard 16 cycles (131,072 ticks) ago or earlier (R336). -/
def State.tbusOld (s : State) (l : List (Nat × Nat)) (k : Nat) : Bool :=
  l.any (fun e => decide (e.1 = k) && decide (e.2 + 131072 ≤ s.time.up))

/-- PAIR_OK and SLOT0_SEEN fall 16 cycles after the last valid message, and a sender that has been silent as long loses
its reference (R336, TBUS.STATUS). -/
def State.tbusAge (s : State) : State :=
  let pair := fun (s : State) (p : Nat) =>
    if s.flag Reg.tbusStatus (10 + p) && s.tbusOld s.tbus.pairHeard p then
      (s.setFlag Reg.tbusStatus (10 + p) false).raise Pg.tbus 0x4
    else s
  let s := pair (pair s 0) 1
  let s := if s.tbusOld s.tbus.heard 0 then s.setFlag Reg.tbusStatus 9 false else s
  s.updTbus (fun x => { x with refSeq := x.refSeq.filter (fun e => !s.tbusOld x.heard e.1) })

/-- The pair whose copy is taken: TBUS0 when its CRC is valid and the pair is enabled, else TBUS1 (R336). -/
def State.tbusCopy (s : State) (ok : BitVec 2) : Option Nat :=
  if s.flag Reg.tbusCtl 1 = false then none
  else if ok.getLsbD 0 && s.flag Reg.tbusCtl 2 then some 0
  else if ok.getLsbD 1 && s.flag Reg.tbusCtl 3 then some 1
  else none

/-- Arrival minus nominal launch of the alignment marker of a message from slot `src`, in bins of local MTIME: A, or B on the
slot-0 module (R329, R339). The marker arrives `f` bins after the tick now; the nominal launch is the nearest of the sender's,
whose cycle the message does not tell (DEDUCED, log 76). -/
def State.tbusDelay (s : State) (src : Nat) (f : Int) : Int :=
  signed 21 (unsigned 21 (((s.now * 256 : Nat) : Int) + f - (((src * 512 + 32) * 256 : Nat) : Int)))

/-- The copies among `ok` that are received: once CALIBRATED is 1, a message of slot 0 is taken in a window of one slot around its
nominal launch shifted by P bins (R341). That the window is centred there is DESIGN CHOICE (log 67). -/
def State.tbusIn (s : State) (src : Nat) (ok : BitVec 2) (f0 f1 : Int) : BitVec 2 :=
  let inside := fun (p : Nat) (f : Int) =>
    let d := s.tbusDelay src f - ((s.fld (Reg.tbusOffset p) 15 0 : Nat) : Int)
    decide (src ≠ 0) || !s.flag Reg.tbusStatus 8 || (decide (-65536 ≤ d) && decide (d < 65536))
  ok &&& BitVec.ofNat 2 ((inside 0 f0).toNat + 2 * (inside 1 f1).toNat)

/-- A valid message from `src` is heard on the enabled pairs of `ok`; from slot 0 each copy supplies A (R336, R339). -/
def State.tbusHear (s : State) (src : Nat) (ok : BitVec 2) (f0 f1 : Int) : State :=
  let s := s.tbusAge
  let s := (List.range 2).foldl (fun s p =>
    if ok.getLsbD p && s.flag Reg.tbusCtl (2 + p) then
      let s := (s.incF Reg.tbusRxOk (16 * p + 15) (16 * p)).setFlag Reg.tbusStatus (10 + p) true
      let s := s.updTbus (fun x => { x with pairHeard := sins p s.time.up x.pairHeard })
      if src = 0 then s.updTbus (fun x => { x with latestA := sins p (s.tbusDelay 0 (if p = 0 then f0 else f1)) x.latestA }) else s
    else s) s
  let s := if src = 0 then s.setFlag Reg.tbusStatus 9 true else s
  s.updTbus (fun x => { x with heard := sins src s.time.up x.heard })

/-- The reference SEQ of a sender is checked and renewed; a NULL repeats it, any other message is one more (R336). -/
def State.tbusSeq (s : State) (src seq : Nat) (null : Bool) : State :=
  let s := match s.tbus.refSeq.find? (fun e => decide (e.1 = src)) with
    | some (_, r) => if seq = (if null then r else (r + 1) % 256) then s else (s.incSat Reg.tbusRxGap).raise Pg.tbus 0x20
    | none => s
  s.updTbus (fun x => { x with refSeq := sins src seq x.refSeq })

/-- A message was received: the capture units see it (R186), and RX_LAST unless it is a NULL. -/
def State.tbusTaken (s : State) (payload : Nat) : State :=
  (if payload / 2 ^ 60 = 0 then s else s.wr64 Reg.tbusRxLastLo payload).capture 10

/-- A message with a SEQ from another module's slot is received: what `eff` does with it follows the checks (R336). -/
def State.tbusRx (s : State) (src seq : Nat) (ok : BitVec 2) (f0 f1 : Int) (payload : Nat) (eff : State → Nat → State) : State :=
  if src = s.slot then s
  else
    let ok := s.tbusIn src ok f0 f1
    match s.tbusCopy ok with
    | none => s
    | some p => eff (((s.tbusHear src ok f0 f1).tbusSeq src seq (decide (payload / 2 ^ 60 = 0))).tbusTaken payload) p

/-- The apply tick with the low 40 bits `t` nearest MTIME (R334). -/
def State.fullTick (s : State) (t : Nat) : Nat :=
  let lo : Int := (s.now : Int) - ((2 ^ 39 : Nat) : Int)
  Int.toNat (lo + (((t : Int) - lo) % ((2 ^ 40 : Nat) : Int)))

/-- The rounded half of the mean of `n` values whose sum is `z` (R339). -/
def halfMean (z : Int) (n : Nat) : Int := (2 * z + 2 * n) / (4 * n)

/-- A delay-compensation procedure starts (R339, R340): on the slot-0 module it completes at once. -/
def State.calGo (s : State) : State :=
  let s := s.setFlag Reg.tbusCalCtl 0 true
  let s := s.updTbus (fun x => { x with calStart := s.time.up, latestA := [], sumAdd := [], sumSub := [], count := [] })
  if s.slot = 0 then
    let s := ((s.wr (Reg.tbusOffset 0) 0).wr (Reg.tbusOffset 1) 0).setFlag Reg.tbusCalCtl 0 false
    (s.setFlag Reg.tbusStatus 8 true).raise Pg.tbus 0x1
  else s

/-- One exchange of the procedure is complete when a reply brings B for this module's slot on a pair, within 100 ms of the start
(R339, R340). -/
def State.calPair (s : State) (b : Int) (p : Nat) : State :=
  match s.tbus.latestA.find? (fun e => decide (e.1 = p)) with
  | none => s
  | some (_, a) =>
    if sget 0 p s.tbus.count < 256 ∧ s.time.up < s.tbus.calStart + 200000000 then
      s.updTbus (fun x => { x with
        sumAdd := sset 0 p (sget 0 p x.sumAdd + (a + b)) x.sumAdd
        sumSub := sset 0 p (sget 0 p x.sumSub + (a - b)) x.sumSub
        count := sset 0 p (sget 0 p x.count + 1) x.count })
    else s

/-- Effect of a write of TBUS.CTL: TX_EN restarts SEQ, RX_EN drops the references (R334, R336). -/
def State.tbusCtlWrite (s : State) (v : Word) : State :=
  let old := s.rd Reg.tbusCtl
  let s := s.plainWrite Reg.tbusCtl v
  let s := if v.getLsbD 0 && !old.getLsbD 0 then s.updTbus (fun x => { x with seq := none }) else s
  if v.getLsbD 1 && !old.getLsbD 1 then s.updTbus (fun x => { x with refSeq := [] }) else s

/-- Effect of a write of TBUS.TX_CMD (R332, R335). -/
def State.tbusCmdWrite (s : State) (v : Word) : State :=
  let type := wfld v 19 16
  if v.getLsbD 31 = false then s
  else if type = 0 ∨ 3 < type ∨ (type = 1 ∧ s.slot ≠ 0) then s.refuse Pg.tbus
  else s.tbusQueue type (wfld v 7 0) (s.rd64 Reg.tbusTxTickLo)

/-- Effect of a write of TBUS.CAL_CTL (R339). -/
def State.calCtlTbus (s : State) (v : Word) : State :=
  let busy := s.flag Reg.tbusCalCtl 0
  let s := s.plainWrite Reg.tbusCalCtl v
  if v.getLsbD 0 && !busy then s.calGo else s

/-- The receiver's and transmitter's own state after a reset of the page (R336); the GUARD window in progress goes on (R633). -/
def State.tbusClear (s : State) : State :=
  s.updTbus (fun x => { ({} : TbusSt) with nextCycle := x.nextCycle, window := x.window, sent := x.sent })

/-- TBUS_SLOT_TX (R331): the module's own slot of the next cycle. -/
def execTbusSlotTx (s : State) : Host.Outcome State Fault Refusal :=
  let c0 := s.now / 8192
  let c1 := if c0 * 8192 + s.slot * 512 < s.now then c0 + 1 else c0
  let c := Nat.max c1 s.tbus.nextCycle
  let s := (s.advanceTo (c * 8192 + s.slot * 512)).tbusAge
  let w := c / 256
  let s := s.updTbus (fun x => { x with nextCycle := c + 1, sent := if x.window = w then x.sent else 0, window := w })
  .next (if s.flag Reg.tbusCtl 0 && s.tbusAllowed then s.tbusSlot c (s.tbus.txq.length + 1) else s)

/-- TBUS_TX_CMD. -/
def execTbusTxCmd (d : Dom) (v : Word) (s : State) : Host.Outcome State Fault Refusal :=
  .next (s.hostWrite d Reg.tbusTxCmd v (fun s => s.tbusCmdWrite v))

/-- TBUS_NULL_RX (R336). -/
def execTbusNullRx (src : Fin 16) (ok : BitVec 2) (seq : Fin 256) (f0 f1 : Int) (s : State) : Host.Outcome State Fault Refusal :=
  .next (s.tbusRx src seq ok f0 f1 (tbusPayload 0 src seq 0 0) (fun s _ => s))

/-- TBUS_ACCEPT_RX (R334, R337). -/
def execTbusAcceptRx (src : Fin 16) (ok : BitVec 2) (seq : Fin 256) (f0 f1 : Int) (arg : Fin 256) (tick : Nat) (s : State) :
    Host.Outcome State Fault Refusal :=
  .next (s.tbusRx src seq ok f0 f1 (tbusPayload 2 src seq arg tick)
    (fun s _ => s.sendAccept 1 (s.fullTick (tick % 2 ^ 40)) arg))

/-- TBUS_ALERT_RX (R334, R337): Tail alert source bit 3. -/
def execTbusAlertRx (src : Fin 16) (ok : BitVec 2) (seq : Fin 256) (f0 f1 : Int) (arg : Fin 256) (tick : Nat) (s : State) :
    Host.Outcome State Fault Refusal :=
  .next (s.tbusRx src seq ok f0 f1 (tbusPayload 3 src seq arg tick) (fun s _ => s.sendAlert 3 (s.fullTick (tick % 2 ^ 40)) arg))

/-- TBUS_MEASURE_RX (R339): the slot-0 module keeps the latest B of the sender on each pair for its reply; a pair without a valid
copy keeps its own latest B, or before any takes the other pair's (DESIGN CHOICE, log 67). -/
def execTbusMeasureRx (src : Fin 16) (ok : BitVec 2) (seq : Fin 256) (f0 f1 : Int) (s : State) :
    Host.Outcome State Fault Refusal :=
  .next (s.tbusRx src seq ok f0 f1 (tbusPayload 4 src seq 0 0) (fun s p =>
    let b := fun (q : Nat) => s.tbusDelay src (if q = 0 then f0 else f1)
    let old := (s.tbus.replies.find? (fun e => decide (e.1 = src.val))).map (fun e => e.2)
    let heard := fun (q : Nat) => ok.getLsbD q && s.flag Reg.tbusCtl (2 + q)
    let b0 := if heard 0 then b 0 else (old.map (fun e => e.1)).getD (b p)
    let b1 := if heard 1 then b 1 else (old.map (fun e => e.2)).getD (b p)
    if s.slot = 0 then
      s.updTbus (fun x => { x with replies := sins src (b0, b1) x.replies, owed := x.owed.filter (fun k => decide (k ≠ src.val)) ++ [src.val] })
    else s))

/-- TBUS_MEASURE_REPLY_RX (R339): the copies bring the B of their pairs. -/
def execTbusMeasureReplyRx (src : Fin 16) (ok : BitVec 2) (seq : Fin 256) (f0 f1 : Int) (slot : Fin 16) (b : Int × Int) (s : State) :
    Host.Outcome State Fault Refusal :=
  let copy : Int := if s.tbusCopy (s.tbusIn src ok f0 f1) = some 1 then b.2 else b.1
  let ok' := s.tbusIn src ok f0 f1
  .next (s.tbusRx src seq ok f0 f1 (tbusPayload 5 src seq slot (unsigned 40 copy)) (fun s _ =>
    if slot.val = s.slot ∧ src.val = 0 ∧ s.flag Reg.tbusCalCtl 0 then
      (List.range 2).foldl (fun s p => if ok'.getLsbD p && s.flag Reg.tbusCtl (2 + p) then s.calPair (if p = 0 then b.1 else b.2) p else s) s
    else s))

/-- TBUS_SENDER_TIMEOUT (R336): 16 cycles pass without a valid message from a sender. -/
def execTbusSenderTimeout (src : Fin 16) (s : State) : Host.Outcome State Fault Refusal :=
  match s.tbus.heard.find? (fun e => decide (e.1 = src.val)) with
  | none => .next s
  | some e => .next (s.elapse (e.2 + 131072)).tbusAge

/-- TBUS_CAL_GO (R339): a write of CAL_CTL, or the repeat after PERIOD seconds. -/
def execTbusCalGo (w : Option (Dom × Word)) (s : State) : Host.Outcome State Fault Refusal :=
  match w with
  | some (d, v) => .next (s.hostWrite d Reg.tbusCalCtl v (fun s => s.calCtlTbus v))
  | none =>
    let p := s.fld Reg.tbusCalCtl 31 16
    if p = 0 ∨ s.flag Reg.tbusCalCtl 0 then .next s
    else .next (s.elapse (s.tbus.calStart + p * 2000000000)).calGo

/-- Both pairs have their 256 exchanges (R339). -/
def State.calFull (s : State) : Bool := (List.range 2).all (fun p => decide (256 ≤ sget 0 p s.tbus.count))

/-- TBUS_CAL_DONE (R339): 256 pairs (A, B) have been collected on both pairs. -/
def execTbusCalDone (s : State) : Host.Outcome State Fault Refusal :=
  if s.flag Reg.tbusCalCtl 0 && s.calFull then
    let s := (List.range 2).foldl (fun s p =>
      let d := unsigned 16 (halfMean (sget 0 p s.tbus.sumSub) 256)
      let q := unsigned 16 (halfMean (sget 0 p s.tbus.sumAdd) 256)
      s.wr (Reg.tbusOffset p) (word (d * 65536 + q))) s
    .next (((s.setFlag Reg.tbusCalCtl 0 false).setFlag Reg.tbusStatus 8 true).raise Pg.tbus 0x1)
  else .next s

/-- TBUS_CAL_FAIL (R340): 100 ms have passed without 256 exchanges on a pair. -/
def execTbusCalFail (s : State) : Host.Outcome State Fault Refusal :=
  if s.flag Reg.tbusCalCtl 0 && !s.calFull then
    let s := s.elapse (s.tbus.calStart + 200000000)
    .next ((s.setFlag Reg.tbusCalCtl 0 false).raise Pg.tbus 0x2)
  else .next s

/-- TBUS_RX_CRC_FAIL (R334, R336): a copy fails its CRC, or a valid one carries a reserved TYPE and is discarded. -/
def execTbusRxCrcFail (p : Fin 2) (reservedType : Bool) (s : State) : Host.Outcome State Fault Refusal :=
  if s.flag Reg.tbusCtl 1 && s.flag Reg.tbusCtl (2 + p) && !reservedType then
    .next (s.incFSat Reg.tbusRxCrc (16 * p + 15) (16 * p))
  else .next s

end Sys2Proof.Machine
end

