-- ==== Sys2Proof/Machine/Compare.lean ====
section
/-!
DEFINITION. Compare units, SYNC and the WTIME load (R156 to R169, R177 to R185, R724, R725).
-/
namespace Sys2Proof.Machine

/-- The state with its time island changed by `f`. -/
def State.updTime (s : State) (f : TimeSt → TimeSt) : State := { s with time := f s.time }

/-- The target tick of compare `i`. -/
def State.cmpTarget (s : State) (i : Nat) : Nat := s.rd64 (Reg.timeCmpLo i)

/-- Compare `i` is armed or disarmed; CMP_STAT.ARMED copies EN. -/
def State.setArmed (s : State) (i : Nat) (b : Bool) : State :=
  (s.setFlag (Reg.timeCmpCtl i) 0 b).setFlag (Reg.timeCmpStat i) 0 b

/-- Compare `i` is armed late (R182). -/
def State.cmpLate (s : State) (i : Nat) : State :=
  let s := (s.setFlag (Reg.timeCmpStat i) 1 true).stick Pg.time 0x10000
  if s.flag (Reg.timeCmpCtl i) 8 then s.setArmed i false else s

/-- A base moved forward: its armed compares whose target is no longer in the future are armed late (R184). -/
def State.baseMoved (s : State) (is : List Nat) : State :=
  is.foldl (fun s i =>
    if s.flag (Reg.timeCmpCtl i) 0 && decide (s.cmpTarget i ≤ s.baseTick i) then s.cmpLate i else s) s

/-- Effect of a write of CMP_CTL of instance `i` (R182). -/
def State.cmpCtlWrite (s : State) (i : Nat) (v : Word) : State :=
  let s := s.plainWrite (Reg.timeCmpCtl i) v
  let s := s.setFlag (Reg.timeCmpStat i) 0 (v.getLsbD 0)
  if v.getLsbD 0 && decide (s.cmpTarget i ≤ s.baseTick i) then s.cmpLate i else s

/-- Effect of a write of CMP_LO, CMP_HI or CMP_PERIOD at `k` of instance `i`: refused while EN is 1 (R183). -/
def State.cmpSetWrite (s : State) (i k : Nat) (v : Word) : State :=
  if s.flag (Reg.timeCmpCtl i) 0 then s.refuse Pg.time
  else if k = Reg.timeCmpPeriod i ∧ 0 < v.toNat ∧ v.toNat < 64 then s.refuse Pg.time
  else s.plainWrite k v

/-- The TIME-island clock edge at which an armed compare fires, as far as its base tells: MTIME and WTIME run at known
rates (R166, R178, R725); an XTIME compare is looked at from the next edge on. -/
def State.cmpEdge (s : State) (i : Nat) : Nat :=
  let t := s.cmpTarget i
  if i < 8 then s.edgeAt (Nat.max s.now t)
  else if i < 16 then
    let need := t * 2 ^ 32 - s.time.wacc
    let n := if s.winc = 0 then 0 else (need + s.winc - 1) / s.winc
    s.edgeAt (if n = 0 then s.now else s.now + ((s.time.up / 2 + n) * 2 - s.time.up))
  else s.edgeAt s.now

/-- The TIME_OUT pulse of compare `i`, whose firing edge is now: from MTIME it starts at the target tick, unless that lies
before the previous edge (R178, R179, R182). TIME_OUT rises at the start of the pulse, or with OUT_CTL.POL = 1 at its end (R186,
R187); that source 40 follows the pin is DEDUCED (entry 74). -/
def State.timeOutPulse (s : State) (i target : Nat) : State :=
  let start := if i < 8 ∧ s.now < target + 4 then target else s.now
  let width := s.fld Reg.timeOutCtl 15 0
  let s := s.emit (.timeOut start width)
  let stop := start + width
  let on := match s.time.outEnd with
    | some e => decide (start ≤ e)
    | none => false
  if on then s.updTime (fun m => { m with outEnd := some (Nat.max (m.outEnd.getD 0) stop) })
  else
    let b := s.basesAt start
    let s := s.updTime (fun m => { m with outEnd := some stop })
    if s.flag Reg.timeOutCtl 16 then s else s.captureAt 40 (start * 256) b.1 b.2 true

/-- Action `code` of a firing of compare `i` is on its way to its block (R178). -/
def State.sendAct (s : State) (code arg i target : Nat) : State :=
  let a : TimeAct := ⟨code, arg, i, target, s.time.up, s.baseTick i - target⟩
  s.updTime (fun m => { m with acts := m.acts ++ [a] })

/-- Compare `i` fires now, at its firing edge (R178 to R181). -/
def State.cmpFire (s : State) (i : Nat) : State :=
  let target := s.cmpTarget i
  let ctl := s.rd (Reg.timeCmpCtl i)
  let arg := wfld ctl 31 16
  let s := (s.incF (Reg.timeCmpStat i) 31 16).raise Pg.time (2 ^ (8 + i))
  let s := s.capture (16 + i)
  let s := match wfld ctl 7 4 with
    | 1 => s.timeOutPulse i target
    | 5 => if s.tailOn then s.sendAlert 1 target (arg % 256) else s.notDone i
    | 0 => s
    | a =>
      let to' := actIsland a
      if s.sealedOff to' then s.crossLost 0 to' 1
      else s.sendAct a arg i target
  let p := s.nat (Reg.timeCmpPeriod i)
  if p = 0 then s.setArmed i false
  else s.wr64 (Reg.timeCmpLo i) (target + ((s.baseTick i - target) / p + 1) * p)

/-- The shift of an MTIME tick by `d`, for what is dated by tick differences. -/
def shiftTick (d : Int) (n : Nat) : Nat := Int.toNat ((n : Int) + d)

/-- A SYNC that moves MTIME forward over boundaries of a bucket causes one leak (R519). -/
def State.bucketSync (s : State) (k was m : Nat) : State :=
  let (c, st, _, _) := bucketRegs k
  let p := s.fld c 15 0 * 2000000
  if p = 0 ∨ m / p ≤ was / p then s
  else
    let n := s.fld st 15 0
    let s := s.updMem (fun x => { x with leaked := sset 0 k (m + 1) x.leaked })
    if n = 0 then s else s.setBucket k (n - 1)

/-- The memory bucket of steward `b` brought up to now; where a SYNC moves MTIME forward to `m`, the boundaries it passes
leak once (R519, R609). -/
def State.stwLeak (s : State) (b : Nat) (fwd : Bool) (m : Nat) : State :=
  let k := if b = 0 then Reg.stwDiagA else Reg.stwDiagB
  let p := s.fld Reg.stwMemlim 15 0 * 2000000
  let w := if b = 0 then s.stw.a else s.stw.b
  let n := if p = 0 then 0 else s.now / p - w.leakAt / p + (if fwd && decide (s.now / p < m / p) then 1 else 0)
  let w := { w with leakAt := s.now }
  let s := { s with stw := if b = 0 then { s.stw with a := w } else { s.stw with b := w } }
  s.setF k 31 16 (s.fld k 31 16 - n)

/-- MTIME is set to `m` by an applied SYNC (R162, R724, R725): the frame in progress ends, work tied to frame starts waits
for the next one, and spans measured in ticks go on unchanged. A re-stripe or change point named for a later frame keeps its
distance in frames. DESIGN CHOICE (entry 82). An edge held by a measurement unit keeps its tick. DESIGN CHOICE (entry 83). -/
def State.setMtime (s : State) (m : Nat) : State :=
  let d : Int := (m : Int) - (s.now : Int)
  let sh := shiftTick d
  let shB := shiftTick (d * 256)
  let fn := (m + 65535) / 65536
  let was := s.now
  let old := s.time.frame
  let s := (s.stwLeak 0 (decide (was < m)) m).stwLeak 1 (decide (was < m)) m
  let s := s.setF Reg.timeStatus 7 6 (unsigned 2 ((s.ephase : Int) + d))
  let s := s.updTime (fun x => { x with mtime := m, frame := m / 65536, frameNext := fn, outEnd := x.outEnd.map sh })
  let s := s.updMode (fun x => { x with hist := [(0, s.modeNow, false)] })
  let ahead := fun (c : Nat) => fn + (c - old - 1)
  let s := s.updLane (fun x => { x with
    sfFrame := m / 65536, sfc := if m % 65536 = 0 then 0 else 117
    lanes := x.lanes.map (fun (e : Nat × ULane) => (e.1, { e.2 with tpCycle := 8 * fn }))
    groups := x.groups.map (fun (e : Nat × LGroup) => (e.1, { e.2 with
      change := e.2.change.map ahead, told := e.2.told.map (fun c => (if c.1 = old + 1 then fn else m / 65536, c.2)) })) })
  let s := s.updTbus (fun x => { x with nextCycle := 8 * fn })
  let s := s.updEvb (fun x => { x with since := if old < x.since then fn else 0 })
  let s := s.updAcq (fun x => { x with skip := if fn = 0 then none else x.skip.map (fun _ => fn - 1) })
  let s := { s with tiu := { s.tiu with aux := s.tiu.aux.map (fun (o : AuxOpen) => { o with at' := shB o.at', last := shB o.last }) } }
  let s := s.updTrig (fun x => { x with
    hist := x.hist.map (fun e => (sh e.1, e.2))
    until' := x.until'.map (fun e => (e.1, sh e.2))
    marked := fn - 1 })
  let s := (List.range 26).foldl (fun s k => s.bucketSync k was m) (s.updMem (fun x => { x with leaked := [] }))
  let noSeq := fun (w : Steward) => { w with health := none, telem := none, leakAt := m }
  let s := { s with stw := { s.stw with a := noSeq s.stw.a, b := noSeq s.stw.b } }
  let chan := fun (c : Chan) => { c with
    thlLast := c.thlLast.map shB, thuLast := c.thuLast.map shB, leadLast := c.leadLast.map shB
    thuLead := c.thuLead.map (fun e => (sh e.1, e.2)), tokTick := sh c.tokTick, winStart := m / 65536, part := true
    hit := none, pileNext := false, done := [], derand := [] }
  let tile := fun (t : Tile) => { t with
    monFrom := Nat.min t.monFrom (m / 65536), liveFrom := t.liveFrom.map (fun _ => fn)
    caps := (t.caps.take 1).map (fun c => (0, c.2))
    injNext := t.injNext.map sh, injLast := t.injLast.map sh
    lutsFrom := 0, sendFrame := fn - 1, headers := [], cnts := [], tstore := [], dec := []
    thrNewAt := t.thrNewAt.map (fun _ => fn), calNewAt := t.calNewAt.map (fun _ => fn) }
  let link := fun (l : Link) => { l with
    carryFrom := Nat.min l.carryFrom fn, holds := l.holds.map (fun _ => fn), received := 0, lossFrames := [], closedTo := 0
    buf := [], changeAt := l.changeAt.map ahead, told := l.told.map (fun c => (ahead c.1, c.2)) }
  { s with det := { s.det with
      chans := s.det.chans.map (fun e => (e.1, chan e.2))
      tiles := s.det.tiles.map (fun e => (e.1, tile e.2))
      links := s.det.links.map (fun e => (e.1, link e.2))
      incomplete := [], headers := [], closedFrame := none } }

/-- A SYNC from source `src` (1 downlink, 2 TBUS) whose marker arrives now carries the tick value `v`; `dly` is its path
delay (R158 to R163). -/
def State.syncJudge (s : State) (src v dly : Nat) : State :=
  if (s.fld Reg.timeSyncCtl 1 0).testBit (src - 1) = false ∨ s.time.running = false then s
  else
    let m : Nat := (v + dly) % 2 ^ 64
    let d : Int := signed 64 (unsigned 64 ((m : Int) - (s.now : Int)))
    let s := s.wr64 Reg.timeSyncDiffLo (unsigned 64 d)
    if d.natAbs ≤ s.fld Reg.timeSyncCtl 5 4 then
      let s := ((s.setFlag Reg.timeStatus 0 true).setF Reg.timeStatus 5 4 src).incF Reg.timeSyncCount 15 0
      s.capture 4
    else if s.modeNow ≤ 1 ∧ s.flag Reg.modeCurrent 31 = false then
      let s := s.setMtime m
      let s := ((s.setFlag Reg.timeStatus 0 true).setF Reg.timeStatus 5 4 src).incF Reg.timeSyncCount 31 16
      let s := (s.raise Pg.time 0x1).capture 4
      if 0 < d then s.baseMoved (List.range 8) else s
    else ((s.incSat Reg.timeSyncRefused).raise Pg.time 0x2).stick Pg.time 0x40000

/-- COMPARE_ARM (R182): a write of CMP_CTL. -/
def execCompareArm (d : Dom) (i : Fin 24) (v : Word) (s : State) : Host.Outcome State Fault Refusal :=
  .next (s.hostWrite d (Reg.timeCmpCtl i) v (fun s => s.cmpCtlWrite i v))

/-- Compare `i` fires at edge `e` where it is armed and its base is then at or past the target (R178). -/
def State.cmpAt (s : State) (e i : Nat) : State :=
  if s.flag (Reg.timeCmpCtl i) 0 then
    let t := s.advanceTo e
    if t.cmpTarget i ≤ t.baseTick i then t.cmpFire i else s
  else s

/-- The pending WTIME load at MTIME tick WLOAD_AT: the values are those that WLOAD and WLOAD_AT hold when it is performed; that a
write of them while it is pending counts is DESIGN CHOICE (entry 62) (R168). -/
def State.wtimeLoad (s : State) : State :=
  let s := s.advanceTo (s.rd64 Reg.timeWloadAtLo)
  let w := s.rd64 Reg.timeWloadLo
  let fwd := decide (s.time.wacc < w * 2 ^ 32)
  let s := s.updTime (fun m => { m with wacc := w * 2 ^ 32 })
  let s := ((s.setFlag Reg.timeStatus 2 false).setFlag Reg.timeStatus 1 true).setFlag Reg.timeWctl 0 false
  let s := s.raise Pg.time 0x10
  if fwd then s.baseMoved ((List.range 8).map (fun i => i + 8)) else s

/-- A WTIME load is pending (TIME.STATUS.WSTEP_PEND). -/
def State.wtimePends (s : State) : Bool := s.flag Reg.timeStatus 2 && s.time.running

/-- A WTIME load that is due by tick `e` (R185). -/
def State.loadBy (s : State) (e : Nat) : State :=
  if s.wtimePends ∧ s.rd64 Reg.timeWloadAtLo ≤ e then s.wtimeLoad else s

/-- WTIME_LOAD (R168): at MTIME tick WLOAD_AT. -/
def execWtimeLoad (s : State) : Host.Outcome State Fault Refusal := .next (if s.wtimePends then s.wtimeLoad else s)

/-- TBUS_SYNC_RX (R335, R337, R342): V from the field and the sender's slot, D from the pair whose copy was taken; the marker has
arrived at the tick nearest to its arrival. -/
def execTbusSyncRx (src : Fin 16) (ok : BitVec 2) (f0 f1 : Int) (field : Nat) (s : State) : Host.Outcome State Fault Refusal :=
  if src.val = s.slot then .next s
  else
    match s.tbusCopy (s.tbusIn src ok f0 f1) with
    | none => .next s
    | some p =>
      let f := field % 2 ^ 51
      let s := (s.tbusHear src (s.tbusIn src ok f0 f1) f0 f1).tbusTaken (packFields [(4, 1), (4, src.val), (5, 0), (51, f)])
      let late := ((if p = 0 then f0 else f1) + 128) / 256
      let v := unsigned 64 (((f * 8192 + src.val * 512 + 32 : Nat) : Int) - late)
      .next (s.syncJudge 2 v ((s.fld (Reg.tbusOffset p) 15 0 + 128) / 256))

end Sys2Proof.Machine
end

