-- ==== Sys2Proof/Machine/Stew.lean ====
section
/-!
DEFINITION. The stewards: roles, self-diagnosis, takeover, swap and the mirror channel (R606 to R621), with what they do to
the activation of firmware (R664).
-/
namespace Sys2Proof.Machine

/-- Steward `b` beside its registers. -/
def State.steward (s : State) (b : Nat) : Steward := if b = 0 then s.stw.a else s.stw.b

/-- The state with the stewards' own part changed by `f`. -/
def State.updStw (s : State) (f : StwSt → StwSt) : State := { s with stw := f s.stw }

/-- The state with steward `b` changed by `f`. -/
def State.updSteward (s : State) (b : Nat) (f : Steward → Steward) : State :=
  s.updStw (fun x => if b = 0 then { x with a := f x.a } else { x with b := f x.b })

/-- The state with the mirror channel changed by `f`. -/
def State.updMir (s : State) (f : MirrorSt → MirrorSt) : State := s.updStw (fun x => { x with mir := f x.mir })

/-- The DIAG register of steward `b`. -/
def diagReg (b : Nat) : Nat := if b = 0 then Reg.stwDiagA else Reg.stwDiagB

/-- STW.ROLE shows state `st` of steward `b`. -/
def State.setStwState (s : State) (b st : Nat) : State :=
  if b = 0 then s.setF Reg.stwRole 2 0 st else s.setF Reg.stwRole 6 4 st

/-- UPD.ACT.STATE: 0 NONE, 1 PRELOAD, 2 ARMED, 3 TRIAL, 4 FALLBACK (R664). -/
def State.actState (s : State) : Nat := s.fld Reg.updAct 30 28

/-- The confirmed bank. -/
def State.confirmed (s : State) : Nat := s.fld Reg.updBanks 0 0

/-- The bank that steward `b` runs. -/
def State.runBank (s : State) (b : Nat) : Nat := s.fld Reg.updBanks (4 + b) (4 + b)

/-- The bank a steward loads when it starts outside a restart: the confirmed one, else the other (R656, R664). -/
def State.bootBank (s : State) : Nat :=
  let c := s.confirmed
  if s.flag Reg.updBanks (2 + c) then c else if s.flag Reg.updBanks (3 - c) then 1 - c else c

/-- Both stewards run the confirmed bank. -/
def State.bothConfirmed (s : State) : Bool :=
  decide (s.runBank 0 = s.confirmed) && decide (s.runBank 1 = s.confirmed)

/-- Activation ends in NONE with LAST = `last` (R664). -/
def State.actNone (s : State) (last : Nat) : State := (s.wr Reg.updAct 0).setF Reg.updLast 3 0 last

/-- Activation enters FALLBACK with LAST = `last` (R664). -/
def State.actFallback (s : State) (last : Nat) : State := (s.setF Reg.updAct 30 28 4).setF Reg.updLast 3 0 last

/-- FALLBACK is complete when both stewards run the confirmed bank and STANDBY_READY is 1 (R664). -/
def State.fallbackDone (s : State) : State :=
  if s.actState = 4 ∧ s.bothConfirmed ∧ s.flag Reg.stwRole 9 then
    let s := (s.wr Reg.updAct 0).incFSat Reg.updCounts 31 16
    (s.raise Pg.upd 0x10).stick Pg.upd 0x10000
  else s

/-- SYS.STATUS.STANDBY_READY and its copy; its fall is signalled, its rise moves PRELOAD and FALLBACK on (R618, R664). -/
def State.setReady (s : State) (r : Bool) : State :=
  let was := s.flag Reg.stwRole 9
  let s := (s.setFlag Reg.stwRole 9 r).setFlag Reg.sysStatus 5 r
  if was && !r then s.raise Pg.stw 0x10
  else if r && !was then
    let s := if s.actState = 1 ∧ s.time.up ≤ s.upd.actAt + 400000000 then
        (s.setF Reg.updAct 30 28 2).raise Pg.upd 0x2
      else s
    s.fallbackDone
  else s

/-- CFG.STATUS.PHASE reports step `n` of start-up (R639). -/
def State.setPhase (s : State) (n : Nat) : State := s.setF Reg.cfgStatus 18 16 n

/-- TAKEOVER_BUSY. -/
def State.busyStw (s : State) : Bool := s.flag Reg.stwRole 10

/-- The channel without messages; a standby's copy stays. -/
def MirrorSt.fresh (m : MirrorSt) : MirrorSt := { copy := m.copy }

/-- The mirror channel is sealed and emptied, steward `b`'s island being in reset: the messages in flight are counted on the
other steward's side, and what waits for a place goes with them (R37, R43, R618). -/
def State.mirrorEmpty (s : State) (b : Nat) : State :=
  let m := s.stw.mir
  let n := m.toStandby.length + m.toActive.length + m.waitStandby.length + m.waitActive.length
  (s.crossLost (25 - b) (24 + b) n).updMir (fun x => { x.fresh with sent := x.sent })

/-- Steward `b`'s island enters reset: its crossings and the mirror channel seal (R37, R610). -/
def State.stwIslandDown (s : State) (b : Nat) : State :=
  let bit : BitVec 28 := BitVec.ofNat 28 (2 ^ (24 + b))
  let s := { s with fab := { s.fab with inReset := s.fab.inReset ||| bit, isSealed := s.fab.isSealed ||| bit } }
  s.mirrorEmpty b

/-- Steward `b`'s island has left reset and its crossings are open again (R38). -/
def State.stwIslandUp (s : State) (b : Nat) : State :=
  let m : BitVec 28 := ~~~(BitVec.ofNat 28 (2 ^ (24 + b)))
  { s with fab := { s.fab with inReset := s.fab.inReset &&& m, isSealed := s.fab.isSealed &&& m } }

/-- Steward `b` enters STARTING on `bank`; its island leaves reset `wait` ticks from now (R608, R610, R664). -/
def State.stwStart (s : State) (b bank wait : Nat) : State :=
  let s := (s.setStwState b 1).setF Reg.updBanks (4 + b) (4 + b) bank
  let s := s.updSteward b (fun w => { w with since := s.time.up + wait, passed := false, health := none, telem := none })
  if wait = 0 then s.stwIslandUp b else s.stwIslandDown b

/-- A restart of steward `b` on `bank`: 1 ms in reset, then STARTING (R664). -/
def State.stwRestart (s : State) (b bank : Nat) : State :=
  let s := if s.stwState b = 2 then s.setReady false else s
  s.stwStart b bank 2000000

/-- A region of the flash by TARGET: 0 and 1 configuration copies, 2 and 3 firmware banks (R661). -/
def flashRegion (f : FlashImage) (t : Nat) : List Byte :=
  match t with
  | 0 => f.cfg0
  | 1 => f.cfg1
  | 2 => f.fw0
  | _ => f.fw1

/-- The flash with a region replaced. -/
def flashSetRegion (f : FlashImage) (t : Nat) (bs : List Byte) : FlashImage :=
  match t with
  | 0 => { f with cfg0 := bs }
  | 1 => { f with cfg1 := bs }
  | 2 => { f with fw0 := bs }
  | _ => { f with fw1 := bs }

/-- The state with the update unit's own part changed. -/
def State.updUpd (s : State) (f : UpdSt → UpdSt) : State := { s with upd := f s.upd }

/-- `n` bytes of `l` from byte `i` on; beyond its end the flash reads as erased. -/
def flashBytes (l : List Byte) (i n : Nat) : List Byte :=
  let bs := (l.drop i).take n
  bs ++ List.replicate (n - bs.length) 0xFF

/-- A little-endian field of `n` bytes at byte `i`. -/
def flashNat (l : List Byte) (i n : Nat) : Nat := leNat (flashBytes l i n)

/-- A field of 2 bytes at byte `o` of the firmware that steward `b` runs (R654); the recovery firmware in ROM has 0 (log 27). -/
def State.fwField (s : State) (b o : Nat) : Nat :=
  let n := s.runBank b
  if s.flag Reg.updBanks (2 + n) then flashNat (flashRegion s.upd.flash (2 + n)) o 2 else 0

/-- MIRROR_ACCEPT of the firmware that steward `b` runs (R618, R654). -/
def State.mirrorAccept (s : State) (b : Nat) : Nat := s.fwField b 28

/-- Bytes 0 to 59 of a mirror message (R617). -/
def MirMsg.body (m : MirMsg) : List Byte :=
  leBytes 1 m.kind ++ leBytes 1 m.item ++ leBytes 2 m.mfmt ++ leBytes 4 m.seq ++ leBytes 4 m.offset ++
    leBytes 2 m.data.length ++ [0, 0] ++ m.data ++ List.replicate (44 - m.data.length) 0

/-- The 64 bytes of a mirror message (R616, R617). The SEC-DED of the queues shows in no register. -/
def MirMsg.bytes (m : MirMsg) : List Byte := m.body ++ leBytes 4 m.crc.toNat

/-- The CRC of a mirror message holds (R617). -/
def MirMsg.good (m : MirMsg) : Bool := decide (m.crc = crc32c m.body)

/-- The STANDBY steward that listens to an ACTIVE one, if there are both. -/
def State.standby? (s : State) : Option Nat :=
  match s.activeStw with
  | some a => if s.stwState (1 - a) = 2 then some (1 - a) else none
  | none => none

/-- Waiting messages take the free places of either queue, in order; a message counts as sent when it does (R617, R618). -/
def State.mirrorFill (s : State) : State :=
  let m := s.stw.mir
  let n := Nat.min m.waitStandby.length (64 - m.toStandby.length)
  let k := Nat.min m.waitActive.length (64 - m.toActive.length)
  (s.incBy Reg.stwMirSent n).updMir (fun m => { m with
    sent := m.sent + n
    toStandby := m.toStandby ++ m.waitStandby.take n, waitStandby := m.waitStandby.drop n
    toActive := m.toActive ++ m.waitActive.take k, waitActive := m.waitActive.drop k })

/-- A message of standby `b` to the ACTIVE steward (R617). -/
def State.backMsg (s : State) (b kind seq : Nat) : MirMsg :=
  let m : MirMsg := { kind := kind, mfmt := s.fwField b 26, seq := seq % 2 ^ 32, sentAt := s.time.up }
  { m with crc := crc32c m.body }

/-- Standby `b` sends an ACK of `seq` (R617). -/
def State.mirrorAckSend (s : State) (b seq : Nat) : State :=
  s.updMir (fun m => { m with back := m.back + 1, waitActive := m.waitActive ++ [s.backMsg b 2 seq] })

/-- Standby `b` sends a RESYNC with the number of messages it has sent before as its SEQ (R617; log 27). -/
def State.mirrorResyncSend (s : State) (b : Nat) : State :=
  s.updMir (fun m => { m with
    back := m.back + 1, clean := true, waitActive := m.waitActive ++ [s.backMsg b 3 s.stw.mir.back] })

/-- The standby asks for a full copy, and STANDBY_READY falls until an END (R617, R618). -/
def State.askResync (s : State) (b : Nat) : State := (s.mirrorResyncSend b).setReady false

/-- Standby `b` receives a mirror message (R617, R618): a gap in SEQ or a bad CRC asks for a RESYNC, an ITEM is stored and
acknowledged or discarded, and an END makes the mirror current. The first message after it entered STANDBY sets the SEQ that it
expects. -/
def State.mirrorReceive (s : State) (b : Nat) (m : MirMsg) : State :=
  if m.good then
    let gap := s.stw.mir.expect.any (fun e => decide (e ≠ m.seq))
    let s := s.updMir (fun x => { x with expect := some ((m.seq + 1) % 2 ^ 32) })
    if m.kind = 1 then
      if m.mfmt < s.mirrorAccept b then (s.incFSat Reg.stwMirCnt 31 16).askResync b
      else
        let s := if gap then s.askResync b else s
        let copy := m.data.zipIdx.foldl (fun c e => sins (m.item * 2 ^ 32 + m.offset + e.2) e.1 c) s.stw.mir.copy
        (s.updMir (fun x => { x with copy := copy })).mirrorAckSend b m.seq
    else if gap then s.askResync b
    else if s.stw.mir.clean then s.setReady true
    else s
  else
    let s := s.updMir (fun x => { x with expect := x.expect.map (fun e => (e + 1) % 2 ^ 32) })
    (if m.kind = 1 then s.incFSat Reg.stwMirCnt 31 16 else s).askResync b

/-- Standby `b` takes up to `n` messages of its queue, in order, as long as none of its own waits for a place and the channel
passes (R37, R40, R616, R618). -/
def State.mirrorRun (s : State) (b : Nat) : Nat → State
  | 0 => s.mirrorFill
  | n + 1 =>
    let s := s.mirrorFill
    match s.stw.mir.toStandby with
    | [] => s
    | m :: r =>
      if s.stw.mir.waitActive = [] ∧ s.crosses 24 25 = true then
        ((s.updMir (fun x => { x with toStandby := r })).mirrorReceive b m).mirrorRun b n
      else s

/-- An ITEM has gone undelivered for longer than 100 µs, and this has not been noticed (R615). -/
def State.itemLate (s : State) (m : MirMsg) : Bool := decide (m.kind = 1) && !m.late && decide (m.sentAt + 200000 < s.time.up)

/-- Changes undelivered for longer than 100 µs: READY falls for each, and those that wait for a place count in MIR_STALL
(R615, R618). -/
def State.mirrorLate (s : State) : State :=
  let m := s.stw.mir
  let n := (m.waitStandby.filter s.itemLate).length
  let mark := List.map (fun (x : MirMsg) => { x with late := x.late || s.itemLate x })
  let s := s.updMir (fun m => { m with toStandby := mark m.toStandby, waitStandby := mark m.waitStandby })
  if (m.toStandby ++ m.waitStandby).any s.itemLate then (s.incFSatBy Reg.stwMirCnt 15 0 n).setReady false else s

/-- The mirror channel moves on (R616 to R618). -/
def State.mirrorGo (s : State) : State :=
  match s.standby? with
  | some b => s.mirrorRun b (s.stw.mir.toStandby.length + s.stw.mir.waitStandby.length)
  | none => s.mirrorFill

/-- ACTIVE steward `a` sends a mirror message: towards an island in reset it is lost and counted (R37), a steward that is not
STANDBY drops it (DESIGN CHOICE, log 27), and a STANDBY one takes it from its queue. -/
def State.mirrorSend (s : State) (a : Nat) (m : MirMsg) : State :=
  if s.stwState (1 - a) = 2 then
    (s.mirrorLate.updMir (fun x => { x with waitStandby := x.waitStandby ++ [m] })).mirrorGo
  else
    let s := (s.inc Reg.stwMirSent).updMir (fun x => { x with sent := x.sent + 1 })
    if s.sealedOff (25 - a) then s.crossLost (24 + a) (25 - a) 1 else s

/-- The first message of the queue towards the ACTIVE steward, of KIND `kind`, is taken from it by `f` (R617). -/
def State.mirrorTake (s : State) (kind : Nat) (f : MirrorSt → MirrorSt) : State :=
  match s.stw.mir.toActive with
  | m :: r =>
    if m.kind = kind ∧ s.crosses 24 25 = true then (s.mirrorLate.updMir (fun x => f { x with toActive := r })).mirrorGo else s
  | [] => s

/-- The bytes that an operation of UPD counts in PROGRESS when it ends well: the image, or the region for ERASE (R661, R662). -/
def opTotal (o : Nat × Nat × Nat × Nat) : Nat := if o.1 = 3 then 0x100000 else o.2.2.2

/-- A region of which an erase, then a program of `bs`, has gone through `n` bytes in all: erased blocks before what it held,
the 64 KiB block being erased open from free value `f` on, or the first bytes of the image in an erased region (R660, R661). -/
def partRegion (old bs : List Byte) (f n : Nat) : List Byte :=
  if 0x100000 < n then bs.take (n - 0x100000)
  else
    let done := n / 0x10000 * 0x10000
    let open' := if n % 0x10000 = 0 then 0 else 0x10000
    List.replicate done 0xFF ++ (List.range open').map (fun i => Config.freeByte (f + i)) ++ old.drop (done + open')

/-- A region whose contents the manual leaves open: the flash failed in it (R661). -/
def State.freeRegion (s : State) (t : Nat) : State :=
  let f := s.fresh
  let s := { s with fresh := f + 0x100000 }
  s.updUpd (fun u => { u with flash := flashSetRegion u.flash t ((List.range 0x100000).map (fun i => Config.freeByte (f + i))) })

/-- The operation in progress is abandoned; its region is left as far as it was written, and PROGRESS at the bytes done; how far
that was is a free value (R660, R662). -/
def State.abandonOp (s : State) : State :=
  match s.upd.op with
  | none => s
  | some o =>
    let s := (s.setFlag Reg.updOp 31 false).setFlag Reg.updOpres 31 s.upd.burn.isSome
    let s := s.updUpd (fun u => { u with op := none })
    let f := s.fresh
    let n := Config.freeNat f
    let s := { s with fresh := f + 1 + 0x10000 }
    if o.1 = 1 then s.setF Reg.updOpres 20 0 (n % (o.2.2.2 + 1))
    else
      let len := if o.1 = 3 then 0 else o.2.2.2
      let n := n % (0x100000 + len + 1)
      let bs := if o.1 = 3 then [] else (s.smRead 0 o.2.2.1 len).2.1
      let region := partRegion (flashBytes (flashRegion s.upd.flash o.2.1) 0 0x100000) bs (f + 1) n
      (s.setF Reg.updOpres 20 0 (if o.1 = 3 then n else n - 0x100000)).updUpd (fun u => { u with
        flash := flashSetRegion u.flash o.2.1 region })

/-- The update session ends with cause `code` (R660). -/
def State.endSession (s : State) (code : Nat) : State :=
  if s.flag Reg.updSstat 31 then
    let s := (s.setFlag Reg.updSstat 31 false).setF Reg.updSstat 27 24 code
    s.abandonOp.raise Pg.upd 0x20
  else s

/-- Steward `b` becomes ACTIVE: the active role, the watchdog and the mirror start anew (R606, R611). -/
def State.stwActivate (s : State) (b : Nat) : State :=
  let s := ((s.setStwState b 3).setF Reg.stwRole 8 8 b).setF Reg.sysStatus 4 4 b
  let s := s.updSteward b (fun w => { w with since := s.time.up, kickAt := s.time.up, sigAt := s.time.up, failed := false })
  s.updMir MirrorSt.fresh

/-- Steward `b` enters STANDBY and sends a RESYNC (R608, R617). -/
def State.stwStandby (s : State) (b : Nat) : State :=
  let w := s.steward b
  let s := if w.failed then s.raise Pg.stw 0x8 else s
  let s := s.setStwState b 2
  let s := s.updSteward b (fun w => { w with since := s.time.up, kickAt := s.time.up, sigAt := s.time.up, failed := false })
  ((s.updMir (fun m => { m.fresh with sent := m.sent })).mirrorResyncSend b).mirrorFill

/-- The role moves to steward `b` at tr: TAKEOVER_BUSY, the tick, and PREFER (R612, R613). -/
def State.stwSwitch (s : State) (b : Nat) (swap : Bool) : State :=
  let s := (s.stwActivate b).setFlag Reg.stwRole 10 true
  let s := (s.wr64 Reg.stwTakeLo s.now).setF Reg.stwBoot 0 0 b
  s.updStw (fun x => { x with trAt := s.time.up, swapping := swap })

/-- Steward `b` has become ACTIVE other than by a swap: on the armed bank, the trial begins (R611, R664). -/
def State.actTrial (s : State) (b : Nat) : State :=
  if (s.actState = 1 ∨ s.actState = 2) ∧ s.runBank b = s.fld Reg.updAct 16 16 then
    (s.setF Reg.updAct 30 28 3).updUpd (fun u => { u with actAt := s.time.up })
  else s

/-- Takeover by the eligible standby `b` (R611, R613, R614, R664). -/
def State.takeover (s : State) (b : Nat) : State :=
  let s := (s.stwSwitch b false).incSat Reg.stwTakeovers
  let s := ((s.raise Pg.stw 0x1).stick Pg.stw 0x10000).setReady false
  (s.endSession 3).actTrial b

/-- What a steward's entry into FAILED does to the activation; `b` was not ACTIVE where `standby` holds (R664): one that fails in
PRELOAD is restarted on the confirmed bank at once, without a rejoin. DEDUCED (log 26). -/
def State.actFailed (s : State) (b : Nat) (standby : Bool) : State :=
  if s.actState = 3 then s.actFallback 3
  else if standby && decide (s.runBank b = s.fld Reg.updAct 16 16) then
    if s.actState = 1 then ((s.actNone 6).setF Reg.updOpres 27 24 13).stwRestart b s.confirmed
    else if s.actState = 2 then s.actNone 6
    else s
  else s

/-- Judges a STARTING steward whose self-checks have passed (R608, R611); the first one ACTIVE is the next step of start-up
(R639). -/
def State.judgeStart (s : State) (b : Nat) : State :=
  if s.stwState b = 1 && (s.steward b).passed then
    if s.activeStw.isSome then s.stwStandby b
    else if s.stwState (1 - b) = 1 ∧ s.fld Reg.stwBoot 0 0 ≠ b then s
    else
      let s := ((s.stwActivate b).fatalEnd 5).actTrial b
      if s.fld Reg.cfgStatus 18 16 = 1 then s.setPhase 2 else s
  else s

/-- Steward `b` enters FAILED: island reset at once, and the other steward takes over when it is eligible
(R608, R610, R611, R621). -/
def State.stwFail (s : State) (b : Nat) : State :=
  let st := s.stwState b
  let o := 1 - b
  let eligible := decide (s.stwState o = 2) && s.flag Reg.stwRole 9
  let s := ((s.setStwState b 4).raise Pg.stw 0x4).stick Pg.stw 0x20000
  let s := s.updSteward b (fun w => { w with since := s.time.up, passed := false, failed := true })
  let s := (s.stwIslandDown b).actFailed b (decide (st ≠ 3))
  if st = 3 then
    let s := if s.busyStw && s.stw.swapping then (s.incSat Reg.stwSwapRefused).raise Pg.stw 0x20 else s
    if eligible then s.takeover o
    else
      let s := (s.setFlag Reg.stwRole 10 false).updStw (fun x => { x with swapping := false })
      (s.fatalStart 5).judgeStart o
  else
    let s := if st = 2 then s.setReady false else s
    s.judgeStart o

/-- A check of self-diagnosis fails: 0 WDT, 1 MEM, 2 ALU, 3 SEQ (R609). -/
def State.diagFail (s : State) (b check : Nat) : State := (s.setF (diagReg b) 3 0 (2 ^ check)).stwFail b

/-- Steward `f.1` fails check `f.2`, for each of `fs`; of two that fail in one CTRL clock period the one that is not ACTIVE
fails first, so that no steward is ACTIVE after it (R621). -/
def State.diagFails (s : State) (fs : List (Nat × Nat)) : State :=
  let act := fun (f : Nat × Nat) => decide (s.stwState f.1 = 3)
  (fs.filter (fun f => !act f) ++ fs.filter act).foldl (fun s f => s.diagFail f.1 f.2) s

/-- The deadlines of steward `b` that run: the watchdog's (check 0), but for the ACTIVE steward while a takeover is in progress,
and the signature's (check 2) (R609, R613). -/
def State.stwDeadlines (s : State) (b : Nat) : List (Nat × Nat) :=
  let st := s.stwState b
  let w := s.steward b
  (if st = 2 ∨ (st = 3 ∧ s.busyStw = false) then [(0, w.kickAt + s.fld Reg.stwCfg 15 0 * 2000)] else []) ++
  (if st = 2 ∨ st = 3 then [(2, w.sigAt + (s.fld Reg.stwStperiod 15 0 + 1) * 2000000)] else [])

/-- A deadline of steward `b` passes; one of the other steward in the same CTRL clock period (5 ticks) passes with it
(R30, R609, R621). -/
def State.deadlineFail (s : State) (b check : Nat) : State :=
  match (s.stwDeadlines b).find? (fun d => decide (d.1 = check)) with
  | some (_, t) =>
    let also := ((s.stwDeadlines (1 - b)).filter (fun d => decide (d.2 / 5 = t / 5))).take 1
    (s.elapse t).diagFails ((b, check) :: also.map (fun d => (1 - b, d.1)))
  | none => s

/-- Steward `b` runs: it is STARTING, STANDBY or ACTIVE with its island out of reset. -/
def State.stwRuns (s : State) (b : Nat) : Bool :=
  decide (1 ≤ s.stwState b) && decide (s.stwState b ≤ 3) && !s.fab.inReset.getLsbD (24 + b)

/-- Effect of steward `b`'s write of STW.KICK (R607, R609). -/
def State.kickWrite (s : State) (b : Nat) : State := s.updSteward b (fun w => { w with kickAt := s.time.up })

/-- Effect of steward `b`'s write of STW.ALU_SIG (R609). -/
def State.aluSigWrite (s : State) (b : Nat) (v : Word) : State :=
  if v = Config.aluKa then s.updSteward b (fun w => { w with sigAt := s.time.up }) else s.diagFail b 2

/-- Effect of a write of STW.MEMLIM: COUNT stays and is judged by the new LIMIT at once (R519, R520, R609). -/
def State.memlimWrite (s : State) (v : Word) : State :=
  let s := (s.stwLeak 0 false 0).stwLeak 1 false 0
  let was := s.fld Reg.stwMemlim 31 16
  let s := s.plainWrite Reg.stwMemlim v
  let lim := s.fld Reg.stwMemlim 31 16
  let past := fun (b : Nat) => let n := s.fld (diagReg b) 31 16
    s.stwRuns b && decide (n ≤ was) && decide (lim < n)
  s.diagFails (((List.range 2).filter past).map (fun b => (b, 1)))

/-- The roles are exchanged at tr; the former active steward becomes STANDBY with its mirror current (R619). -/
def State.doSwap (s : State) (a : Nat) : State := (s.stwSwitch (1 - a) true).stwStandby a

/-- A request for a swap is accepted or refused (R619). -/
def State.swapRequest (s : State) : State :=
  match s.activeStw with
  | some a =>
    if s.flag Reg.stwRole 9 && !s.busyStw && decide (s.stwState (1 - a) = 2) then s.doSwap a
    else (s.incSat Reg.stwSwapRefused).raise Pg.stw 0x20
  | none => (s.incSat Reg.stwSwapRefused).raise Pg.stw 0x20

/-- A FAILED steward is released to STARTING (R608). -/
def State.rejoin (s : State) (b : Nat) : State :=
  if s.stwState b = 4 then
    let s := s.incSat Reg.stwRejoins
    let s := s.updSteward b (fun w => { w with rejoins := s.time.up :: w.rejoins })
    s.stwStart b s.bootBank 0
  else s

/-- Effect of a write of STW.CMD (R608, R619). -/
def State.stwCmdWrite (s : State) (v : Word) : State :=
  let s := if v.getLsbD 1 then (s.rejoin 0).rejoin 1 else s
  if v.getLsbD 0 then s.swapRequest else s

/-- `n` bytes from BAR2 offset `a` on lie entirely inside the write window of port `p` (R82). -/
def State.inWin2 (s : State) (p a n : Nat) : Bool :=
  decide (s.nat (Reg.pcieWin2Base p) * 65536 ≤ a) && decide (a + n ≤ (s.nat (Reg.pcieWin2Limit p) + 1) * 65536)

/-- A 4-byte BAR2 write through port `p` at `a` with value `v` is a swap doorbell (R619). -/
def State.isSwapDb (s : State) (p a v : Nat) : Bool :=
  s.flag Reg.stwSwapDb 31 && s.flag Reg.stwCfg (24 + p) && decide (s.fld Reg.stwSwapDb 25 0 = a) && decide (v = 0x53574150)

/-- STW_KICK (R609): taken for the steward that writes (R607). -/
def execStwKick (b : Fin 2) (v : Word) (s : State) : Host.Outcome State Fault Refusal :=
  .next (if s.stwRuns b then s.busWrite .stw Reg.stwKick v (fun s => s.kickWrite b) (some (.steward b)) else s)

/-- STW_WDT_EXPIRE (R609): no kick within WDT µs. -/
def execStwWdtExpire (b : Fin 2) (s : State) : Host.Outcome State Fault Refusal :=
  .next (s.deadlineFail b 0)

/-- ALU_SIG_WRITE (R609). -/
def execAluSigWrite (b : Fin 2) (v : Word) (s : State) : Host.Outcome State Fault Refusal :=
  .next (if s.stwRuns b then s.busWrite .stw Reg.stwAluSig v (fun s => s.aluSigWrite b v) (some (.steward b)) else s)

/-- ALU_SIG_TIMEOUT (R609): no correct value within STPERIOD ms plus 1 ms. -/
def execAluSigTimeout (b : Fin 2) (s : State) : Host.Outcome State Fault Refusal :=
  .next (s.deadlineFail b 2)

/-- STW_MEMORY_ERROR (R609): an uncorrectable error, or one more corrected error in the bucket, which fails the check when
it crosses LIMIT. -/
def execStwMemoryError (b : Fin 2) (uncorrectable : Bool) (s : State) : Host.Outcome State Fault Refusal :=
  if s.stwRuns b then
    if uncorrectable then .next (s.diagFail b 1)
    else
      let s := s.stwLeak b false 0
      let n := s.fld (diagReg b) 31 16
      let lim := s.fld Reg.stwMemlim 31 16
      let s := s.incFSat (diagReg b) 31 16
      .next (if n ≤ lim ∧ lim < s.fld (diagReg b) 31 16 then s.diagFail b 1 else s)
  else .next s

/-- STW_SELF_CHECK_PASS (R608, R611). -/
def execStwSelfCheckPass (b : Fin 2) (s : State) : Host.Outcome State Fault Refusal :=
  if s.stwState b = 1 then
    let s := (s.elapse (s.steward b).since).stwIslandUp b
    let s := s.updSteward b (fun w => { w with passed := true })
    .next ((s.judgeStart b).judgeStart (1 - b))
  else .next s

/-- STW_START_TIMEOUT (R608): the self-checks fail, once the steward is out of island reset, or 100 ms elapse without passing. -/
def execStwStartTimeout (f : StartFail) (s : State) : Host.Outcome State Fault Refusal :=
  let w := s.steward f.stw
  if s.stwState f.stw = 1 && !w.passed then
    .next ((s.elapse (w.since + if f.checks then 0 else 200000000)).stwFail f.stw)
  else .next s

/-- TAKEOVER_COMPLETE (R613, R619): `ticks` after tr. -/
def execTakeoverComplete (ticks : Nat) (s : State) : Host.Outcome State Fault Refusal :=
  if s.busyStw then
    let s := s.elapse (s.stw.trAt + ticks)
    let s := (s.setFlag Reg.stwRole 10 false).setF Reg.stwTakeUs 15 0 ((ticks + 1999) / 2000)
    let s := match s.activeStw with
      | some a => s.kickWrite a
      | none => s
    if s.stw.swapping then
      .next (((s.incSat Reg.stwSwaps).raise Pg.stw 0x2).updStw (fun x => { x with swapping := false }))
    else .next s
  else .next s

/-- STW_REJOIN (R608, R610): 1 ms in island reset, with fewer than REJOIN_MAX rejoins in the past 24 h. -/
def execStwRejoin (b : Fin 2) (s : State) : Host.Outcome State Fault Refusal :=
  if s.stwState b = 4 then
    let t := s.elapse ((s.steward b).since + 2000000)
    let past := (t.steward b).rejoins.filter (fun u => decide (t.time.up < u + 172800000000000))
    .next (if past.length < t.fld Reg.stwCfg 19 16 then t.rejoin b else s)
  else .next s

/-- STW_CMD_REJOIN (R608): a write of STW.CMD with REJOIN = 1. -/
def execStwCmdRejoin (d : Dom) (v : Word) (s : State) : Host.Outcome State Fault Refusal :=
  let v := setBit v 1 true
  .next (s.hostWrite d Reg.stwCmd v (fun s => s.stwCmdWrite v))

/-- SWAP (R619): a write of STW.CMD with SWAP = 1. -/
def execSwap (d : Dom) (v : Word) (s : State) : Host.Outcome State Fault Refusal :=
  let v := setBit v 0 true
  .next (s.hostWrite d Reg.stwCmd v (fun s => s.stwCmdWrite v))

/-- MIRROR_ITEM (R617, R618): the ACTIVE steward sends an ITEM for a change, with at most 44 bytes. -/
def execMirrorItem (item : Fin 5) (mfmt : BitVec 16) (seq offset : Word) (data : List Byte) (crc : Word) (s : State) :
    Host.Outcome State Fault Refusal :=
  match s.activeStw with
  | some a => .next (s.mirrorSend a { kind := 1, item := item, mfmt := mfmt.toNat, seq := seq.toNat, offset := offset.toNat
                                      data := data.take 44, crc := crc, sentAt := s.time.up })
  | none => .next s

/-- MIRROR_ACK (R617): the ACTIVE steward takes an ACK from its queue. -/
def execMirrorAck (s : State) : Host.Outcome State Fault Refusal := .next (s.mirrorTake 2 id)

/-- MIRROR_RESYNC (R617): the ACTIVE steward takes a RESYNC from its queue and owes a full copy, whose ITEMs and END are the
commands that follow. -/
def execMirrorResync (s : State) : Host.Outcome State Fault Refusal :=
  .next (s.mirrorTake 3 (fun m => { m with ends := m.ends + 1 }))

/-- MIRROR_END (R617, R618): the ACTIVE steward sends an END, with its own MFMT. -/
def execMirrorEnd (seq crc : Word) (s : State) : Host.Outcome State Fault Refusal :=
  match s.activeStw with
  | some a =>
    let s := s.updMir (fun m => { m with ends := m.ends - 1 })
    .next (s.mirrorSend a { kind := 4, mfmt := s.fwField a 26, seq := seq.toNat, crc := crc, sentAt := s.time.up })
  | none => .next s

/-- MIRROR_STALL (R615, R618): the first change that is still undelivered has been so for longer than 100 µs. -/
def execMirrorStall (s : State) : Host.Outcome State Fault Refusal :=
  match (s.stw.mir.toStandby ++ s.stw.mir.waitStandby).find? (fun m => decide (m.kind = 1) && !m.late) with
  | some m => .next (s.elapse (m.sentAt + 200001)).mirrorLate
  | none => .next s

end Sys2Proof.Machine
end

