-- ==== Sys2Proof/Machine/Guard.lean ====
section
/-!
DEFINITION. Identity memories and the hardware guardrails (R627 to R635).
-/
namespace Sys2Proof.Machine

/-- Effect of a write of IDM.CMD (R628): a GO while a read is in progress is refused by its field alone. -/
def State.idmCmdWrite (s : State) (v : Word) : State :=
  let busy := s.flag Reg.idmCmd 31
  let s := s.plainWrite Reg.idmCmd v
  if v.getLsbD 31 then
    if busy then s.refuse Pg.idm
    else s.updStw (fun x => { x with idm := BitVec.ofNat 16 (s.fld Reg.idmCmd 15 0) })
  else s

/-- An identity record is valid: MAGIC, FORMAT and the byte sum (R629). -/
def idmValid (bs : List Byte) : Bool :=
  decide (bs.take 3 = [0x49, 0x44, 1]) && decide (bs.foldl (fun a b => a + b.toNat) 0 % 256 = 0)

/-- The read of tile `t` ends with outcome `o` (2 absent, 4 bus error, else bytes) (R628 to R630). -/
def State.idmTile (s : State) (t o : Nat) (data : List Byte) : State :=
  let k := Reg.idmStat t
  let bs := (data ++ List.replicate 64 0).take 64
  let s := s.incF k 31 16
  if o = 2 ∨ o = 4 then
    ((s.setF k 2 0 o).setFlag k 8 false).raise Pg.idm (2 ^ t)
  else
    let s := (List.range 16).foldl (fun s w => s.wr (Reg.idmRecord t w) (word (leNat ((bs.drop (4 * w)).take 4)))) s
    let ok := idmValid bs
    let e := s.rd64 (Reg.idmExpectLo t)
    let mis := decide (e ≠ 0) && decide (e ≠ leNat ((bs.drop 4).take 8))
    let s := (s.setF k 2 0 (if ok then 1 else 3)).setFlag k 8 mis
    if ok && !mis then s else s.raise Pg.idm (2 ^ t)

/-- The identity read in progress ends with these records; a tile without one did not answer. -/
def State.idmDone (s : State) (recs : List (Fin 16 × Fin 5 × List Byte)) : State :=
  let tiles := s.stw.idm
  let s := (List.range 16).foldl (fun s t =>
    if tiles.getLsbD t then
      match recs.find? (fun r => decide (r.1.val = t)) with
      | some r => s.idmTile t r.2.1.val r.2.2
      | none => s.idmTile t 2 []
    else s) s
  let s := (s.setFlag Reg.idmCmd 31 false).raise Pg.idm 0x10000
  s.updStw (fun x => { x with idm := 0 })

/-- The effective LIMIT, WARN and HYST in °C (R631, R632). -/
def State.thermLimit (s : State) : Nat := Nat.min (s.fld Reg.guardTherm 7 0) (s.fld Reg.guardFTherm 7 0)
/-- The effective WARN. -/
def State.thermWarn (s : State) : Nat := Nat.min (s.fld Reg.guardTherm 15 8) (s.fld Reg.guardFTherm 15 8)
/-- The effective HYST: the larger value ends a trip later. -/
def State.thermHyst (s : State) : Nat := Nat.max (s.fld Reg.guardTherm 19 16) (s.fld Reg.guardFTherm 19 16)

/-- The registers of a GUARD group (R631). -/
def guardGroup (g : Nat) : List Nat :=
  match g with
  | 0 => [Reg.guardTherm]
  | 1 => [Reg.guardTbus]
  | 2 => [Reg.guardLanes]
  | 3 => [Reg.guardLight, Reg.guardImax 0, Reg.guardImax 1]
  | 4 => [Reg.guardRail]
  | _ => (List.range 16).map Reg.guardBias

/-- A window register holds its upper bound in bits 31:16 and its lower in 15:0: written `v`, the effective window is empty
(R631). -/
def State.windowEmpty (s : State) (k : Nat) (v : Word) : Bool :=
  decide (Nat.min (wfld v 31 16) (s.fld (k + 0x200) 31 16) < Nat.max (wfld v 15 0) (s.fld (k + 0x200) 15 0))

/-- What enforces the limits follows them (R575, R577, R490, R494, R591, R603). -/
def State.guardFollow (s : State) : State := (s.laneGuard.lightGuard).servoOutputs

/-- Effect of a write of a GUARD limit register at `k` (R631). -/
def State.guardWrite (s : State) (k : Nat) (v : Word) : State :=
  let win := decide (k = Reg.guardRail) || decide (k ∈ guardGroup 5)
  if win && !s.locked Pg.guard && s.windowEmpty k v then s.refuse Pg.guard
  else (s.plainWrite k v).guardFollow

/-- Effect of a write of GUARD.FUSE_CTL (R635). -/
def State.fuseWrite (s : State) (v : Word) : State :=
  let g := wfld v 2 0
  if 5 < g ∨ s.flag Reg.guardStatus 0 = false ∨ s.modeNow ≠ 0 ∨ s.flag Reg.guardStatus (8 + g) ∨ s.stw.burn.isSome then
    s.refuse Pg.guard
  else s.updStw (fun x => { x with burn := some (g, (guardGroup g).map (fun k => (k, s.rd k)), s.time.up) })

/-- IDM_READ (R628): a write of IDM.CMD. -/
def execIdmRead (d : Dom) (v : Word) (s : State) : Host.Outcome State Fault Refusal :=
  .next (s.hostWrite d Reg.idmCmd v (fun s => s.idmCmdWrite v))

/-- IDM_READ_DONE (R628 to R630). -/
def execIdmReadDone (recs : List (Fin 16 × Fin 5 × List Byte)) (s : State) : Host.Outcome State Fault Refusal :=
  .next (if s.flag Reg.idmCmd 31 then s.idmDone recs else s)

/-- THERMAL_SAMPLE (R632): the readings in 1/128 °C; the NRS-2048S has no DRAM stack. -/
def execThermalSample (hub dram : Int) (tiles : List Int) (s : State) : Host.Outcome State Fault Refusal :=
  let s := s.elapse s.stw.thermAt
  let s := s.updStw (fun x => { x with thermAt := (s.time.up / 2000000 + 1) * 2000000 })
  let rs := [(0, hub)] ++ (if s.variant = .t then [(1, dram)] else []) ++
    ((tiles.take 16).zipIdx.map (fun e => (16 + e.2, e.1)))
  let top := rs.foldl (fun a r => if a.2 < r.2 then r else a) (0, hub)
  let s := s.wr Reg.guardTempMax (word (top.1 * 65536 + unsigned 16 (satSigned 16 top.2)))
  let warn := decide (((s.thermWarn * 128 : Nat) : Int) < top.2)
  let trip := decide (((s.thermLimit * 128 : Nat) : Int) < top.2)
  let hot := decide ((((s.thermLimit : Int) - s.thermHyst) * 128) < top.2)
  let was := s.flag Reg.guardStatus 16
  let s := s.setFlag Reg.guardStatus 17 warn
  let s := if warn then s.raise Pg.guard 0x1 else s
  if trip && !was then
    let s := ((s.setFlag Reg.guardStatus 16 true).raise Pg.guard 0x2).incSat Reg.guardThermTrips
    .next (s.fatalStart 2)
  else if was && !hot then .next ((s.setFlag Reg.guardStatus 16 false).fatalEnd 2)
  else .next s

/-- GUARD_FUSE (R635): a write of GUARD.FUSE_CTL. -/
def execGuardFuse (d : Dom) (v : Word) (s : State) : Host.Outcome State Fault Refusal :=
  .next (s.hostWrite d Reg.guardFuseCtl v (fun s => s.fuseWrite v))

/-- The burn of a fuse group ends; where the read-back differs, whether the group is fused is free, and
what its fuses hold; a group that is not reads as the widest values (R635). -/
def State.fuseDone (s : State) (ok : Bool) : State :=
  match s.stw.burn with
  | none => s
  | some (g, vs, at') =>
    let s := (s.elapse (at' + 20000000)).updStw (fun x => { x with burn := none })
    if ok then
      let s := vs.foldl (fun s e => s.wr (e.1 + 0x200) e.2) (s.setFlag Reg.guardStatus (8 + g) true)
      s.guardFollow.raise Pg.guard 0x4
    else
      let b := decide (Config.freeNat s.fresh % 2 = 1)
      let s := s.draw
      let s := if b then vs.foldl (fun s e =>
          let m := match regRow? e.1 with
            | some r => word r.rwl
            | none => 0
          (s.draw).wr (e.1 + 0x200) (word (Config.freeNat s.fresh) &&& m)) s
        else s
      ((s.setFlag Reg.guardStatus (8 + g) b).guardFollow).raise Pg.guard 0x8

/-- GUARD_FUSE_DONE (R635): the burn ends after 10 ms. -/
def execGuardFuseDone (ok : Bool) (s : State) : Host.Outcome State Fault Refusal := .next (s.fuseDone ok)

end Sys2Proof.Machine
end

