-- ==== Sys2Proof/Machine/Upd.lean ====
section
/-!
DEFINITION. Configuration and firmware images, update sessions and activation at a rendezvous (R638, R646 to R668).
-/
namespace Sys2Proof.Machine

/-- SYS.ID.DEVICE of the variant. -/
def State.device (s : State) : Nat := match s.variant with
  | .t => 0x2048
  | .s => 0x2049

/-- HWTYPE and UNIT of an image match the module (R646). -/
def State.bound (s : State) (hw unit : Nat) : Bool :=
  (decide (hw = 0xFFFF) || decide (hw = s.device)) && (decide (unit = 0) || decide (unit = s.rd64 Reg.sysSerialLo))

/-- A section of a configuration image: TYPE, SETFMT, offset of its body and LEN (R647). -/
abbrev Section := Nat × Nat × Nat × Nat

/-- The sections from byte `pos` to byte `stop`, `n` at most; none where one runs past the end (R647, R650). -/
def sectionsAt (bs : List Byte) : Nat → Nat → Nat → Option (List Section)
  | 0, pos, stop => if pos = stop then some [] else none
  | n + 1, pos, stop =>
    if pos = stop then some []
    else
      let len := flashNat bs (pos + 4) 4
      let next := pos + 8 + (len + 3) / 4 * 4
      if stop < pos + 8 ∨ stop < next then none
      else
        match sectionsAt bs n next stop with
        | none => none
        | some r => some ((flashNat bs pos 2, flashNat bs (pos + 2) 2, pos + 8, len) :: r)

/-- LENGTH of a configuration image. -/
def cfgLength (bs : List Byte) : Nat := flashNat bs 8 4

/-- The sections of an image. -/
def sectionsOf (bs : List Byte) : Option (List Section) := sectionsAt bs (cfgLength bs) 64 (cfgLength bs - 4)

/-- A section is well formed by itself (R650 cause 6). -/
def sectionOk (bs : List Byte) (x : Section) : Bool :=
  let len := x.2.2.2
  match x.1 with
  | 1 => decide (len = 768)
  | 2 => decide (len % 8 = 0) && (List.range (len / 8)).all (fun i =>
      let op := flashNat bs (x.2.2.1 + 8 * i + 3) 1
      decide (1 ≤ op) && decide (op ≤ 4))
  | 3 => true
  | 4 => true
  | _ => false

/-- The image holds a STEWARD section for a settings format. -/
def hasFmt (bs : List Byte) (fmt : Nat) : Bool :=
  ((sectionsOf bs).getD []).any (fun x => decide (x.1 = 4) && decide (x.2.1 = fmt))

/-- The cause for which a configuration image fails its check, 0 where it passes; `fmt` is the settings format of the
running firmware, none for the recovery firmware (R650). -/
def State.cfgCause (s : State) (readOk : Bool) (bs : List Byte) (fmt : Option Nat) : Nat :=
  let len := cfgLength bs
  if readOk = false then 1
  else if flashBytes bs 0 4 ≠ [0x4E, 0x52, 0x43, 0x46] ∨ flashNat bs 4 2 ≠ 1 ∨ flashNat bs 6 2 ≠ 64 then 2
  else if len % 4 ≠ 0 ∨ len < 68 ∨ 1048576 < len then 3
  else if (crc32c (flashBytes bs 0 (len - 4))).toNat ≠ flashNat bs (len - 4) 4 then 4
  else if s.bound (flashNat bs 12 2) (flashNat bs 24 8) = false then 5
  else
    match sectionsOf bs with
    | none => 6
    | some xs =>
      if xs.length ≠ flashNat bs 32 2 ∨ xs.all (sectionOk bs) = false then 6
      else match fmt with
        | some f => if hasFmt bs f then 0 else 7
        | none => 0

/-- The OPRES code of a configuration check (R650, R661). -/
def causeCode (c : Nat) : Nat :=
  match c with
  | 0 => 0
  | 4 => 3
  | 5 => 4
  | 7 => 8
  | 1 => 7
  | _ => 2

/-- The hash fused in key slot `k`, where it is programmed and not revoked (R655). -/
def State.keyHash (s : State) (k : Nat) : Option (List Byte) :=
  if s.flag Reg.updKeys k && !s.flag Reg.updKeys (4 + k) then some (sget [] k s.upd.keys) else none

/-- The OPRES code of a firmware check, 0 where the image passes (R655). -/
def State.fwCode (s : State) (bs : List Byte) : Nat :=
  let code := flashNat bs 32 4
  let rev := s.fld Reg.sysId 15 8
  let key := flashBytes bs 96 32
  if flashBytes bs 0 4 ≠ [0x4E, 0x52, 0x46, 0x57] ∨ flashNat bs 4 2 ≠ 1 ∨ flashNat bs 6 2 ≠ 256 then 2
  else if code % 4 ≠ 0 ∨ code < 4 ∨ 393216 < code then 2
  else if s.bound (flashNat bs 8 2) (flashNat bs 12 8) = false ∨ rev < flashNat bs 10 1 ∨ flashNat bs 11 1 < rev then 4
  else if 3 < flashNat bs 30 1 ∨ s.keyHash (flashNat bs 30 1) ≠ some (sha256 key) then 5
  else if edVerify key (flashBytes bs 192 64) (flashBytes bs 0 192 ++ flashBytes bs 256 code) then 0
  else 3

/-- The contents of firmware bank `n`. -/
def State.bank (s : State) (n : Nat) : List Byte := flashRegion s.upd.flash (2 + n)

/-- UPD.BANKS.VALIDn and UPD.FWVERn follow the flash and the key slots. -/
def State.showBanks (s : State) : State :=
  (List.range 2).foldl (fun s n =>
    let ok := decide (s.fwCode (s.bank n) = 0)
    (s.setFlag Reg.updBanks (2 + n) ok).wr (Reg.updFwver n) (if ok then word (flashNat (s.bank n) 20 4) else 0)) s

/-- A boot record copy: its SEQ and CONFIRMED where it is valid (R638). -/
def bootRecord (bs : List Byte) : Option (Nat × Nat) :=
  if flashBytes bs 0 4 = [0x4E, 0x52, 0x42, 0x52] ∧ flashNat bs 8 1 ≤ 1 ∧ (crc32c (flashBytes bs 0 12)).toNat = flashNat bs 12 4 then
    some (flashNat bs 4 4, flashNat bs 8 1)
  else none

/-- SEQ `a` is later than `b` (R651). -/
def laterSeq (a b : Nat) : Bool :=
  let d := (a + 2 ^ 32 - b) % 2 ^ 32
  decide (1 ≤ d) && decide (d ≤ 2 ^ 31 - 1)

/-- The boot record in use: its copy, SEQ and CONFIRMED (R638). -/
def bootInUse (f : FlashImage) : Option (Nat × Nat × Nat) :=
  match bootRecord f.boot0, bootRecord f.boot1 with
  | some a, some b => if laterSeq b.1 a.1 then some (1, b.1, b.2) else some (0, a.1, a.2)
  | some a, none => some (0, a.1, a.2)
  | none, some b => some (1, b.1, b.2)
  | none, none => none

/-- The boot record is changed: the copy not in use is written with SEQ + 1 (R638). -/
def bootWrite (f : FlashImage) (bank : Nat) : FlashImage :=
  let image := fun (seq : Nat) =>
    let h : List Byte := [0x4E, 0x52, 0x42, 0x52] ++ leBytes 4 seq ++ leBytes 4 bank
    h ++ leBytes 4 (crc32c h).toNat
  match bootInUse f with
  | some (0, n, _) => { f with boot1 := image ((n + 1) % 2 ^ 32) }
  | some (_, n, _) => { f with boot0 := image ((n + 1) % 2 ^ 32) }
  | none => { f with boot0 := image 1 }

/-- The settings format of the running firmware, none for the recovery firmware (R650, R656). -/
def State.runFmt (s : State) : Option Nat :=
  if s.flag Reg.updBanks 9 then none
  else some (flashNat (s.bank (s.runBank (s.activeStw.getD 0))) 24 2)

/-- The firmware that runs now serves a configuration copy (R650, R662). -/
def State.copyPasses (s : State) (c : Nat) : Bool :=
  decide (s.cfgCause true (flashRegion s.upd.flash c) s.runFmt = 0)

/-- UPD.OPRES.CODE. -/
def State.opCode (s : State) (c : Nat) : State := s.setF Reg.updOpres 27 24 c

/-- An accepted write of the session's owner restarts the timer (R660). -/
def State.ownerTouch (s : State) : State := s.updUpd (fun u => { u with ownerAt := s.time.up })

/-- Effect of a write of UPD.SESSION from domain `d` (R658, R660). -/
def State.sessionWrite (s : State) (d : Dom) (v : Word) : State :=
  let n := domIdx d
  let res := fun (s : State) (c : Nat) =>
    { s with fab := { s.fab with sres := sset (resetOf Reg.updSres) n (word (2 ^ 31 + c * 2 ^ 28)) s.fab.sres } }
  match wfld v 1 0 with
  | 1 =>
    if s.flag Reg.updSstat 31 then (res s 1).stick Pg.upd 0x20000
    else
      let s := ((res s 0).setFlag Reg.updSstat 31 true).setF Reg.updSstat 29 28 n
      s.ownerTouch
  | 2 => if s.sessionOwner = some n then (res s 0).endSession 1 else res s 2
  | _ => s.refuse Pg.upd

/-- Effect of the owner's write of UPD.SRC, LEN or TRIAL_S at `k` (R659). -/
def State.ownerWrite (s : State) (k : Nat) (v : Word) : State := (s.plainWrite k v).ownerTouch

/-- WRITE and ERASE of a target in use (R662). -/
def State.inUse (s : State) (t : Nat) : Bool :=
  if t < 2 then s.copyPasses t && !s.copyPasses (1 - t)
  else decide (t - 2 = s.confirmed) || (decide (s.actState ≠ 0) && decide (s.fld Reg.updAct 16 16 = t - 2))

/-- Effect of the owner's write of UPD.OP (R661, R662). -/
def State.opWrite (s : State) (v : Word) : State :=
  let s := s.ownerTouch
  if s.flag Reg.updOpres 31 then s.refuse Pg.upd
  else
    let s := s.plainWrite Reg.updOp v
    if v.getLsbD 31 = false then s
    else
      let op := s.fld Reg.updOp 3 0
      let t := s.fld Reg.updOp 17 16
      let src := s.nat Reg.updSrc
      let len := s.nat Reg.updLen
      let code :=
        if op = 0 ∨ (op ≠ 3 ∧ (src % 64 ≠ 0 ∨ len % 4 ≠ 0 ∨ len < 4 ∨ 1048576 < len ∨ 0x3000000 < src + len)) then 1
        else if op ≠ 1 ∧ s.inUse t then 6
        else 0
      let s := s.wr Reg.updOpres 0
      if code ≠ 0 then (s.setFlag Reg.updOp 31 false).opCode code
      else (s.setFlag Reg.updOpres 31 true).updUpd (fun u => { u with op := some (op, t, src, len) })

/-- The check of a staged image for a target (R661, R662). -/
def State.stagedCode (s : State) (op t : Nat) (bs : List Byte) : Nat :=
  if t < 2 then
    let c := causeCode (s.cfgCause true bs s.runFmt)
    let armed := flashNat (s.bank (s.fld Reg.updAct 16 16)) 24 2
    let conf := flashNat (s.bank s.confirmed) 24 2
    if c ≠ 0 then c
    else if bs.length < cfgLength bs then 2
    else if op = 2 ∧ s.actState ≠ 0 ∧ (hasFmt bs armed && hasFmt bs conf) = false then 6
    else 0
  else if bs.length < 256 + flashNat bs 32 4 then 2
  else s.fwCode bs

/-- The operation in progress ends with a code and a count of bytes done. -/
def State.opEnd (s : State) (code done : Nat) : State :=
  let s := (s.setFlag Reg.updOp 31 false).wr Reg.updOpres (word (code * 2 ^ 24 + done))
  (((s.updUpd (fun u => { u with op := none })).showBanks).ownerTouch).raise Pg.upd 0x1

/-- The steward that is not ACTIVE; where none is, the one on the armed bank. -/
def State.otherStw (s : State) : Nat :=
  match s.activeStw with
  | some a => 1 - a
  | none => if s.runBank 0 = s.fld Reg.updAct 16 16 then 0 else 1

/-- Effect of the owner's write of UPD.ARM (R663, R664, R668). -/
def State.armWrite (s : State) (v : Word) : State :=
  let s := s.ownerTouch
  let s := if v.getLsbD 30 then
      if s.actState = 1 ∨ s.actState = 2 then (s.actNone 4).stwRestart s.otherStw s.confirmed
      else if s.actState = 3 then s.actFallback 4
      else s
    else s
  if v.getLsbD 31 = false then s
  else
    let bank := wfld v 16 16
    let token := wfld v 15 0
    let fw := s.fwCode (s.bank bank)
    let used := s.fld Reg.cfgStatus 13 12
    let run := s.bank (s.runBank (s.activeStw.getD 0))
    let runFmt := if s.flag Reg.updBanks 9 then 0 else flashNat run 26 2
    let code :=
      if s.actState ≠ 0 then 10
      else if token = 0 then 1
      else if bank = s.confirmed then 6
      else if fw ≠ 0 then fw
      else if s.flag Reg.stwRole 9 = false then 9
      else if runFmt < flashNat (s.bank bank) 28 2 then 11
      else if used > 1 ∨ hasFmt (flashRegion s.upd.flash used) (flashNat (s.bank bank) 24 2) = false then 8
      else 0
    let s := s.opCode code
    if code ≠ 0 then s
    else
      let s := s.wr Reg.updAct (word (2 ^ 28 + bank * 2 ^ 16 + token))
      (s.updUpd (fun u => { u with actAt := s.time.up })).stwRestart s.otherStw bank

/-- Effect of the owner's write of UPD.CONFIRM (R667). -/
def State.confirmWrite (s : State) (v : Word) : State :=
  let s := s.ownerTouch
  if v.getLsbD 0 = false then s
  else
    let bank := s.fld Reg.updAct 16 16
    if s.actState = 3 ∧ s.runBank 0 = bank ∧ s.runBank 1 = bank ∧ s.flag Reg.stwRole 9 then
      let s := (s.updUpd (fun u => { u with flash := bootWrite u.flash bank })).setF Reg.updBanks 0 0 bank
      (s.actNone 1).raise Pg.upd 0x8
    else s.opCode 10

/-- Effect of the owner's write of UPD.KEY_FUSE (R657). -/
def State.keyFuseWrite (s : State) (v : Word) : State :=
  let s := s.ownerTouch
  let k := wfld v 1 0
  let revoke := v.getLsbD 8
  let prog := s.flag Reg.updKeys k
  let fits := if revoke then prog && !s.flag Reg.updKeys (4 + k) else !prog
  if s.flag Reg.guardStatus 0 = false ∨ s.modeNow ≠ 0 ∨ fits = false ∨ s.flag Reg.updOpres 31 then s.opCode 10
  else
    let src := s.nat Reg.updSrc
    if revoke then
      (s.wr Reg.updOpres (word (2 ^ 31))).updUpd (fun u => { u with burn := some (k, true, [], s.time.up) })
    else if 0x3000000 < src + 32 then s.opCode 1
    else
      let (s, bs, ue) := s.smRead 0 src 32
      if ue then s.opCode 12
      else (s.wr Reg.updOpres (word (2 ^ 31))).updUpd (fun u => { u with burn := some (k, false, bs, s.time.up) })

/-- UPD_CLAIM (R658): a write of UPD.SESSION with CMD = 1. -/
def execUpdClaim (d : Dom) (v : Word) (s : State) : Host.Outcome State Fault Refusal :=
  let v := setFld v 1 0 1
  .next (s.hostWrite d Reg.updSession v (fun s => s.sessionWrite d v))

/-- UPD_CLOSE (R660): a write of UPD.SESSION with CMD = 2. -/
def execUpdClose (d : Dom) (v : Word) (s : State) : Host.Outcome State Fault Refusal :=
  let v := setFld v 1 0 2
  .next (s.hostWrite d Reg.updSession v (fun s => s.sessionWrite d v))

/-- UPD_SESSION_TIMEOUT (R660): 60 s without an accepted write of the owner while no operation runs. -/
def execUpdSessionTimeout (s : State) : Host.Outcome State Fault Refusal :=
  if s.flag Reg.updSstat 31 && !s.flag Reg.updOpres 31 then
    .next ((s.elapse (s.upd.ownerAt + 120000000000)).endSession 2)
  else .next s

/-- UPD_VERIFY (R661): a write of UPD.OP with GO and OP = 1. -/
def execUpdVerify (d : Dom) (v : Word) (s : State) : Host.Outcome State Fault Refusal :=
  let v := setFld (setBit v 31 true) 3 0 1
  .next (s.hostWrite d Reg.updOp v (fun s => s.opWrite v))

/-- UPD_WRITE (R661, R662): a write of UPD.OP with GO and OP = 2. -/
def execUpdWrite (d : Dom) (v : Word) (s : State) : Host.Outcome State Fault Refusal :=
  let v := setFld (setBit v 31 true) 3 0 2
  .next (s.hostWrite d Reg.updOp v (fun s => s.opWrite v))

/-- UPD_ERASE (R661, R662): a write of UPD.OP with GO and OP = 3. -/
def execUpdErase (d : Dom) (v : Word) (s : State) : Host.Outcome State Fault Refusal :=
  let v := setFld (setBit v 31 true) 3 0 3
  .next (s.hostWrite d Reg.updOp v (fun s => s.opWrite v))

/-- The flash fails under an operation: its region is left open, and how many bytes were done is a free value (R661, R662). -/
def State.opFail (s : State) (o : Nat × Nat × Nat × Nat) : State :=
  (s.draw.freeRegion o.2.1).opEnd 7 (Config.freeNat s.fresh % (opTotal o + 1))

/-- UPD_OP_DONE (R661, R662): the operation ends; a flash that fails leaves its region open, and how many bytes a VERIFY that fails
has done is a free value. -/
def execUpdOpDone (flashOk : Bool) (s : State) : Host.Outcome State Fault Refusal :=
  match s.upd.op with
  | none => .next s
  | some (op, t, src, len) =>
    if op = 3 then
      if flashOk then
        .next ((s.updUpd (fun u => { u with flash := flashSetRegion u.flash t [] })).opEnd 0 0x100000)
      else .next (s.opFail (op, t, src, len))
    else
      let (s, bs, ue) := s.smRead 0 src len
      let code := if ue then 12 else s.stagedCode op t bs
      if code ≠ 0 then .next (if op = 1 then s.draw.opEnd code (Config.freeNat s.fresh % (len + 1)) else s.opEnd code 0)
      else if op = 1 then .next (s.opEnd 0 len)
      else if flashOk then
        .next ((s.updUpd (fun u => { u with flash := flashSetRegion u.flash t bs })).opEnd 0 len)
      else .next (s.opFail (op, t, src, len))

/-- UPD_ARM (R663): a write of UPD.ARM with GO = 1. -/
def execUpdArm (d : Dom) (v : Word) (s : State) : Host.Outcome State Fault Refusal :=
  let v := setBit (setBit v 31 true) 30 false
  .next (s.hostWrite d Reg.updArm v (fun s => s.armWrite v))

/-- UPD_DISARM (R664): a write of UPD.ARM with DISARM = 1. -/
def execUpdDisarm (d : Dom) (v : Word) (s : State) : Host.Outcome State Fault Refusal :=
  let v := setBit (setBit v 31 false) 30 true
  .next (s.hostWrite d Reg.updArm v (fun s => s.armWrite v))

/-- UPD_PRELOAD_TIMEOUT (R664): 200 ms pass in PRELOAD. -/
def execUpdPreloadTimeout (s : State) : Host.Outcome State Fault Refusal :=
  if s.actState = 1 then
    let b := s.otherStw
    let s := s.elapse (s.upd.actAt + 400000000)
    let s := (s.actNone 6).opCode 13
    .next (s.stwRestart b s.confirmed)
  else .next s

/-- RENDEZVOUS (R665): the action of a compare unit with ACTION 6. -/
def execRendezvous (s : State) : Host.Outcome State Fault Refusal :=
  match s.takeAct 6 with
  | none => .next s
  | some (s, x) =>
    match s.activeStw with
    | none => .next (s.notDone x.unit)
    | some a =>
      if x.arg = s.fld Reg.updAct 15 0 ∧ s.actState = 2 ∧ s.flag Reg.stwRole 9 ∧ s.busyStw = false then
        let bank := s.fld Reg.updAct 16 16
        let s := (s.wr64 Reg.updRdvLo x.target).setF Reg.updAct 30 28 3
        let s := ((s.updUpd (fun u => { u with actAt := s.time.up })).raise Pg.upd 0x4).incFSat Reg.updCounts 15 0
        .next (((s.endSession 4).doSwap a).stwRestart a bank)
      else .next (s.notDone x.unit)

/-- UPD_CONFIRM (R667): a write of UPD.CONFIRM with GO = 1. -/
def execUpdConfirm (d : Dom) (v : Word) (s : State) : Host.Outcome State Fault Refusal :=
  let v := setBit v 0 true
  .next (s.hostWrite d Reg.updConfirm v (fun s => s.confirmWrite v))

/-- UPD_TRIAL_TIMEOUT (R664): TRIAL_S seconds since the activation. -/
def execUpdTrialTimeout (s : State) : Host.Outcome State Fault Refusal :=
  if s.actState = 3 then
    .next ((s.elapse (s.upd.actAt + s.fld Reg.updTrialS 15 0 * 2000000000)).actFallback 2)
  else .next s

/-- UPD_FALLBACK_STEP (R666): the standby is restarted on the confirmed bank, the roles are swapped, and the other steward
is restarted. -/
def execUpdFallbackStep (s : State) : Host.Outcome State Fault Refusal :=
  if s.actState = 4 then
    let c := s.confirmed
    match s.activeStw with
    | none => .next s
    | some a =>
      if s.stwState (1 - a) ≠ 2 then .next s
      else if s.runBank (1 - a) ≠ c then .next (s.stwRestart (1 - a) c)
      else if s.runBank a ≠ c ∧ s.flag Reg.stwRole 9 ∧ s.busyStw = false then .next ((s.doSwap a).stwRestart a c)
      else .next s.fallbackDone
  else .next s

/-- KEY_FUSE (R657): a write of UPD.KEY_FUSE. -/
def execKeyFuse (d : Dom) (v : Word) (s : State) : Host.Outcome State Fault Refusal :=
  .next (s.hostWrite d Reg.updKeyFuse v (fun s => s.keyFuseWrite v))

/-- A key burn ends; what a failed burn leaves in the slot is free (R657). -/
def State.keyDone (s : State) (ok : Bool) : State :=
  match s.upd.burn with
  | none => s
  | some (k, revoke, hash, at') =>
    let s := (s.elapse (at' + 20000000)).updUpd (fun u => { u with burn := none })
    let bit := if revoke then 4 + k else k
    let f := s.fresh
    let s := if ok then (s.setFlag Reg.updKeys bit true).updUpd (fun u =>
          { u with keys := if revoke then u.keys else sset [] k hash u.keys })
      else
        let free := (List.range 32).map (fun i => Config.freeByte (f + 1 + i))
        let t := { s with fresh := f + 33 }.setFlag Reg.updKeys bit (decide (Config.freeNat f % 2 = 1))
        t.updUpd (fun u => { u with keys := if revoke then u.keys else sset [] k free u.keys })
    let s := s.wr Reg.updOpres (word ((if ok then 0 else 7) * 2 ^ 24))
    (s.showBanks).raise Pg.upd 0x1

/-- KEY_FUSE_DONE (R657): the burn ends after 10 ms. -/
def execKeyFuseDone (ok : Bool) (s : State) : Host.Outcome State Fault Refusal := .next (s.keyDone ok)

end Sys2Proof.Machine
end

