-- ==== Sys2Proof/Machine/Read.lean ====
section
/-!
DEFINITION. Register reads: the common header, computed registers, the HI latches and reads of stopped islands (R21, R23,
R41, R84 to R93, R718).
-/
namespace Sys2Proof.Machine

/-- The LO halves of the 64-bit registers of a block type, the HI half lying 4 bytes on: offset, number and stride. -/
def loRegs (t : Nat) : List (Nat × Nat × Nat) :=
  match t with
  | 0x0 => [(0x44, 1, 0x1000)]  -- SYS
  | 0x3 => [(0x204, 2, 0x200)]  -- IRQ
  | 0x4 => [(0x44, 1, 0x1000), (0x50, 1, 0x1000), (0x60, 1, 0x1000)]  -- MODE
  | 0x5 => [(0x50, 1, 0x1000)]  -- CLK
  | 0x6 => [(0x40, 24, 0x40), (0x5C, 24, 0x40), (0x818, 1, 0x1000), (0x820, 1, 0x1000), (0x828, 1, 0x1000), (0x830, 1, 0x1000)]  -- TIME, without the snapshot blocks (R21, R191)
  | 0x10 => [(0x78, 1, 0x1000)]  -- TILE
  | 0x7 => [(0x4C, 4, 0x40), (0x54, 4, 0x40)]  -- TIU
  | 0x30 => [(0x204, 1, 0x1000)]  -- TRIG
  | 0x32 => [(0x54, 1, 0x1000)]  -- TPATH
  | 0x33 => [(0x54, 1, 0x1000), (0x78, 1, 0x1000)]  -- TBUS
  | 0x42 => [(0x58, 1, 0x1000), (0x104, 4, 0x20), (0x10C, 4, 0x20), (0x114, 4, 0x20), (0x200, 1, 0x1000), (0x208, 1, 0x1000)]  -- TAIL
  | 0x61 => [(0x44, 1, 0x1000)]  -- QUE
  | 0x62 => [(0x4C, 64, 0x30), (0x54, 64, 0x30)]  -- QDEV
  | 0x63 => [(0x4C, 16, 0x40)]  -- QCMD
  | 0x92 => [(0x44, 1, 0x1000), (0x4C, 1, 0x1000), (0x68, 1, 0x1000), (0x70, 1, 0x1000)]  -- SCRUB
  | 0xA0 => [(0x81C, 1, 0x1000)]  -- SLOW
  | 0xA => [(0x88, 1, 0x1000)]  -- STW
  | 0xB => [(0x800, 16, 0x8)]  -- IDM
  | 0x9 => [(0x78, 1, 0x1000)]  -- UPD
  | 0x8 => [(0x48, 1, 0x1000), (0x64, 1, 0x1000)]  -- AGE
  | _ => []

/-- A register is the LO half of a 64-bit value (R21). -/
def isLo (addr : Nat) : Bool :=
  let o := addr % 0x1000
  match pageType (addr / 0x1000) with
  | none => false
  | some t => (loRegs t).any (fun e =>
      decide (e.1 ≤ o) && decide ((o - e.1) % e.2.2 = 0) && decide ((o - e.1) / e.2.2 < e.2.1))

/-- PAGE_OWNER of a page (R97, R98). -/
def State.ownerWord (s : State) (p : Nat) : Word :=
  match s.owner p with
  | .fixed => word (packFields [(4, 1), (2, 0), (2, 2), (4, 0)])
  | .free => word (packFields [(4, 1), (2, 0), (2, 0), (4, 0)])
  | .held d => word (packFields [(4, Nat.lor 1 (2 ^ domIdx d)), (2, 0), (2, 1), (4, domIdx d)])

/-- PAGE_STAT of a page (R89). -/
def State.pageStat (s : State) (p : Nat) : Word :=
  let i := (pageInfo p).island
  let reset := s.srst p || s.fab.inReset.getLsbD i
  word (packFields [(5, i), (13, 0), (1, (s.locked p).toNat), (1, reset.toNat), (1, (s.islandLive i).toNat)])

/-- PAGE_CHECK of a page that no chapter gives a wider coverage (R718). -/
def State.pageCheck (s : State) (p : Nat) : Word :=
  crc32c ((List.range 1008).flatMap (fun j =>
    let k := p * 0x1000 + 0x40 + 4 * j
    match regRow? k with
    | none => []
    | some r =>
      let m := word r.rw ||| word r.rwl ||| word r.rws
      if m = 0 then []
      else
        let n := p - 0x51
        let w := if 0x51 ≤ p ∧ p < 0x5D ∧ k = Reg.eclMemData n then (s.memDataRead n).2 else s.rd k
        wordBytes (w &&& m)))

/-- Interrupt source `n` is asserted (R93, R111). -/
def State.srcOn (s : State) (n : Nat) : Bool :=
  decide (n < 0xB2) && s.pageExists n && (pageInfo n).hasIrq && (s.rd (Reg.intStat n) &&& s.rd (Reg.intEn n) != 0)

/-- Vector `v` of port `p` is active: an enabled source routed to it is asserted, or the port has taken a queue's pulse for
it (R113, R453). -/
def State.vecActive (s : State) (p v : Nat) : Bool :=
  (List.range 0xB2).any (fun n => decide (s.routeOf p n = some v) && s.srcOn n) ||
  s.fab.pulses.any (fun e => decide (e.1 = p) && decide (s.routeOf p (0xC0 + e.2) = some v))

/-- CLK.STATUS. While REF is not qualified, REF may have appeared on its pin without a command of the table that says so:
REF_OK and QUALIFYING are then one free bit (R174). -/
def State.clkStatusWord (s : State) : Word :=
  if s.flag Reg.clkStatus 0 then s.rd Reg.clkStatus
  else
    let q := (Config.freeNat s.fresh) % 2
    setFld (setFld (s.rd Reg.clkStatus) 7 7 q) 0 0 q

/-- UPD.OPRES. While an operation runs, PROGRESS counts the bytes done; how far it has come is a free value (R662). -/
def State.opresWord (s : State) : Word :=
  match s.upd.op with
  | none => s.rd Reg.updOpres
  | some o => setFld (s.rd Reg.updOpres) 20 0 (Config.freeNat s.fresh % (opTotal o + 1))

/-- The value of a register now, as domain `d` sees it (R84 to R89, R99, R719). Until the stewards are released they are OFFLINE
and PHASE is 0 (R639, R643); the AGE page shows how far the campaign has come by now (R709). -/
def State.live (s : State) (d addr : Nat) : Word :=
  let p := addr / 0x1000
  let s : State := if p = Pg.age then s.agePoll else s
  let o := addr % 0x1000
  let i := pageInfo p
  if s.pageExists p = false then 0
  else if p < 0x100 ∧ o < 0x40 then
    match o with
    | 0x00 => word (2 ^ 31 + i.type * 2 ^ 16 + i.inst)
    | 0x04 => 0x00010000
    | 0x08 => word (packFields [(8, 0), (8, i.instCount), (8, i.instStride), (5, 0), (1, i.claimable.toNat),
        (1, i.lockable.toNat), (1, i.hasIrq.toNat)])
    | 0x0C => s.ownerWord p
    | 0x14 => s.pageStat p
    | 0x20 => 0
    | 0x28 => if 0x10 ≤ p ∧ p < 0x20 then s.tileCheck (p - 0x10) else s.pageCheck p
    | _ => s.rd addr
  else if addr = Reg.sysId then
    match s.variant with
    | .t => 0x20480110
    | .s => 0x20490111
  else if addr = Reg.sysIslandStopped then sget 0 d s.fab.stoppedSeen
  else if addr = Reg.sysIslandLive then
    word ((List.range 28).foldl (fun a n => if s.islandLive n then a + 2 ^ n else a) 0)
  else if addr = Reg.ownResult then sget (resetOf Reg.ownResult) d s.fab.result
  else if Reg.irqSrcStat 0 ≤ addr ∧ addr ≤ Reg.irqSrcStat 7 then
    let k := (addr - Reg.irqSrcStat 0) / 4
    word ((List.range 32).foldl (fun a j => if s.srcOn (32 * k + j) then a + 2 ^ j else a) 0)
  else if addr = Reg.updSres then sget (resetOf Reg.updSres) d s.fab.sres
  else if addr = Reg.updSstat then
    let idle := if s.flag Reg.updSstat 31 && !s.flag Reg.updOpres 31 then (s.time.up - s.upd.ownerAt) / 2000000000 else 0
    setFld (s.rd addr) 15 0 (Nat.min idle 65535)
  else if addr = Reg.updOpres then s.opresWord
  else if addr = Reg.clkStatus then s.clkStatusWord
  else if Reg.slowStatus 0 ≤ addr ∧ addr ≤ Reg.slowStatus 31 ∧ (addr - Reg.slowStatus 0) % 0x20 = 0 then
    setFld (s.rd addr) 1 1 (s.slowSettling ((addr - Reg.slowStatus 0) / 0x20)).toNat
  else if addr = Reg.stwRole ∧ s.time.up < s.upd.releaseAt then setFld (setFld (s.rd addr) 2 0 0) 6 4 0
  else if addr = Reg.cfgStatus ∧ s.time.up < s.upd.releaseAt then setFld (s.rd addr) 18 16 0
  else if addr = Reg.stwAluKa then Config.aluKa
  else if addr = Reg.stwDiagA then (s.stwLeak 0 false 0).rd addr
  else if addr = Reg.stwDiagB then (s.stwLeak 1 false 0).rd addr
  else s.rd addr

/-- What a read does to the register read: CAP_HI clears FULL (R188), RES_HI removes the head result (R268), MEM_DATA
counts on (R421). A read of CLK.STATUS or UPD.OPRES draws its free value. -/
def State.readEffect (s : State) (addr : Nat) : State :=
  let p := addr / 0x1000
  let o := addr % 0x1000
  if p = Pg.time ∧ 0x40 ≤ o ∧ o < 0x640 ∧ (o - 0x40) % 0x40 = 0x20 then
    s.setFlag (Reg.timeCapStat ((o - 0x40) / 0x40)) 31 false
  else if p = Pg.tiu ∧ 0x40 ≤ o ∧ o < 0x140 ∧ (o - 0x40) % 0x40 = 0x10 then s.tiuPop ((o - 0x40) / 0x40)
  else if 0x51 ≤ p ∧ p < 0x5D ∧ addr = Reg.eclMemData (p - 0x51) then (s.memDataRead (p - 0x51)).1
  else if addr = Reg.clkStatus ∨ addr = Reg.updOpres then s.draw
  else s

/-- A read that reaches the register: its value, by way of the requester's HI latch (R21). -/
def State.readNow (s : State) (r : Requester) (addr : Nat) : State × Word :=
  let d := s.reqDom r
  let n := reqIdx r
  let v := if 0x51 ≤ addr / 0x1000 ∧ addr / 0x1000 < 0x5D ∧ addr = Reg.eclMemData (addr / 0x1000 - 0x51) then
      (s.memDataRead (addr / 0x1000 - 0x51)).2
    else s.live d addr
  let s' := s.readEffect addr
  if isLo addr then
    ({ s' with fab := { s'.fab with latch := sins n (addr + 4, s.live d (addr + 4)) s'.fab.latch } }, v)
  else
    match s.fab.latch.find? (fun e => decide (e.1 = n)) with
    | some (_, k, w) => if k = addr then (s', w) else (s', v)
    | none => (s', v)

/-- The requester can send an access now: a port whose function answers (R75), a steward that runs. -/
def State.asks (s : State) (r : Requester) : Bool :=
  match r with
  | .port p => s.portAnswers p
  | .steward b => s.stwRuns b
  | _ => true

/-- The port through which a requester accesses the MSI-X pages (R83). -/
def State.reqPort (s : State) (r : Requester) : Option Nat :=
  match r with
  | .port p => some p.val
  | .queue q => some (s.flag (Reg.qcmdCtl q.val) 4).toNat
  | _ => none

/-- A port's own state. -/
def State.port (s : State) (p : Nat) : Port := if p = 0 then s.fab.port0 else s.fab.port1

/-- The state with a port's own state changed by `f`. -/
def State.updPort (s : State) (p : Nat) (f : Port → Port) : State :=
  { s with fab := if p = 0 then { s.fab with port0 := f s.fab.port0 } else { s.fab with port1 := f s.fab.port1 } }

/-- A word of the MSI-X table after reset: a masked vector's control word reads 1. -/
def msixReset (o : Nat) : Word := if o % 16 = 12 then 1 else 0

/-- A word of the MSI-X table or pending-bit array of a port (R83, R115). -/
def State.msixWord (s : State) (p page o : Nat) : Word :=
  let q := s.port p
  if page = 0xFFE then (if o < 0x400 then sget (msixReset o) o q.table else 0)
  else if o = 0 ∨ o = 4 then
    word (q.pba.toNat / 2 ^ (8 * o))
  else 0

/-- The island whose stop or reset keeps a read at `addr` from its register: the one that holds the register, else CTRL, the
register fabric; during a warm reset all are in reset (R96); the MSI-X pages lie in the port itself (R23, R41, R83, R89). -/
def State.deadIsland (s : State) (addr : Nat) : Option Nat :=
  let mine := s.pageExists (addr / 0x1000) && !ctrlHeld addr
  if s.inWarm && decide (addr / 0x1000 < 0xFFE) then some (if mine then islandOf addr else 26)
  else if mine && !s.islandLive (islandOf addr) then some (islandOf addr)
  else if s.islandLive 26 || decide (0xFFE ≤ addr / 0x1000) then none
  else some 26

/-- The reader's copy of ISLAND_STOPPED records island `i` (R23). -/
def State.markStopped (s : State) (r : Requester) (i : Nat) : State :=
  let d := s.reqDom r
  { s with fab := { s.fab with stoppedSeen := sset 0 d (sget 0 d s.fab.stoppedSeen ||| word (2 ^ i)) s.fab.stoppedSeen } }

/-- An earlier write of port `p` waits among held accesses; a command queue's writes are no port's (R90, R458). -/
def portWaits (p : Fin 2) (hs : List HeldWrite) : Bool :=
  (heldWrites hs).any (fun h => h.who.isNone && decide (h.dom = domOf (1 + p.val)))

/-- A read of a port waits for the earlier writes of that port that are still held: it joins the list that holds one, of an
island or of a page, or waits for a tile's full command queue (R90, R298). -/
def State.waitFor (s : State) (r : Requester) (h : HeldWrite) : Option State :=
  match r with
  | .port p =>
    match s.fab.held.find? (fun e => portWaits p e.2) with
    | some e => some (s.holdFor e.1 h)
    | none =>
      match s.fab.srstHeld.find? (fun e => portWaits p e.2) with
      | some e => some (s.holdSrst e.1 h)
      | none =>
        if s.det.tiles.any (fun t => portWaits p t.2.cbusHeld) then
          some { s with fab := { s.fab with portWait := s.fab.portWait ++ [h] } }
        else none
  | _ => none

/-- A read from requester `r`: its value, none where the read waits for a page reset (R94) or for earlier writes of its port
(R90). A read of an island that is stopped or in reset gives 0xFFFF_FFFF and marks the reader's copy of ISLAND_STOPPED
(R23, R41): it does not wait (DESIGN CHOICE, log 64). -/
def State.busRead (s : State) (r : Requester) (addr : Nat) : State × Option Word :=
  let p := addr / 0x1000
  let h : HeldWrite := { dom := domOf (s.reqDom r), addr := addr, val := 0, reader := some r }
  match s.deadIsland addr, s.waitFor r h with
  | some i, _ => (s.markStopped r i, some 0xFFFFFFFF)
  | none, some s' => (s', none)
  | none, none =>
  if p = 0xFFE ∨ p = 0xFFF then
    (s, some (match s.reqPort r with
      | some q => s.msixWord q p (addr % 0x1000)
      | none => 0))
  else if s.pageExists p = false then (s, some 0)
  else if ctrlHeld addr then (s, some (s.live (s.reqDom r) addr))
  else if s.srst (ownPage p) then (s.holdSrst (ownPage p) h, none)
  else
    let x := s.readNow r addr
    (x.1, some x.2)

/-- A read whose data return to its requester. -/
def State.hostRead (s : State) (r : Requester) (addr : Nat) : State :=
  if s.asks r then
    match s.busRead r addr with
    | (s, some v) => s.emit (.readData r addr v)
    | (s, none) => s
  else s

/-- The domain of a requester's writes (R97). -/
def State.reqDomain (s : State) (r : Requester) : Dom := domOf (s.reqDom r)

/-- READ_LO_LATCH_HI (R21): a register read. -/
def execReadLoLatchHi (r : Requester) (addr : Nat) (s : State) : Host.Outcome State Fault Refusal :=
  .next (s.hostRead r addr)

/-- STOPPED_ISLAND_READ (R23, R41): a register read that finds its island stopped or in reset, and otherwise an ordinary
one. -/
def execStoppedIslandRead (r : Requester) (addr : Nat) (s : State) : Host.Outcome State Fault Refusal :=
  .next (s.hostRead r addr)

/-- CAP_HI_READ (R188). -/
def execCapHiRead (r : Requester) (i : Fin 24) (s : State) : Host.Outcome State Fault Refusal :=
  .next (s.hostRead r (Reg.timeCapHi i))

/-- TIU_RES_HI_READ (R268). -/
def execTiuResHiRead (r : Requester) (u : Fin 4) (s : State) : Host.Outcome State Fault Refusal :=
  .next (s.hostRead r (Reg.tiuResHi u))

end Sys2Proof.Machine
end

