-- ==== Sys2Proof/Machine/Frame.lean ====
section
/-!
DEFINITION. Health and telemetry frames of the stewards, and the start of a frame (R8, R226, R622 to R626, R714).
-/
namespace Sys2Proof.Machine

/-- A frame of a steward goes to every place that HCFG enables (R622). -/
def State.stwSend (s : State) (bs : List Byte) : State :=
  let s := if s.flag Reg.stwHcfg 24 then s.ccSend 1 bs else s
  let put := fun (s : State) (q : Nat) =>
    { s with que := { s.que with packets := s.que.packets ++ [{ queue := q, src := 4, payload := bs }] } }
  let s := if s.flag Reg.stwHcfg 25 then put s (s.fld Reg.stwHq 5 0) else s
  if s.flag Reg.stwHcfg 26 then put s (s.fld Reg.stwHq 13 8) else s

/-- The first 16 bytes of a frame's content (R626). -/
def State.stwHead (s : State) (b kind seq : Nat) : List Byte :=
  let active := decide (s.activeStw = some b)
  leBytes 1 kind ++ leBytes 1 (active.toNat * 2 + b) ++ leBytes 2 0 ++ leBytes 4 seq ++ leBytes 8 s.now

/-- The content of a health frame (R626): a steward that runs has passed its checks. -/
def State.healthBytes (s : State) (b seq : Nat) : List Byte :=
  let s := s.stwLeak b false 0
  s.stwHead b 1 seq ++ leBytes 4 (s.nat Reg.sysStatus) ++ leBytes 1 (s.nat Reg.modeCurrent) ++
    leBytes 1 (s.fld Reg.modeCause 3 0) ++ leBytes 1 (15 + (s.flag Reg.stwRole 9).toNat * 16) ++
    leBytes 1 (s.stwState (1 - b)) ++ leBytes 4 (s.nat Reg.stwTakeovers) ++ leBytes 4 (s.nat Reg.modeFatalCount) ++
    leBytes 2 (s.fld Reg.guardTempMax 15 0) ++ leBytes 2 (s.fld (diagReg b) 31 16) ++ leBytes 4 0

/-- The entries of a telemetry frame from index `i` on (R626). -/
def State.telemEntries (s : State) (b : Nat) : List Nat → State × List Byte
  | [] => (s, [])
  | i :: r =>
    let k := Reg.stwTelList i
    if s.flag k 31 then
      let page := s.fld k 27 16
      let off := s.fld k 11 0 / 4 * 4
      let (s, v) := match s.busRead (.steward (Fin.ofNat 2 b)) (page * 0x1000 + off) with
        | (s, some v) => (s, v)
        | (s, none) => (s.draw, word (Config.freeNat s.fresh))
      let (s, rest) := s.telemEntries b r
      (s, leBytes 2 page ++ leBytes 2 off ++ leBytes 4 v.toNat ++ rest)
    else s.telemEntries b r

/-- A health period starts with frame `f`: a steward that sent no frame in the period before fails its SEQ check (R609,
R623, R624). -/
def State.stwPeriod (s : State) (f : Nat) : State :=
  let h := s.fld Reg.stwHcfg 15 0
  if h = 0 ∨ f % h ≠ 0 then s
  else
    let n := f / h
    let last := (n + 2 ^ 32 - 1) % 2 ^ 32
    let on := (List.range 2).filter (fun b => decide (s.stwState b = 2) || decide (s.stwState b = 3))
    let late := on.filter (fun b => (s.steward b).health.any (fun m => decide (m ≠ last)))
    let s := on.foldl (fun s b => s.updSteward b (fun w => { w with health := some (w.health.getD last) })) s
    s.diagFails (late.map (fun b => (b, 3)))

/-- Frame `f` starts (R8, R226, R714, R185): a WTIME load due in its clock period, votes, a mode change that is due, then the
work of every frame start. -/
def State.frameStart (s : State) (f : Nat) (hub : List (Nat × Bool)) (tiles : List (Fin 16 × Nat × Bool)) : State :=
  let s := (s.loadBy (s.edgeAt (f * 65536))).advanceTo (f * 65536)
  let s := { s with time := { s.time with frame := f, frameNext := f + 1 } }
  let s := hub.foldl (fun s v => s.hubVote v.1 v.2) s
  let s := if tiles.any (fun v => v.2.2) then s.fatalStart 6 else s
  let s := if s.modeDue f then s.modeApply f else s
  let s := (List.range 16).foldl (fun s t =>
    s.tileFrameStart t f ((tiles.filter (fun v => decide (v.1.val = t))).foldl (fun n v => n + v.2.1) 0)) s
  (((((s.allowFrame).dealFrameStart f).groupsTold f).agePresets f).agePoll.stwPeriod f).tailDrain

/-- Steward `b` sends the health frame with SEQ `n`, which the SEQ check judges (R609, R622 to R626). -/
def State.healthSend (s : State) (b n : Nat) : State :=
  let bad := (s.steward b).health.any (fun m => decide (n ≠ (m + 1) % 2 ^ 32))
  let s := (s.stwSend (s.healthBytes b n)).updSteward b (fun w => { w with health := some n })
  if bad then s.diagFail b 3 else s

/-- HEALTH_FRAME (R609, R622 to R626): steward `b` sends the frame of the period whose first frame runs, once, with SEQ the number
of the period (R623); or a faulty steward sends SEQ `seq`. -/
def execHealthFrame (b : Fin 2) (seq : Option Word) (s : State) : Host.Outcome State Fault Refusal :=
  if s.stwRuns b then
    let h := s.fld Reg.stwHcfg 15 0
    let n := s.time.frame / h % 2 ^ 32
    match seq with
    | some w => .next (s.healthSend b w.toNat)
    | none => .next (if h ≠ 0 ∧ s.time.frame % h = 0 ∧ (s.steward b).health ≠ some n then s.healthSend b n else s)
  else .next s

/-- TELEMETRY_FRAME (R622, R623, R626): in the first frame of a telemetry period, once. -/
def execTelemetryFrame (b : Fin 2) (s : State) : Host.Outcome State Fault Refusal :=
  let per := s.fld Reg.stwHcfg 15 0 * s.fld Reg.stwHcfg 23 16
  let n := s.time.frame / per
  if s.stwRuns b && decide (per ≠ 0) && decide (s.time.frame % per = 0) && decide ((s.steward b).telem ≠ some n) then
    let head := s.stwHead b 2 (n % 2 ^ 32)
    let (s, es) := s.telemEntries b (List.range 256)
    .next ((s.stwSend (head ++ es)).updSteward b (fun w => { w with telem := some n }))
  else .next s

/-- The frame at whose start the pending request takes effect. -/
def State.changeFrame (s : State) : Nat := Nat.max (s.rd64 Reg.modePendFrameLo) s.time.frameNext

/-- A pending request whose frame starts at tick `e` or before takes effect before anything else at that tick (R145, R185). -/
def State.changeBy (s : State) (e : Nat) : State :=
  let f := s.changeFrame
  if s.modeDue f ∧ f * 65536 ≤ e then s.frameStart f [] [] else s

/-- MODE_CHANGE (R127): the start of the pending request's frame. -/
def execModeChange (s : State) : Host.Outcome State Fault Refusal :=
  if s.modeDue s.changeFrame then .next (s.frameStart s.changeFrame [] []) else .next s

/-- MODE_REQ (R145, R726). -/
def execModeReq (d : Dom) (v : Word) (s : State) : Host.Outcome State Fault Refusal :=
  .next (s.hostWrite d Reg.modeReq v (fun s => (s.changeBy s.now).modeReq d v))

/-- MODE_CANCEL (R133, R145). -/
def execModeCancel (d : Dom) (v : Word) (s : State) : Host.Outcome State Fault Refusal :=
  .next (s.hostWrite d Reg.modeCancel v (fun s => (s.changeBy s.now).modeCancel))

/-- What precedes a compare at its edge `e` in that clock period: a WTIME load, then a mode change (R185). -/
def State.beforeCompares (s : State) (e : Nat) : State :=
  (s.loadBy e).changeBy e

/-- COMPARE_FIRE (R178, R185): the edge at which compare `i` finds its base at or past the target. What is due at that edge before
it takes effect first: a WTIME load, a mode change, and compares of lower number. -/
def execCompareFire (i : Fin 24) (s : State) : Host.Outcome State Fault Refusal :=
  if s.flag (Reg.timeCmpCtl i) 0 && s.time.running then
    let s := s.beforeCompares (s.cmpEdge i)
    let e := s.cmpEdge i
    let low := (List.range i.val).filter (fun j => s.flag (Reg.timeCmpCtl j) 0 && decide (s.cmpEdge j = e))
    .next ((low.foldl (fun s j => s.cmpAt e j) s).cmpAt e i)
  else .next s

/-- FRAME_START (R8). -/
def execFrameStart (hubVotes : List (Nat × Bool)) (tileVotes : List (Fin 16 × Nat × Bool)) (s : State) :
    Host.Outcome State Fault Refusal :=
  if s.time.running then .next (s.frameStart s.time.frameNext hubVotes tileVotes) else .next s

end Sys2Proof.Machine
end

