-- ==== Sys2Proof/Machine/Own.lean ====
section
/-!
DEFINITION. Ownership of pages, and the ports with their MSI-X interrupts (R72 to R78, R97 to R116, R721, R733).
-/
namespace Sys2Proof.Machine

/-- Domain `d`'s copy of OWN.RESULT: DONE, CODE and FIRST_BAD (R105). -/
def State.setOwnResult (s : State) (d : Dom) (code bad : Nat) : State :=
  let w := word (2 ^ 31 + code * 2 ^ 28 + bad)
  { s with fab := { s.fab with result := sset (resetOf Reg.ownResult) (domIdx d) w s.fab.result } }

/-- Why page `p` fails a claim by domain `d` (R733): 2 FIXED, 5 DOMAIN, 1 BUSY, 0 it does not. -/
def State.claimFault (s : State) (d : Dom) (p : Nat) : Nat :=
  match s.owner p with
  | .fixed => 2
  | o =>
    if (p = Pg.pcie 0 ∧ d ≠ .pcie0) ∨ (p = Pg.pcie 1 ∧ d ≠ .pcie1) then 5
    else if o = .free ∨ o = .held d then 0
    else 1

/-- Why page `p` fails a release by domain `d`: 4 NOT_HELD, 0 it does not. -/
def State.releaseFault (s : State) (d : Dom) (p : Nat) : Nat := if s.owner p = .held d then 0 else 4

/-- The pages of a claim or release that it judges: CHAN pages are passed over (R102, R103). -/
def ownRange (v : Word) : List Nat :=
  ((List.range (wfld v 24 12)).map (fun i => wfld v 11 0 + i)).filter (fun p => decide (p < 0x100) || decide (0x110 ≤ p))

/-- Judges a claim or release in the order of R733: CODE and FIRST_BAD. -/
def State.ownJudge (s : State) (d : Dom) (v : Word) (fault : Nat → Nat) : Nat × Nat :=
  if (s.rd Reg.ownPolicy).getLsbD (4 + domIdx d) = false then (5, 0)
  else if wfld v 24 12 = 0 then (3, wfld v 11 0)
  else
    match (ownRange v).find? (fun p => !s.pageExists p) with
    | some p => (3, p)
    | none =>
      match (ownRange v).find? (fun p => decide (fault p ≠ 0)) with
      | some p => (fault p, p)
      | none => (0, 0)

/-- Effect of a write of OWN.CLAIM (R102). -/
def State.claimWrite (s : State) (d : Dom) (v : Word) : State :=
  let r := s.ownJudge d v (s.claimFault d)
  let s := if r.1 = 0 then (ownRange v).foldl (fun s p => s.setOwner p (.held d)) s else s
  s.setOwnResult d r.1 r.2

/-- Effect of a write of OWN.RELEASE (R103). -/
def State.releaseWrite (s : State) (d : Dom) (v : Word) : State :=
  let r := s.ownJudge d v (s.releaseFault d)
  let s := if r.1 = 0 then (ownRange v).foldl (fun s p => s.setOwner p .free) s else s
  s.setOwnResult d r.1 r.2

/-- Every page HELD by domain `d` returns to FREE; counted when there is one (R108, R109). -/
def State.revoke (s : State) (d : Dom) : State :=
  let ps := s.fab.own.filter (fun e => decide (e.2 = .held d))
  if ps = [] then s
  else (ps.foldl (fun s e => s.setOwner e.1 .free) s).incSat Reg.ownRevokeCount

/-- Effect of a write of OWN.REVOKE with its KEY (R109). -/
def State.revokeWrite (s : State) (v : Word) : State :=
  if wfld v 1 0 = 0 then s.refuse Pg.own else s.revoke (domOf (wfld v 1 0))

/-- The vector control word masks vector `v` of a port, or the function mask does (R115). -/
def Port.maskedVec (q : Port) (v : Nat) : Bool := q.funcMask || (sget (msixReset (16 * v + 12)) (16 * v + 12) q.table).getLsbD 0

/-- The pending bits of vectors that are no longer active are cleared, as PCI Express defines it (R115). -/
def State.pbaSettle (s : State) : State :=
  let keep := fun (p : Nat) (m : BitVec 64) =>
    if m = 0 then m
    else (List.range 64).foldl (fun m v => if s.vecActive p v then m else m &&& ~~~(BitVec.ofNat 64 (2 ^ v))) m
  if s.fab.port0.pba = 0 ∧ s.fab.port1.pba = 0 then s
  else
    { s with fab := { s.fab with
      port0 := { s.fab.port0 with pba := keep 0 s.fab.port0.pba }, port1 := { s.fab.port1 with pba := keep 1 s.fab.port1.pba } } }

/-- Vector `v` of port `p` is judged: when it is active and not in service its message is sent, or held back by a mask
(R113, R115, R721), and nothing leaves while CTRL or the port has no clock (R40). A vector whose message a mask holds back is not in
service meanwhile: INSVC is set when the message is sent on unmask, on which R115 is silent (DESIGN CHOICE, log 69). -/
def State.msixJudge (s : State) (p v : Nat) : State :=
  let s := s.pbaSettle
  let q := s.port p
  let tab := fun (o : Nat) => sget (msixReset (16 * v + o)) (16 * v + o) q.table
  let still := s.fab.stopped.getLsbD 26 || s.fab.stopped.getLsbD (22 + p)
  if !s.portAnswers p || !q.msixEn || s.inService p v || !s.vecActive p v || still then s
  else if q.maskedVec v then s.updPort p (fun q => { q with pba := q.pba ||| BitVec.ofNat 64 (2 ^ v) })
  else
    let s := s.setFlag (if v < 32 then Reg.irqInsvcLo p else Reg.irqInsvcHi p) (v % 32) true
    let s := s.inc (Reg.irqMsgcount p)
    let rest := s.fab.pulses.filter (fun e => !(decide (e.1 = p) && decide (s.routeOf p (0xC0 + e.2) = some v)))
    let s := { s with fab := { s.fab with pulses := rest } }
    let s := s.updPort p (fun q => { q with pba := q.pba &&& ~~~(BitVec.ofNat 64 (2 ^ v)) })
    let port : Fin 2 := if p = 0 then 0 else 1
    s.emit (.msix port v ((tab 0).toNat + (tab 4).toNat * 2 ^ 32) (tab 8))

/-- Every vector of port `p` is judged again (R721). -/
def State.msixAll (s : State) (p : Nat) : State := (List.range 64).foldl (fun s v => s.msixJudge p v) s

/-- Effect of a write of IRQ.EOIp (R114). It takes the vector out of service while MSI-X is disabled too: R115's in-service
state is the one that messages change (DESIGN CHOICE, log 69). -/
def State.eoiWrite (s : State) (p : Nat) (v : Word) : State :=
  let n := wfld v 5 0
  (s.setFlag (if n < 32 then Reg.irqInsvcLo p else Reg.irqInsvcHi p) (n % 32) false).msixJudge p n

/-- A write through port `p` at offset `o` of page 0xFFE, its MSI-X table: the vector control word holds the mask bit alone,
and a vector whose mask is cleared is judged (R83, R115). -/
def State.msixWrite (s : State) (p o : Nat) (w : Word) : State :=
  if 0x400 ≤ o then s
  else
    let w := if o % 16 = 12 then w &&& 1 else if o % 16 = 0 then w &&& 0xFFFFFFFC else w
    let s := s.updPort p (fun q => { q with table := sset (msixReset o) o w q.table })
    if o % 16 = 12 then s.msixJudge p (o / 16) else s

/-- The base address registers of a port's function from offset 0x10 on: the address with the type bits, 64-bit and, for BAR4,
prefetchable; the NRS-2048S has no BAR4 (R4, R77; the layout is PCI Express's, PRESUMED, log 65). -/
def State.barWord (s : State) (p i : Nat) : Word :=
  let c := (s.port p).cfg
  let half := fun (b size type : Nat) => if i % 2 = 0 then word (b / size * size + type) else word (b / size * size / 2 ^ 32)
  match i / 2 with
  | 0 => half c.bar0 (2 ^ 24) 4
  | 1 => half c.bar2 (2 ^ 26) 4
  | _ => if s.variant = .t then half c.bar4 (2 ^ 33) 12 else 0

/-- A capability word of a port's function (R73, R75, R115; the layout and the places are PCI Express's and the model's, PRESUMED,
log 65): power management at 0x40 with D0 and D3hot; MSI-X at 0x50 with 64 vectors, its table in page 0xFFE and its pending bits
in page 0xFFF of BAR0; PCI Express at 0x60 with payloads to 512 bytes, reads to 4,096, 16.0 GT/s, ×4, ASPM L1 without L0s and
Completion Timeout ranges A and B; AER at 0x100. -/
def State.capWord (s : State) (p o : Nat) : Word :=
  let q := s.port p
  let c := q.cfg
  let code := fun (n : Nat) => Nat.log2 (n / 128)
  match o with
  | 0x40 => word (0x00035001)
  | 0x44 => word (if q.d3 then 3 else 0)
  | 0x50 => word (packFields [(1, q.msixEn.toNat), (1, q.funcMask.toNat), (3, 0), (11, 63), (16, 0x6011)])
  | 0x54 => word 0xFFE000
  | 0x58 => word 0xFFF000
  | 0x60 => word 0x00020010
  | 0x64 => word 2
  | 0x68 => word (packFields [(3, code c.readRequest), (4, 0), (3, code c.payload), (5, 0)])
  | 0x6C => word (packFields [(2, 2), (6, 4), (4, 4)])
  | 0x70 => word (packFields [(6, s.fld (Reg.pcieLink p) 7 4), (4, s.fld (Reg.pcieLink p) 3 0), (14, 0), (1, c.aspmL1.toNat), (1, 0)])
  | 0x84 => word 3
  | 0x88 => word c.timeout
  | 0x8C => word 0x1E
  | 0x100 => word 0x00020001
  | _ => 0

/-- A word of the configuration space of a port's function (R1, R4, R73, R77; the layout is PCI Express's, PRESUMED,
log 65): Vendor and Device ID, Revision ID (SYS.ID.HUB_REV) and Class code, the base address registers, the Subsystem IDs
(the Subsystem ID from the configuration image), and the capabilities. -/
def State.configWord (s : State) (p o : Nat) : Word :=
  if o = 0 then word (0x1F9E + (if s.variant = .t then 0x2048 else 0x2049) * 2 ^ 16)
  else if o = 4 then word 0x00100000
  else if o = 8 then word (wfld (s.live 0 Reg.sysId) 15 8 + 0x1180 * 2 ^ 16)
  else if 0x10 ≤ o ∧ o < 0x28 then s.barWord p ((o - 0x10) / 4)
  else if o = 0x2C then word (0x1F9E + s.fld Reg.cfgFmt 31 16 * 2 ^ 16)
  else if o = 0x34 then word 0x40
  else s.capWord p o

/-- What the host writes into a word of the configuration space (R73, R77): a base address by its size; a payload of 128, 256 or
512 bytes, a read request to 4,096 and a Completion Timeout of ranges A and B, any other code changing nothing; ASPM L1. -/
def PcieCfg.write (c : PcieCfg) (o : Nat) (v : Word) : PcieCfg :=
  let half := fun (b size : Nat) (hi : Bool) =>
    (if hi then b % 2 ^ 32 + v.toNat * 2 ^ 32 else b / 2 ^ 32 * 2 ^ 32 + v.toNat) / size * size
  match o with
  | 0x10 => { c with bar0 := half c.bar0 (2 ^ 24) false }
  | 0x14 => { c with bar0 := half c.bar0 (2 ^ 24) true }
  | 0x18 => { c with bar2 := half c.bar2 (2 ^ 26) false }
  | 0x1C => { c with bar2 := half c.bar2 (2 ^ 26) true }
  | 0x20 => { c with bar4 := half c.bar4 (2 ^ 33) false }
  | 0x24 => { c with bar4 := half c.bar4 (2 ^ 33) true }
  | 0x68 => { c with
      payload := if wfld v 7 5 ≤ 2 then 128 * 2 ^ wfld v 7 5 else c.payload
      readRequest := if wfld v 14 12 ≤ 5 then 128 * 2 ^ wfld v 14 12 else c.readRequest }
  | 0x70 => { c with aspmL1 := v.getLsbD 1 }
  | 0x88 => { c with timeout := if wfld v 3 0 ∈ [0, 1, 2, 5, 6] then wfld v 3 0 else c.timeout }
  | _ => c

/-- A configuration write of the host to a port's function (R73, R75): the power state, MSI-X Enable and Function Mask have commands
of their own. -/
def State.configWrite (s : State) (p o : Nat) (v : Word) : State :=
  if (s.port p).linkUp && !s.fab.cfgRetry then s.updPort p (fun q => { q with cfg := q.cfg.write o v }) else s

/-- A hot reset, a link-down reset or PERST_N of a port: its configuration space and MSI-X table (R76). -/
def State.portReset (s : State) (p : Nat) : State :=
  s.updPort p (fun q => { linkUp := q.linkUp })

/-- The link of port `p` is down (R73, R108, R448): its domain's HELD pages are revoked where OWN.POLICY says so. -/
def State.portDown (s : State) (p : Nat) : State :=
  let s := ((s.updPort p (fun q => { q with linkUp := false })).wr (Reg.pcieLink p) 0).showLinkOff
  if s.flag Reg.ownPolicy 8 then s.revoke (if p = 0 then .pcie0 else .pcie1) else s

/-- CLAIM (R102): a write of OWN.CLAIM. -/
def execClaim (d : Dom) (v : Word) (s : State) : Host.Outcome State Fault Refusal :=
  .next (s.hostWrite d Reg.ownClaim v (fun s => s.claimWrite d v))

/-- RELEASE (R103): a write of OWN.RELEASE. -/
def execRelease (d : Dom) (v : Word) (s : State) : Host.Outcome State Fault Refusal :=
  .next (s.hostWrite d Reg.ownRelease v (fun s => s.releaseWrite d v))

/-- REVOKE (R109): a write of OWN.REVOKE. -/
def execRevoke (d : Dom) (v : Word) (s : State) : Host.Outcome State Fault Refusal :=
  .next (s.hostWrite d Reg.ownRevoke v (fun s => s.revokeWrite v))

/-- DOWNLINK_ABSENCE_REVOKE (R108): no downlink lane has been ALIGNED for 1 s. -/
def execDownlinkAbsenceRevoke (s : State) : Host.Outcome State Fault Refusal :=
  match s.lane.dlDown with
  | none => .next s
  | some u => .next ((s.elapse (u + 2000000000)).revoke .dl)

/-- MSIX_SEND (R113): vector `vec` of port `p` may have become active. -/
def execMsixSend (p : Fin 2) (vec : Fin 64) (s : State) : Host.Outcome State Fault Refusal := .next (s.msixJudge p vec)

/-- EOI (R114): a write of IRQ.EOIp. -/
def execEoi (d : Dom) (p : Fin 2) (v : Word) (s : State) : Host.Outcome State Fault Refusal :=
  .next (s.hostWrite d (Reg.irqEoi p) v (fun s => s.eoiWrite p v))

/-- MSIX_UNMASK (R115): the function's Enable and Function Mask, or a vector's mask bit, are written. What a mask no longer
holds back is sent; a pending vector whose function or vector stays masked keeps its bit. -/
def execMsixUnmask (p : Fin 2) (ch : MsixChange) (s : State) : Host.Outcome State Fault Refusal :=
  match ch with
  | .control en m =>
    if (s.port p).linkUp then .next ((s.updPort p (fun q => { q with msixEn := en, funcMask := m })).msixAll p) else .next s
  | .vector v m =>
    if s.portAnswers p then .next (s.msixWrite p (16 * v.val + 12) (if m then 1 else 0)) else .next s

/-- PCIE_LINK_DOWN (R73, R108, R448): the link of a port goes down. -/
def execPcieLinkDown (p : Fin 2) (s : State) : Host.Outcome State Fault Refusal :=
  .next (s.portDown p)

/-- PCIE_LINK_RETURN (R73, R448, R721): the link trains to L0 with a width of 4, 2 or 1 lanes at one of the four rates; a
link of any other width or rate does not train. -/
def execPcieLinkReturn (p : Fin 2) (width speed : Nat) (reversed : Bool) (s : State) : Host.Outcome State Fault Refusal :=
  if width ∉ [1, 2, 4] ∨ speed ∉ [1, 2, 3, 4] then .next s else
  let s := s.updPort p (fun q => { q with linkUp := true })
  let s := s.wr (Reg.pcieLink p) (word (packFields [(1, reversed.toNat), (1, 1), (4, width), (4, speed)]))
  .next (s.showLinkOff.msixAll p)

/-- PCIE_POWER_STATE (R75, R448, R721): the function enters D3hot, or returns to D0. -/
def execPciePowerState (p : Fin 2) (d3 : Bool) (s : State) : Host.Outcome State Fault Refusal :=
  .next ((s.updPort p (fun q => { q with d3 := d3 })).showLinkOff.msixAll p)

/-- BAR0_MALFORMED_ACCESS (R78): a BAR0 access that is not a single aligned 32-bit access with all byte enables set. -/
def execBar0MalformedAccess (p : Fin 2) (isWrite : Bool) (off : Nat) (s : State) : Host.Outcome State Fault Refusal :=
  .next (if s.portAnswers p then s.emit (.unsupported p isWrite off) else s)

/-- CONFIG_RETRY_TIMEOUT (R642): 1.0 s after PORST_N release the ports stop answering with Retry Status. -/
def execConfigRetryTimeout (s : State) : Host.Outcome State Fault Refusal :=
  .next { s with fab := { s.fab with cfgRetry := false } }

end Sys2Proof.Machine
end

