-- ==== Sys2Proof/Machine/Reset.lean ====
section
/-!
DEFINITION. The reset classes: page, island, warm and power-on reset, and the clocks of the islands (R37 to R43, R94 to R96,
R719).
-/
namespace Sys2Proof.Machine

/-- ULNK.INT_STAT.DL_DOWN is set while neither DRX lane is ALIGNED (R489). -/
def State.dlDownShow (s : State) : State :=
  if s.flag (Reg.drxStatus 0) 1 || s.flag (Reg.drxStatus 1) 1 then s else s.raise Pg.ulnk 0x1

/-- DRX lane `n` ceases to be ALIGNED; when none is left the downlink is down (R486). -/
def State.drxLost (s : State) (n : Nat) : State :=
  if s.flag (Reg.drxStatus n) 1 then
    let s := ((s.setFlag (Reg.drxStatus n) 1 false).raise (Pg.drx n) 0x2).setDegraded 21 true
    if s.flag (Reg.drxStatus (1 - n)) 1 then s
    else ((s.setFlag Reg.ulnkDlstat 31 false).raise Pg.ulnk 0x1).updLane (fun l => { l with dlDown := some s.time.up })
  else s

/-- The bits of the register at `k` that a page reset of its page leaves, beside RWS fields and locked RWL fields: what
stands for something outside the block, or outlasts its reset by a rule of its chapter (R94, R148, R156, R157, R214, R533). -/
def keptBits (k : Nat) : Word :=
  let all : Word := 0xFFFFFFFF
  if k ∈ [Reg.sysStatus, Reg.sysResetCause, Reg.sysSerialLo, Reg.sysSerialHi] then all
  else if k ∈ [Reg.modeCurrent, Reg.modeSinceLo, Reg.modeSinceHi, Reg.modeCause, Reg.modeChanges, Reg.modeFatalCount] then all
  else if k ∈ [Reg.clkStatus, Reg.clkXratioLo, Reg.clkXratioHi, Reg.clkLossCount, Reg.clkHoldLen, Reg.clkSpread,
      Reg.clkRefOffset] then all
  else if k = Reg.timeStatus then 0xF3
  else if k ∈ [Reg.updSstat, Reg.updOpres, Reg.updAct, Reg.updBanks, Reg.updFwver 0, Reg.updFwver 1, Reg.updRdvLo,
      Reg.updRdvHi, Reg.updKeys] then all
  else if k = Reg.updOp then 0x80000000
  else if k = Reg.stwRole then all
  else if k = Reg.stwDiagA ∨ k = Reg.stwDiagB then 0xFFFF0000
  else if k / 0x1000 = Pg.cfg then all
  else if k = Reg.guardStatus ∨ (0xC200 ≤ k ∧ k < 0xC600) then all
  else if Reg.ageCcrit 0 ≤ k ∧ k ≤ Reg.ageCcrit 23 then all
  else if k = Reg.tbusStatus then 0xF
  else if k = Reg.pcieLink 0 ∨ k = Reg.pcieLink 1 then all
  else if Reg.scrubStat ≤ k ∧ k ≤ Reg.scrubElapsed then all
  else if k = Reg.queEnabledLo ∨ k = Reg.queEnabledHi ∨ k = Reg.tailRun then all
  else if k = Reg.ulnkGstat ∨ k = Reg.ulnkDlstat then all
  else 0

/-- What a register of page `p` holds once a page reset has completed (R94). -/
def State.resetWord (s : State) (p k : Nat) (w : Word) : Word :=
  if p < 0x100 ∧ k % 0x1000 < 0x40 then (if k = Reg.pageCtl p then w &&& 4 else 0)
  else
    match regRow? k with
    | none => resetOf k
    | some r =>
      let keep := word r.rws ||| (if s.locked (ownPage p) then word r.rwl else 0) ||| keptBits k
      (resetOf k &&& ~~~keep) ||| (w &&& keep)

/-- The registers of page `p` return to their reset values (R94). -/
def State.dropPage (s : State) (p : Nat) : State :=
  let regs := s.regs.filterMap (fun e =>
    if e.1 / 0x1000 ≠ p then some e
    else
      let w := s.resetWord p e.1 e.2
      if w = resetOf e.1 then none else some (e.1, w))
  { s with regs := regs }

/-- A TRIG page reset: the tiles' copies of its words follow through their control buses (R228, R295). -/
def State.trigReset (s : State) : State :=
  let was := s.regs
  let s := (s.dropPage Pg.trig).updTrig (fun x => { x with router := [] })
  was.foldl (fun s e =>
    if e.1 / 0x1000 = Pg.trig then
      match trigTile (e.1 % 0x1000) with
      | some t => if e.1 ∈ coveredWords t ∧ s.rd e.1 ≠ e.2 then s.enqTile t e.1 (s.rd e.1) else s
      | none => s
    else s) s

/-- An AGE page reset (R715). -/
def State.agePageReset (s : State) : State :=
  let s := s.agePoll
  let run := s.age.run.isSome
  let s := (s.dropPage Pg.age).ageReset
  if run then s.setFlag Reg.ageStat 0 true else s

/-- A TAIL page reset: the overlay runs on, and a writer that waited for a free page resumes (R94, R366, R373). -/
def State.tailPageReset (s : State) : State :=
  let run := s.tailRunning
  let full := run && s.flag Reg.tailStatus 1
  let s := ((s.tailReset).dropPage Pg.tail).setFlag Reg.tailStatus 0 run
  (s.showTail.showPages.setFlag Reg.tailStatus 1 full).tailResume

/-- An EVB page reset (R732): events open again with the next frame. -/
def State.evbReset (s : State) : State :=
  let s := (s.laneFatal.qFatal false).evbDiscard
  let s := (s.updEvb (fun b => { b with seqs := [], since := s.time.frame + 1 })).dropPage Pg.evb
  s.showTags.showGroups

/-- A ULNK page reset: COMPAT and LANE_EN act as writes of their reset values would (R463, R494). -/
def State.ulnkReset (s : State) : State :=
  let was := s.compat
  let s := (s.laneEnWrite 0x3FFFF).dropPage Pg.ulnk
  let s := if was then (List.range 18).foldl (fun s n => s.laneRetrain n) (s.setDegraded 22 false) else s
  s.showGroups.dlDownShow

/-- A UTX page reset: the lane leaves its state and starts anew (R490, R494). -/
def State.utxReset (s : State) (n : Nat) : State :=
  (((s.laneOff n true).dropPage (Pg.utx n)).laneStart n).showGroups

/-- The registers and the block of page `p` reset (R94 and the block's chapter). `island` marks the reset of the page's
island (R405). -/
def State.pageClear (s : State) (island : Bool) (p : Nat) : State :=
  let s0 := s.dropPage p
  match (pageInfo p).type, pageType p with
  | _, none => s
  | 0x0, _ => { s0 with fab := { s0.fab with stoppedSeen := [] } }
  | 0x2, _ => { s0 with fab := { s0.fab with result := [] } }
  | 0x3, _ => { s0 with fab := { s0.fab with pulses := [] } }
  | 0x4, _ => s.modeReset.dropPage p
  | 0x6, _ => { s0 with time := { s0.time with wincStage := none, outEnd := none } }
  | 0x7, _ => s.tiuClear.setFlag (Reg.pageCtl p) 2 (s.locked p)
  | 0x8, _ => s.agePageReset
  | 0xB, _ => { s0 with stw := { s0.stw with idm := 0 } }
  | 0xC, _ => s0.guardFollow
  | 0x10, _ => ((s.tileReset (p - 0x10)).setFlag (Reg.pageCtl p) 2 (s.locked p)).drainHeld (p - 0x10)
  | 0x20, _ => s.tlnkReset.setFlag (Reg.pageCtl p) 2 (s.locked p)
  | 0x30, _ => s.trigReset
  | 0x31, _ => s0.coincClear
  | 0x32, _ => s0.updTrig (fun x => { x with tpq := [] })
  | 0x33, _ => s0.tbusClear
  | 0x40, _ => s0.ringReset
  | 0x41, _ => s0.hampReset.showHamp
  | 0x42, _ => s.tailPageReset
  | 0x43, _ => s0.rleReset
  | 0x51, _ => s0.engRestart (p - 0x51) island
  | 0x60, _ => s.evbReset
  | 0x61, _ => s0.updQue (fun a => { a with copied := 0 })
  | 0x62, _ => ((s.qdevReset island).dropPage p).showQueues
  | 0x63, _ => s0.updQue (fun a => { a with cmd := [], nextCmd := 0 })
  | 0x70, _ => s.ulnkReset
  | 0x71, _ => s.utxReset (p - 0x71)
  | 0x83, _ => (s.drxLost (p - 0x83)).dropPage p
  | 0x90, _ => s0.updMem (fun m => { m with leaked := m.leaked.filter (fun e => decide (e.1 = 25)) })
  | 0x91, _ => (s0.updMem (fun m => { m with leaked := m.leaked.filter (fun e => decide (e.1 ≠ 25)) })).showPages
  | 0x92, _ => s.scrubAbort.dropPage p
  | 0xA0, _ => s0.slowReset
  | 0xA1, _ => (s.excWrite 0).dropPage p
  | 0xA2, _ => s0.servoReset
  | 0xA4, _ => s0.lightReset
  | _, _ => s0

/-- The reset of page `p`, completed; interrupts it has ended are pending no more (R115). -/
def State.pageReset (s : State) (island : Bool) (p : Nat) : State := (s.pageClear island p).pbaSettle

/-- The common-header pages that lie in island `n`. -/
def State.islandPages (s : State) (n : Nat) : List Nat :=
  (List.range 0x100).filter (fun p => s.pageExists p && decide ((pageInfo p).island = n))

/-- The answer to a read that waited: its data return to the requester; the downlink's answer is a read response of TYPE 2
with its TAG, here held in `val` (R484). -/
def State.heldAnswer (s : State) (h : HeldWrite) (r : Requester) (v : Word) (st : Nat) : State :=
  match r with
  | .downlink => s.ccSend 2 (leBytes 2 h.val.toNat ++ [BitVec.ofNat 8 st, 0] ++ wordBytes v)
  | _ => if s.asks r then s.emit (.readData r h.addr v) else s

/-- An uncorrectable error of a memory has been counted between two states (R484, R517). -/
def State.ueSeen (s s' : State) : Bool := (List.range 25).any (fun k => decide (s'.rd (Reg.seccUe k) ≠ s.rd (Reg.seccUe k)))

/-- A held read is taken up again: it finds its island stopped (R41), waits on (R90, R94), or returns its data. -/
def State.readAgain (s : State) (h : HeldWrite) : State :=
  let p := h.addr / 0x1000
  match h.reader with
  | none => s
  | some r =>
    match s.deadIsland h.addr, s.waitFor r h with
    | some i, _ => (s.markStopped r i).heldAnswer h r 0xFFFFFFFF 1
    | none, some s' => s'
    | none, none =>
      if s.pageExists p && !ctrlHeld h.addr && s.srst (ownPage p) then s.holdSrst (ownPage p) h
      else
        match s.busRead r h.addr with
        | (s', v) => s'.heldAnswer h r (v.getD 0) (if s.ueSeen s' then 2 else 0)

/-- The accesses that wait in the register fabric on island `n`: those held for its stopped clock and for page resets of its
pages. -/
def State.heldOn (s : State) (n : Nat) : List HeldWrite :=
  sget [] n s.fab.held ++ (s.islandPages n).flatMap (fun p => sget [] p s.fab.srstHeld)

/-- Accesses held for island `n` are discarded: its reads are taken up again once the island is in reset (R37, R41). -/
def State.dropHeld (s : State) (n : Nat) : State :=
  let ps := s.islandPages n
  { s with fab := { s.fab with
    held := sset [] n [] s.fab.held, srstHeld := s.fab.srstHeld.filter (fun e => decide (e.1 ∉ ps)) } }

/-- The accesses that wait on island `n` are lost when it enters reset: its writes are counted on the CTRL side (R37, R43).
When CTRL enters reset, what waits on every island is lost, and its writes are counted on that island's side, those that wait for
CTRL itself on the side of their sender. -/
def State.loseHeld (s : State) (n : Nat) : State :=
  if n = 26 then
    (List.range 28).foldl (fun s i =>
      let ws := heldWrites (s.heldOn i)
      let s := s.dropHeld i
      if i = 26 then ws.foldl (fun s h => s.crossLost (s.fromIsland h.dom h.who) 26 1) s else s.crossLost i 26 ws.length) s
  else
    let k := (heldWrites (s.heldOn n)).length
    (s.dropHeld n).ctrlLost n k

/-- The action transfers of the TIME island on their way to SLOW and CTRL, when island `n` enters reset (R37, R43). -/
def State.loseActs (s : State) (n : Nat) : State :=
  let gone := s.time.acts.filter (fun a => decide (n = 0) || decide (actIsland a.code = n))
  let s := s.updTime (fun m => { m with acts := m.acts.filter (fun a => decide (n ≠ 0) && decide (actIsland a.code ≠ n)) })
  gone.foldl (fun s a => if n = 0 then s.crossLost (actIsland a.code) 0 1 else s.crossLost 0 n 1) s

/-- Accepts on their way to the router and alerts on their way to the Tail ring, when island `n` enters reset: those that
leave it or go to it are lost, each counted on the other side; what has not left its own island is counted nowhere (R37,
R43). -/
def State.loseSignals (s : State) (n : Nat) : State :=
  let hit := fun (src dst : Nat) => decide (src = n) || decide (dst = n)
  let fly := s.trig.fly.filter (fun a => hit (acceptIsland a.1) 3)
  let alr := s.trig.alerts.filter (fun a => hit (alertIsland a.1) 4)
  let s := s.updTrig (fun x => { x with
    fly := x.fly.filter (fun a => !hit (acceptIsland a.1) 3), alerts := x.alerts.filter (fun a => !hit (alertIsland a.1) 4) })
  let s := fly.foldl (fun s a => s.crossLost (if n = 3 then acceptIsland a.1 else 3) n (if acceptIsland a.1 = 3 then 0 else 1)) s
  alr.foldl (fun s a => s.crossLost (if n = 4 then alertIsland a.1 else 4) n (if alertIsland a.1 = 4 then 0 else 1)) s

/-- Data transfers held at a crossing of island `n`, when it enters reset (R37, R40). -/
def State.loseXfers (s : State) (n : Nat) : State :=
  let hit := fun (x : Xfer) => decide (x.ends.1 = n) || decide (x.ends.2 = n)
  (s.xfers.filter hit).foldl (fun s x => s.xferLost x.ends.1 x.ends.2) { s with xfers := s.xfers.filter (fun x => !hit x) }

/-- Units that wait on the crossing to a stopped cluster, when island `n` at one of its ends enters reset: each is counted in
the XLOST of the cluster, but for those with both ends in reset (R37, R39, R40, R405). -/
def State.loseCross (s : State) (n : Nat) : State :=
  let hit := fun (h : Nat × EUnit) => decide (engIsland h.1 = n) || decide (dealIsland h.2.mode = n)
  let lost := s.eng.cross.filter hit
  let s := s.updEng (fun g => { g with cross := g.cross.filter (fun h => !hit h) })
  lost.foldl (fun s h => s.xferLost (dealIsland h.2.mode) (engIsland h.1)) s

/-- Words on their way from island `n` to the engines, when it enters reset: each is counted in the XLOST of the cluster it
was to be dealt to (R37, R43, R405). -/
def State.loseDeal (s : State) (n : Nat) : State :=
  (List.range 4).foldl (fun s j =>
    let q := sget [] j s.eng.q
    let lost := (List.range q.length).filter (fun i =>
      match q[i]? with
      | some w => decide (dealIsland w.mode = n)
      | none => false)
    let s := s.updEng (fun g => { g with q := sset [] j (q.filter (fun w => decide (dealIsland w.mode ≠ n))) g.q })
    lost.foldl (fun s i => s.crossLost (engIsland (engAt j ((sget 0 j s.eng.rot + i) % 24))) n 1) s) s

/-- An island reset begins: every page of the island is reset, and the crossings seal; what they hold is lost and counted, on a
page that the reset has cleared too (R37, R165, R405, R719).
The link of a port whose island is reset goes down with it, where a page reset of PCIEn keeps it: R719 names only pages and
crossings (DESIGN CHOICE, log 77). -/
def State.islandReset (s : State) (n : Nat) : State :=
  let bit : BitVec 28 := BitVec.ofNat 28 (2 ^ n)
  let waiting := if n = 26 then (List.range 28).flatMap (fun i => s.heldOn i) else s.heldOn n
  let s := { s with fab := { s.fab with
    inReset := s.fab.inReset ||| bit, isSealed := s.fab.isSealed ||| bit, resetAt := sset 0 n s.time.up s.fab.resetAt } }
  let s := (s.islandPages n).foldl (fun s p => s.pageReset true p) s
  let s := (((((s.loseHeld n).loseActs n).loseSignals n).loseCross n).loseDeal n).loseXfers n
  let s := waiting.foldl (fun s h => s.readAgain h) s
  if n = 0 then
    let s := s.setMtime 0
    let s := { s with time := { s.time with wacc := 0, running := false } }
    s.wr Reg.timeStatus 0
  else if n = 22 ∨ n = 23 then s.portDown (n - 22)
  else s

/-- MTIME and WTIME can count: the master PLL has locked and has a reference (R156, R176). -/
def State.timeRuns (s : State) : Bool :=
  s.flag Reg.clkStatus 2 && !(s.time.refLost && !s.time.xtal) && s.islandLive 0

/-- An island reset that software or the clock check may cause on island `n` (R719): not on the steward islands. -/
def State.resettable (s : State) (n : Nat) : Bool := s.islandExists n && decide (n ≠ 24) && decide (n ≠ 25)

/-- Effect of a write of SYS.ISLAND_RESET with its KEY (R719, R720). -/
def State.islandResetWrite (s : State) (v : Word) : State :=
  let n := wfld v 4 0
  if s.resettable n ∧ n ≠ 26 then s.islandReset n else s.refuse Pg.sys

/-- Both stewards leave OFFLINE for STARTING `wait` ticks from now, on the bank that the boot record and the checks give
(R608, R638, R640, R656). -/
def State.bootStewards (s : State) (wait : Nat) : State :=
  let c := match bootInUse s.upd.flash with
    | some (_, _, c) => c
    | none => 0
  let s := (s.wr Reg.updBanks (word c)).showBanks
  let b := s.bootBank
  let s := s.setFlag Reg.updBanks 8 (decide (b ≠ c))
  let s := s.setFlag Reg.updBanks 9 (!s.flag Reg.updBanks 2 && !s.flag Reg.updBanks 3)
  let s := (s.stwStart 0 b wait).stwStart 1 b wait
  let s := s.updUpd (fun u => { u with releaseAt := s.time.up + wait })
  s.setPhase 1

/-- The bits that a warm reset keeps beside RWS fields: fuses, straps, link and clock states outside the reset's reach
(R95, R155 to R157, R634, R725). -/
def warmBits (k : Nat) : Word :=
  let all : Word := 0xFFFFFFFF
  if k ∈ [Reg.sysSerialLo, Reg.sysSerialHi, Reg.clkLossCount, Reg.tailRun, Reg.updKeys, Reg.pcieLink 0, Reg.pcieLink 1] then all
  else if k = Reg.sysStatus then 0x8
  else if k = Reg.clkStatus then 0xBF
  else if k = Reg.timeStatus then 0xC3
  else if k = Reg.tbusStatus then 0xF
  else if k = Reg.guardStatus then 0x33F01
  else if 0xC200 ≤ k ∧ k < 0xC600 then all
  else if Reg.ageCcrit 0 ≤ k ∧ k ≤ Reg.ageCcrit 23 then all
  else 0

/-- What the register at `k` holds after a warm reset (R95). -/
def warmWord (k : Nat) (w : Word) : Word :=
  match regRow? k with
  | none => 0
  | some r =>
    let keep := word r.rws ||| warmBits k
    (resetOf k &&& ~~~keep) ||| (w &&& keep)

/-- Every register but what a warm reset keeps returns to its reset value. -/
def State.dropWarm (s : State) : State :=
  let regs := s.regs.filterMap (fun e =>
    let w := warmWord e.1 e.2
    if w = resetOf e.1 then none else some (e.1, w))
  { s with regs := regs }

/-- The parts of the module beside the registers return to their reset state; clocks, memories, the flash, fuses, links and
straps stay (R95, R157, R504, R511, R716). -/
def State.clearBlocks (s : State) : State :=
  let bits : BitVec 28 := 0x3000000
  let fab : FabricSt := {}
  let st : Steward := {}
  { s with
    fab := { fab with
      stopped := s.fab.stopped, inReset := bits, isSealed := bits, cfgRetry := s.fab.cfgRetry
      port0 := s.fab.port0, port1 := s.fab.port1 }
    mode := { hist := [(s.time.frame, 0, false)] }
    time := { s.time with wincStage := none, outEnd := none, acts := [] }
    det := {}, tiu := {}, trig := { marked := s.trig.marked }, tbus := { nextCycle := s.tbus.nextCycle }
    mem := { s.mem with scrub := none, leaked := [] }
    acq := {}, eng := {}, evb := {}, que := {}
    lane := { sfFrame := s.lane.sfFrame, sfc := s.lane.sfc, dlDown := some (s.lane.dlDown.getD s.time.up) }
    slow := { blankLow := s.slow.blankLow }, servo := {}, light := {}
    xfers := [], undo := none
    stw := { s.stw with a := st, b := st, mir := {}, trAt := 0, swapping := false, idm := 0 }
    upd := { s.upd with op := none, ownerAt := 0, actAt := 0 }
    age := { setpt := s.age.setpt } }

/-- A reset acts on the data path as a fatal entry does (R139): the ABORT units of the events cut off leave, and the packets
being written are closed with TRUNC. The cells of the hub's memories stay as they were (R504; log 17). -/
def State.resetStop (s : State) : State :=
  let s := { s.pathStop with mem := s.mem }.abortSend
  (List.range 64).foldl (fun s q =>
    match s.qHead q with
    | some p =>
      if p.trunc && s.qTakes q p then (if s.qBulk q then s.qPacket q else { s.qPacket q with mem := s.mem }) else s
    | none => s) s

/-- A warm reset of class `cls` (1 WRST_N, 2 SYS.RESET from domain `dom`) (R95, R96, R142, R144, R643, R660, R664); it
changes no memory cell (R504). Reads that wait are answered as R41 says, and host accesses meet the reset for a time that the
manual leaves open, at most until the stewards are released 10 µs on (R96, R643): a free value (entry 86). Whether fatal cause 5
outlasts the reset R142 leaves open: the model drops it, and finds it again when both stewards fail (DESIGN CHOICE, entry 86). -/
def State.warmReset (s : State) (cls dom : Nat) : State :=
  let reads := (s.fab.held.flatMap (fun e => e.2) ++ s.fab.srstHeld.flatMap (fun e => e.2) ++ s.fab.portWait).filterMap (fun h =>
    h.reader.map (fun r => (h, r)))
  let s := reads.foldl (fun s e => s.heldAnswer e.1 e.2 0xFFFFFFFF 1) s
  let was := s.pending?
  let open' := s.flag Reg.updSstat 31
  let act := s.actState
  let rail := s.mode.fatal.getLsbD 3
  let s := (s.toUmbra.resetStop).abandonOp
  let cut := s.age.run.isSome
  let m := s.mem
  let s := ((s.dropWarm).clearBlocks).updMem (fun _ => { m with scrub := none, leaked := [] })
  let s := { s with time := { s.time with running := s.timeRuns } }
  let s := (s.wr Reg.sysResetCause (word (dom * 16 + cls))).incSat Reg.sysWarmCount
  let s := if cut then s.setFlag Reg.ageStat 0 true else s
  let s := if was then s.stick Pg.mode 0x40000 else s
  let s := if open' then (s.setF Reg.updSstat 27 24 5).raise Pg.upd 0x20 else s
  let s := if act = 3 ∨ act = 4 then (s.setF Reg.updLast 3 0 5).incFSat Reg.updCounts 31 16 else s
  let s := s.servoOutputs.showPages
  let s := s.bootStewards 20000
  let s := if s.flag Reg.guardStatus 16 then s.fatalStart 2 else s
  let s := if rail then s.fatalStart 3 else s
  let s := (if s.time.refLost then s.fatalStart 4 else s).dlDownShow.pbaSettle
  { s with fab := { s.fab with warmEnd := s.time.up + Config.freeNat s.fresh % 20001 } }.draw

/-- A rail fault that outlasts a reset is a fatal cause again (R142). -/
def State.foundAgain (s : State) (rail : Bool) : State := if rail then s.fatalStart 3 else s

/-- A power-on reset (R95, R504): what remains is fused, strapped at manufacture or held outside the module, as it stood:
the flash, the GUARD fuses, the key slots, CCRIT and the serial number. A flash operation or a burn in progress is cut
short (R635, R657, R690). The data path stops as for a fatal entry (R139), and a rail that is still out of limits is
found again as a fatal cause (R142). -/
def State.powerOn (s : State) : State :=
  let rail := s.mode.fatal.getLsbD 3
  let s := (((s.resetStop).fuseDone false).keyDone false).abandonOp
  let fused := fun (k : Nat) =>
    decide (0xC200 ≤ k ∧ k < 0xC600) || decide (k ∈ [Reg.updKeys, Reg.sysSerialLo, Reg.sysSerialHi]) ||
    (decide (Reg.ageCcrit 0 ≤ k) && decide (k ≤ Reg.ageCcrit 23))
  let f := s.fld Reg.guardStatus 13 8
  let regs := s.regs.filter (fun e => fused e.1)
  let upd : UpdSt := {}
  { variant := s.variant, pending := s.pending, out := s.out, fresh := s.fresh, regs := regs
    upd := { upd with flash := s.upd.flash, keys := s.upd.keys } : State }.setF Reg.guardStatus 13 8 f |>.foundAgain rail

/-- POWER_ON_RESET (R95). -/
def execPowerOnReset (s : State) : Host.Outcome State Fault Refusal := .next s.powerOn

/-- BROWNOUT (R681): it acts as PORST_N low. -/
def execBrownout (s : State) : Host.Outcome State Fault Refusal := .next s.powerOn

/-- WRST_N_RESET (R95): before the first lock of the master PLL the module is still in power-on reset. -/
def execWrstNReset (s : State) : Host.Outcome State Fault Refusal :=
  .next (if s.flag Reg.clkStatus 2 then s.warmReset 1 0 else s)

/-- SYS_RESET_WRITE (R96): a write of SYS.RESET. -/
def execSysResetWrite (d : Dom) (v : Word) (s : State) : Host.Outcome State Fault Refusal :=
  .next (s.hostWrite d Reg.sysReset v (fun s => s.warmReset 2 (domIdx d)))

/-- ISLAND_RESET (R719): a write of SYS.ISLAND_RESET. -/
def execIslandReset (d : Dom) (v : Word) (s : State) : Host.Outcome State Fault Refusal :=
  .next (s.hostWrite d Reg.sysIslandReset v (fun s => s.islandResetWrite v))

/-- CLOCK_CHECK_FAIL (R719): the rule does not cover the steward islands. -/
def execClockCheckFail (isl : Fin 28) (s : State) : Host.Outcome State Fault Refusal :=
  .next (if s.resettable isl ∧ s.flag Reg.clkStatus 2 then s.islandReset isl else s)

/-- ISLAND_RESET_END (R38, R719): the island leaves reset 10 µs after its reset began and its crossings reopen. -/
def execIslandResetEnd (isl : Fin 28) (s : State) : Host.Outcome State Fault Refusal :=
  if s.resettable isl ∧ s.fab.inReset.getLsbD isl ∧ s.flag Reg.clkStatus 2 then
    let m : BitVec 28 := ~~~(BitVec.ofNat 28 (2 ^ isl.val))
    let up' := Nat.max s.time.up (sget 0 isl.val s.fab.resetAt + 20000)
    let s := if s.time.running then s.elapse up'
      else
        let xp := if s.time.xtal then Config.xtalPeriods up' - Config.xtalPeriods s.time.up else 0
        { s with time := { s.time with up := up', xacc := (s.time.xacc + xp * s.xinc) % 2 ^ 96 } }
    let s := { s with fab := { s.fab with inReset := s.fab.inReset &&& m, isSealed := s.fab.isSealed &&& m } }
    .next { s with time := { s.time with running := s.timeRuns } }
  else .next s

/-- CROSSING_REOPEN (R38): both sides have left reset. -/
def execCrossingReopen (isl : Fin 28) (s : State) : Host.Outcome State Fault Refusal :=
  if s.fab.inReset.getLsbD isl then .next s
  else .next { s with fab := { s.fab with isSealed := s.fab.isSealed &&& ~~~(BitVec.ofNat 28 (2 ^ isl.val)) } }

/-- ISLAND_CLOCK_STOP (R40): the clock of an island stops; with island 0 MTIME and WTIME stand still, with island 1
XTIME. -/
def execIslandClockStop (isl : Fin 28) (s : State) : Host.Outcome State Fault Refusal :=
  if s.islandExists isl then
    let s := { s with fab := { s.fab with stopped := s.fab.stopped ||| BitVec.ofNat 28 (2 ^ isl.val) } }
    let run := s.time.running && decide (isl.val ≠ 0)
    .next { s with time := { s.time with running := run, xtal := s.time.xtal && decide (isl.val ≠ 1) } }
  else .next s

/-- PLL_FIRST_LOCK (R156, R639, R676, R723): MTIME and WTIME start, while XTIME has run on from the start of the crystal for a
time that the manual leaves open, the straps are latched, the memories are poisoned, and the
stewards follow 2 ms later. The flash attached is given with the event where the host states it. -/
def execPllFirstLock (slot : Fin 16) (fuseEn : Bool) (flash : Option FlashImage) (s : State) : Host.Outcome State Fault Refusal :=
  if s.flag Reg.clkStatus 2 then .next s
  else
    let n := if s.time.xtal then Config.freeNat s.fresh * s.xinc else 0
    let s := { s with time := { s.time with running := true, xacc := (s.time.xacc + n) % 2 ^ 96 } }.draw
    let s := (s.setFlag Reg.clkStatus 2 true).setFlag Reg.clkStatus 0 (!s.flag Reg.clkStatus 4)
    let s := (s.setF Reg.tbusStatus 3 0 slot).setFlag Reg.guardStatus 0 fuseEn
    let s := s.updUpd (fun u => { u with flash := flash.getD u.flash })
    let bits : BitVec 28 := 0x3000000
    let s := { s with fab := { s.fab with inReset := bits, isSealed := bits } }
    .next ((s.servoOutputs.showPages).bootStewards 4000000).dlDownShow

end Sys2Proof.Machine
end

