-- ==== Sys2Proof/Machine/Pages.lean ====
section
/-!
DEFINITION. What an accepted register write does, register by register; page resets and the accesses held for them and for
stopped islands (R18 to R22, R40, R90 to R94, R98).
-/
namespace Sys2Proof.Machine

/-- A write of the common header of page `p` at offset `o` (R18, R93, R94). -/
def State.headerWrite (s : State) (p o : Nat) (v : Word) : State :=
  let s := s.headerBits p o v
  if o = 0x18 then (if p = Pg.ulnk then s.dlDownShow else s).pbaSettle
  else if o = 0x1C then s.pbaSettle
  else s

/-- Effect of a write of DRXn.SCAN_CTL (R498): in step 4 of a campaign GO is refused (R715). -/
def State.scanWrite (s : State) (n : Nat) (v : Word) : State :=
  if v.getLsbD 31 && decide (s.agePoll.fld Reg.ageStat 26 24 = 4) then
    (s.plainWrite (Reg.drxScanCtl n) (setBit v 31 false)).refuse (Pg.drx n)
  else s.plainWrite (Reg.drxScanCtl n) v

/-- Effect of a write of a command queue's CTL: other fields stay while the queue is enabled. -/
def State.qcmdCtlWrite (s : State) (c : Nat) (v : Word) : State :=
  let k := Reg.qcmdCtl c
  if s.flag k 0 then
    let s := if (v ^^^ s.rd k) &&& 0x3F10 = 0 then s else s.refuse Pg.qcmd
    s.setFlag k 0 (v.getLsbD 0)
  else s.plainWrite k v

/-- Effect of a write of the OWN page. -/
def State.ownPageWrite (s : State) (d : Dom) (k : Nat) (v : Word) : State :=
  if k = Reg.ownClaim then s.claimWrite d v
  else if k = Reg.ownRelease then s.releaseWrite d v
  else if k = Reg.ownRevoke then s.revokeWrite v
  else s.plainWrite k v

/-- Effect of a write of the SYS page. -/
def State.sysPageWrite (s : State) (d : Dom) (k : Nat) (v : Word) : State :=
  if k = Reg.sysReset then s.warmReset 2 (domIdx d)
  else if k = Reg.sysIslandReset then s.islandResetWrite v
  else if k = Reg.sysIslandStopped then
    let w := sget 0 (domIdx d) s.fab.stoppedSeen &&& ~~~v
    { s with fab := { s.fab with stoppedSeen := sset 0 (domIdx d) w s.fab.stoppedSeen } }
  else s.plainWrite k v

/-- Effect of a write of the TIME page. -/
def State.timePageWrite (s : State) (d : Dom) (k : Nat) (v : Word) : State :=
  let o := k % 0x1000
  let i := (o - 0x40) / 0x40
  let r := (o - 0x40) % 0x40
  if 0x40 ≤ o ∧ o < 0x640 then
    if r = 0 ∨ r = 4 ∨ r = 8 then s.cmpSetWrite i k v
    else if r = 0xC then s.cmpCtlWrite i v
    else s.plainWrite k v
  else if k = Reg.timeSnap then s.snapWrite d v
  else if k = Reg.timeWincLo then s.wincLoWrite v
  else if k = Reg.timeWincHi then s.wincHiWrite v
  else if k = Reg.timeWctl then s.wctlWrite v
  else s.plainWrite k v

/-- Effect of a write of the UPD page. -/
def State.updPageWrite (s : State) (d : Dom) (k : Nat) (v : Word) : State :=
  if k = Reg.updSession then s.sessionWrite d v
  else if k = Reg.updSrc ∨ k = Reg.updLen ∨ k = Reg.updTrialS then s.ownerWrite k v
  else if k = Reg.updOp then s.opWrite v
  else if k = Reg.updArm then s.armWrite v
  else if k = Reg.updConfirm then s.confirmWrite v
  else if k = Reg.updKeyFuse then s.keyFuseWrite v
  else s.plainWrite k v

/-- Effect of a write of the STW page by the ACTIVE steward. -/
def State.stwPageWrite (s : State) (k : Nat) (v : Word) : State :=
  if k = Reg.stwCmd then s.stwCmdWrite v
  else if k = Reg.stwMemlim then s.memlimWrite v
  else if k = Reg.stwKick then s.kickWrite (s.activeStw.getD 0)
  else if k = Reg.stwAluSig then s.aluSigWrite (s.activeStw.getD 0) v
  else s.plainWrite k v

/-- Effect of a write of the DECC page. -/
def State.deccPageWrite (s : State) (k : Nat) (v : Word) : State :=
  if k = Reg.deccCtl then s.deccCtlWrite v
  else if k = Reg.deccBcfg then s.bucketCfgWrite 25 v
  else if k = Reg.deccRetireCtl then s.retireCtlWrite v
  else if k = Reg.deccRetireAdd then s.retireWrite v
  else if Reg.deccRemap 0 ≤ k ∧ k ≤ Reg.deccRemap 31 then s.remapWrite ((k - Reg.deccRemap 0) / 4) v
  else s.plainWrite k v

/-- The effect of an accepted write of `v` from domain `d` on the register at `k`. -/
def State.pageEffect (s : State) (d : Dom) (k : Nat) (v : Word) : State :=
  let p := k / 0x1000
  let o := k % 0x1000
  let t := (pageInfo p).type
  let n := (pageInfo p).inst
  if p < 0x100 ∧ o < 0x40 then
    if t = 0x10 then s.withRoom n d k v (fun s => s.headerWrite p o v) else s.headerWrite p o v
  else
    match t with
    | 0x0 => s.sysPageWrite d k v
    | 0x2 => s.ownPageWrite d k v
    | 0x3 =>
      if k = Reg.irqEoi 0 then s.eoiWrite 0 v else if k = Reg.irqEoi 1 then s.eoiWrite 1 v else (s.plainWrite k v).pbaSettle
    | 0x4 =>
      if k = Reg.modeReq then (s.changeBy s.now).modeReq d v
      else if k = Reg.modeCancel then (s.changeBy s.now).modeCancel
      else s.plainWrite k v
    | 0x6 => s.timePageWrite d k v
    | 0x7 => if (o - 0x40) % 0x40 = 0 ∧ o < 0x140 then s.tiuCtlWrite ((o - 0x40) / 0x40) v else s.plainWrite k v
    | 0x8 => s.ageWrite k v
    | 0x9 => s.updPageWrite d k v
    | 0xA => s.stwPageWrite k v
    | 0xB => if k = Reg.idmCmd then s.idmCmdWrite v else s.plainWrite k v
    | 0xC => if k = Reg.guardFuseCtl then s.fuseWrite v else s.guardWrite k v
    | 0x10 => s.tileWrite n d k v
    | 0x20 => if o % 0x40 = 4 ∧ o < 0x440 then s.laneDisWrite (o / 0x40 - 1) v else s.plainWrite k v
    | 0x30 => s.trigWrite k v
    | 0x31 => s.coincWrite k v
    | 0x33 =>
      if k = Reg.tbusCtl then s.tbusCtlWrite v
      else if k = Reg.tbusTxCmd then s.tbusCmdWrite v
      else if k = Reg.tbusCalCtl then s.calCtlTbus v
      else s.plainWrite k v
    | 0x40 => if Reg.lringWin 0 ≤ k ∧ k ≤ Reg.lringWin 4 then s.winWrite k v else s.plainWrite k v
    | 0x41 => s.hampRegWrite k v
    | 0x42 => s.tailWrite k v
    | 0x51 =>
      if k = Reg.eclLoadCtl n then s.loadCtlWrite n v
      else if k = Reg.eclMemData n then s.memDataWrite n v
      else s.plainWrite k v
    | 0x60 => s.evbWrite k v
    | 0x62 => s.qdevWrite k v
    | 0x63 => if (o - 0x40) % 0x40 = 0 ∧ o < 0x440 then s.qcmdCtlWrite ((o - 0x40) / 0x40) v else s.plainWrite k v
    | 0x70 => s.ulnkWrite k v
    | 0x71 => s.utxWrite n k v
    | 0x83 => if k = Reg.drxScanCtl n then s.scanWrite n v else s.plainWrite k v
    | 0x90 => if o < 0x1D0 ∧ (o - 0x40) % 0x10 = 0 then s.bucketCfgWrite ((o - 0x40) / 0x10) v else s.plainWrite k v
    | 0x91 => s.deccPageWrite k v
    | 0x92 => if k = Reg.scrubCtl then s.scrubCtlWrite v else s.plainWrite k v
    | 0xA0 => let s := s.slowWrite k v; if k = Reg.slowCtl then s.blankCheck else s
    | 0xA1 => if k = Reg.excCtl then s.excWrite v else s.plainWrite k v
    | 0xA2 => s.servoWrite k v
    | 0xA3 => s.svcoefWrite k v
    | 0xA4 => s.lightWrite k v
    | 0x100 => s.tileWrite n d k v
    | _ => s.plainWrite k v

/-- The effect of an accepted write that `who` sent from domain `d`: KICK and ALU_SIG act for the steward that writes them
(R607). -/
def State.sentEffect (s : State) (d : Dom) (who : Option Requester) (k : Nat) (v : Word) : State :=
  match who with
  | some (.steward b) =>
    if k = Reg.stwKick then s.kickWrite b
    else if k = Reg.stwAluSig then s.aluSigWrite b v
    else s.pageEffect d k v
  | _ => s.pageEffect d k v

/-- A register write of requester `r` (R83, R97 to R99, R607): the MSI-X pages belong to the port it comes through; a
steward that is not ACTIVE may write only its own KICK and ALU_SIG. -/
def State.reqWrite (s : State) (r : Requester) (addr : Nat) (v : Word) : State :=
  let p := addr / 0x1000
  let d := s.reqDomain r
  if !s.asks r || decide (addr % 4 ≠ 0) then s
  else if p = 0xFFE ∨ p = 0xFFF then
    match s.reqPort r with
    | some q => if p = 0xFFE then s.msixWrite q (addr % 0x1000) v else s
    | none => s
  else
    match r with
    | .steward b =>
      if addr ≠ Reg.stwKick ∧ addr ≠ Reg.stwAluSig ∧ s.activeStw ≠ some b.val then s.incFSat Reg.stwXlost 15 0
      else s.busWrite d addr v (fun s => s.sentEffect d (some r) addr v) (some r)
    | .queue _ => s.busWrite d addr v (fun s => s.pageEffect d addr v) (some r)
    | _ => s.busWrite d addr v (fun s => s.pageEffect d addr v)

/-- A held access is performed: the write reaches its register, the read returns its data, or the access waits on for a page
reset (R40, R90, R94). -/
def State.performHeld (s : State) (h : HeldWrite) : State :=
  let p := h.addr / 0x1000
  if h.reader.isSome then s.readAgain h
  else if s.srst (ownPage p) then s.holdSrst (ownPage p) h
  else
    match regRow? h.addr with
    | some r => if discardedWhole r h.val then s.refuse (ownPage p) else s.sentEffect h.dom h.who h.addr h.val
    | none => s.sentEffect h.dom h.who h.addr h.val

/-- An access that waited for the clock of the register fabric reaches it: the write is judged now, the read taken up
again (R40). -/
def State.landHeld (s : State) (h : HeldWrite) : State :=
  if h.reader.isSome then s.readAgain h
  else s.busWrite h.dom h.addr h.val (fun s => s.sentEffect h.dom h.who h.addr h.val) h.who

/-- A page reset of page `p` that is under way has completed, and the accesses held for it are performed on the reset state
(R94). -/
def State.releaseSrst (s : State) (p : Nat) : State :=
  let hs := sget [] p s.fab.srstHeld
  let s := { s with fab := { s.fab with srstHeld := sset [] p [] s.fab.srstHeld } }
  hs.foldl (fun s h => s.performHeld h) s

/-- The page reset of page `p` completes (R94). -/
def State.pageResetDone (s : State) (p : Nat) : State := (s.pageReset false p).releaseSrst p

/-- REGISTER_WRITE (R98): a write to any register. -/
def execRegisterWrite (r : Requester) (addr : Nat) (v : Word) (s : State) : Host.Outcome State Fault Refusal :=
  .next (s.reqWrite r addr v)

/-- The reads that waited for a tile's command queue are taken up again (R90). -/
def State.waitsAgain (s : State) : State :=
  s.fab.portWait.foldl (fun s h => s.readAgain h) { s with fab := { s.fab with portWait := [] } }

/-- TILE_COMMAND (R296, R297): what waited for room in the tile's queue follows (R90, R298). -/
def execTileCommand (t : Fin 16) (first second : Fin 3) (s : State) : Host.Outcome State Fault Refusal :=
  .next (s.tileCommand t first second).waitsAgain

/-- PAGE_RESET (R94): a write of PAGE_CTL with SRST = 1, EN as it stands. -/
def execPageReset (d : Dom) (page : Nat) (s : State) : Host.Outcome State Fault Refusal :=
  let v : Word := 2 ||| (s.rd (Reg.pageCtl page) &&& 1)
  .next (if page < 0x100 then s.hostWrite d (Reg.pageCtl page) v (fun s => s.pageEffect d (Reg.pageCtl page) v) else s)

/-- PAGE_RESET_COMPLETE (R94). -/
def execPageResetComplete (page : Nat) (s : State) : Host.Outcome State Fault Refusal :=
  .next (if decide (page < 0x100) && s.pageExists page && s.srst page then s.pageResetDone page else s)

/-- PCIE_HOT_RESET (R76): the port's configuration space, its MSI-X table and its PCIE page; accesses held for a page reset
of the page are performed on the reset state (R94). -/
def execPcieHotReset (p : Fin 2) (s : State) : Host.Outcome State Fault Refusal :=
  .next (((s.portReset p).pageReset false (Pg.pcie p)).showLinkOff.releaseSrst (Pg.pcie p))

/-- PAGE_LOCK (R18): a write of PAGE_CTL with LOCK = 1, EN as it stands. -/
def execPageLock (d : Dom) (page : Nat) (s : State) : Host.Outcome State Fault Refusal :=
  let v : Word := 4 ||| (s.rd (Reg.pageCtl page) &&& 1)
  .next (if page < 0x100 then s.hostWrite d (Reg.pageCtl page) v (fun s => s.pageEffect d (Reg.pageCtl page) v) else s)

/-- INT_FORCE (R93): a write of INT_FORCE. -/
def execIntForce (d : Dom) (page : Nat) (v : Word) (s : State) : Host.Outcome State Fault Refusal :=
  .next (if page < 0x100 then s.hostWrite d (Reg.intForce page) v (fun s => s.pageEffect d (Reg.intForce page) v) else s)

/-- MEM_DATA_ACCESS (R421): a read, or a write of `w`, of ECLn.MEM_DATA. -/
def execMemDataAccess (r : Requester) (n : Fin 12) (w : Option Word) (s : State) : Host.Outcome State Fault Refusal :=
  match w with
  | none => .next (s.hostRead r (Reg.eclMemData n))
  | some v => .next (s.reqWrite r (Reg.eclMemData n) v)

/-- DRX_SCAN (R498): a write of SCAN_CTL with GO = 1. -/
def execDrxScan (d : Dom) (n : Fin 2) (v : Word) (s : State) : Host.Outcome State Fault Refusal :=
  let v := setBit v 31 true
  .next (s.hostWrite d (Reg.drxScanCtl n) v (fun s => s.scanWrite n v))

/-- DRX_SCAN_DONE (R498): the scan ends with its mismatches, saturating. -/
def execDrxScanDone (n : Fin 2) (errors : Nat) (s : State) : Host.Outcome State Fault Refusal :=
  if s.flag (Reg.drxScanCtl n) 31 then
    .next ((s.setFlag (Reg.drxScanCtl n) 31 false).wr (Reg.drxScanRes n) (word (Nat.min errors 0xFFFFFFFF)))
  else .next s

end Sys2Proof.Machine
end

