-- ==== Sys2Proof/Machine/Bus.lean ====
section
/-!
DEFINITION. The memory windows of the ports (R77 to R82), and the command queues (R455 to R460).
-/
namespace Sys2Proof.Machine

/-- The runs of enabled bytes of a write from address `a` on: each with its address. -/
def byteRuns (a : Nat) : List (Option Byte) → List (Nat × List Byte)
  | [] => []
  | none :: r => byteRuns (a + 1) r
  | some b :: r =>
    match byteRuns (a + 1) r with
    | (a', bs) :: t => if a' = a + 1 then (a, b :: bs) :: t else (a, [b]) :: (a', bs) :: t
    | [] => [(a, [b])]

/-- Writes the enabled bytes to DRAM through port `p`, page by page; a page that refuses its part is reported through AER
(R513). -/
def State.dramRun (s : State) (p : Fin 2) : Nat → Nat → List (Option Byte) → State
  | 0, _, _ => s
  | fuel + 1, a, bs =>
    if bs = [] then s
    else
      let k := Nat.min bs.length (2048 - a % 2048)
      let (s, ok) := s.pageWriteSome (a / 2048) (a % 2048) (bs.take k)
      (if ok then s else s.emit (.aer p)).dramRun p fuel (a + k) (bs.drop k)

/-- `n` bytes from BAR4 offset `a` on lie entirely inside the write window of port `p` (R82). -/
def State.inWin4 (s : State) (p a n : Nat) : Bool :=
  decide (s.nat (Reg.pcieWin4Base p) * 2 ^ 20 ≤ a) && decide (a + n ≤ (s.nat (Reg.pcieWin4Limit p) + 1) * 2 ^ 20)

/-- Command granules of the ring of command queue `c` (R455). -/
def State.cmdRing (s : State) (c : Nat) : Nat := s.fld (Reg.qcmdSize c) 4 0 * 64 - 1

/-- A doorbell with POSTED = `v` reaches command queue `c` (R456). -/
def State.doorbell (s : State) (c : Nat) (v : Word) : State :=
  if (v - s.rd (Reg.qcmdDone c)).toNat ≤ s.cmdRing c ∧ (v - s.rd (Reg.qcmdPosted c)).toNat < 2 ^ 31 then s.wr (Reg.qcmdPosted c) v
  else (s.setFlag (Reg.qcmdStat c) 0 true).raise Pg.qcmd (2 ^ c)

/-- The enabled command queues whose doorbell lies at BAR2 offset `a` of port `p` (R456). -/
def State.doorbellsAt (s : State) (p a : Nat) : List Nat :=
  (List.range 16).filter (fun c => s.flag (Reg.qcmdCtl c) 0 && decide ((s.flag (Reg.qcmdCtl c) 4).toNat = p) &&
    decide (s.fld (Reg.qcmdBase c) 13 0 * 4096 = a))

/-- A write of a port's memory window reaches its memory (R79, R80, R513). -/
def State.barLand (s : State) (p : Fin 2) (bar4 : Bool) (a : Nat) (data : List (Option Byte)) : State :=
  if bar4 then s.dramRun p (data.length / 2048 + 2) a data
  else (byteRuns a data).foldl (fun s r => s.smWrite 0 r.1 (r.2.take (0x3000000 - r.1))) s

/-- A BAR2 write of `data` at `a` through port `p`: outside the window it is discarded and counted; a doorbell of a command
queue is taken as such, and any other write crosses to the SRAM; a swap doorbell also requests a swap (R40, R79, R80, R82, R456,
R619). -/
def State.bar2Write (s : State) (p : Fin 2) (a : Nat) (data : List (Option Byte)) : State :=
  if s.inWin2 p a data.length = false then s.incSat (Reg.pcieWinDeny p)
  else
    let v := leNat (data.filterMap id)
    let whole := decide (data.length = 4) && data.all Option.isSome
    let dbs := s.doorbellsAt p a
    let swap := whole && s.isSwapDb p a v
    let s := if whole ∧ dbs ≠ [] then dbs.foldl (fun s c => s.doorbell c (word v)) s
      else s.offer (.barWrite p false a data) (fun s => s.barLand p false a data)
    if swap then s.swapRequest else s

/-- A BAR4 write (R40, R82, R513). -/
def State.bar4Write (s : State) (p : Fin 2) (a : Nat) (data : List (Option Byte)) : State :=
  if s.inWin4 p a data.length = false then s.incSat (Reg.pcieWinDeny p)
  else s.offer (.barWrite p true a data) (fun s => s.barLand p true a data)

/-- A BAR2 or BAR4 read's data and its completion, poisoned and reported through AER where it met an uncorrectable error
(R79 to R81). -/
def State.memCompletion (s : State) (p : Fin 2) (bs : List Byte) (ue : Bool) : State :=
  let s := s.emit (.completion p bs ue)
  if ue then s.emit (.aer p) else s

/-- A BAR2 read of `n` bytes: beyond the SRAM it returns 0 (R80, R81). -/
def State.bar2Read (s : State) (p : Fin 2) (a n : Nat) : State :=
  let k := Nat.min n (0x3000000 - a)
  let (s, bs, ue) := s.smRead 0 a k
  s.memCompletion p (bs ++ List.replicate (n - k) 0) ue

/-- A BAR4 read of `n` bytes (R81). -/
def State.bar4Read (s : State) (p : Fin 2) (a n : Nat) : State :=
  let (s, bs, ue) := s.dramRead a n
  s.memCompletion p bs ue

/-- A read of a port's memory window reaches its memory. -/
def State.barAnswer (s : State) (p : Fin 2) (bar4 : Bool) (a n : Nat) : State :=
  if bar4 then s.bar4Read p a n else s.bar2Read p a n

/-- BAR_MEMORY_READ (R40, R79 to R81): the NRS-2048S has no BAR4. -/
def execBarMemoryRead (p : Fin 2) (bar4 : Bool) (addr len : Nat) (s : State) : Host.Outcome State Fault Refusal :=
  .next (if s.portAnswers p = false then s
    else if bar4 && decide (s.variant = .s) then s.emit (.unsupported p false addr)
    else s.offer (.barRead p bar4 addr len) (fun s => s.barAnswer p bar4 addr len))

/-- BAR_MEMORY_WRITE (R79, R80, R82). -/
def execBarMemoryWrite (p : Fin 2) (bar4 : Bool) (addr : Nat) (data : List (Option Byte)) (s : State) :
    Host.Outcome State Fault Refusal :=
  .next (if s.portAnswers p = false then s
    else if bar4 then (if s.variant = .t then s.bar4Write p addr data else s.emit (.unsupported p true addr))
    else s.bar2Write p addr data)

/-- CMD_DOORBELL (R456): a 4-byte BAR2 write of `v` through port `p` to the doorbell granule of command queue `c`. -/
def execCmdDoorbell (p : Fin 2) (c : Fin 16) (v : Word) (s : State) : Host.Outcome State Fault Refusal :=
  .next (if s.portAnswers p then
      s.bar2Write p (s.fld (Reg.qcmdBase c) 13 0 * 4096) ((leBytes 4 v.toNat).map some)
    else s)

/-- SWAP_DOORBELL (R619): a BAR2 write of 0x5357_4150 to the address in STW.SWAP_DB. -/
def execSwapDoorbell (p : Fin 2) (s : State) : Host.Outcome State Fault Refusal :=
  .next (if s.portAnswers p then s.bar2Write p (s.fld Reg.stwSwapDb 25 0) ((leBytes 4 0x53574150).map some) else s)

/-- A held data transfer is delivered (R40). -/
def State.xferLand (s : State) (x : Xfer) : State :=
  match x with
  | .hit t f w => (s.acqLand t f w).tailDrain
  | .out w => s.outLand w
  | .mem _ a bs => s.smWrite 0 a bs
  | .page q bs md => (s.pagePut q 0 bs md).showTail
  | .barWrite p bar4 a data => s.barLand p bar4 a data
  | .barRead p bar4 a n => s.barAnswer p bar4 a n

/-- The data transfers that no stopped clock holds any more are delivered, in order (R40). -/
def State.xferReturn (s : State) : State :=
  let free := fun (x : Xfer) => s.crosses x.ends.1 x.ends.2
  (s.xfers.filter free).foldl (fun s x => s.xferLand x) { s with xfers := s.xfers.filter (fun x => !free x) }

/-- CROSSING_CLOCK_RETURN (R40): the stopped clock returns and what its crossings hold is delivered in order: register accesses,
units for its engines, data transfers, and the interrupts of a port (R721). -/
def execCrossingClockReturn (isl : Fin 28) (s : State) : Host.Outcome State Fault Refusal :=
  if s.fab.stopped.getLsbD isl then
    let hs := sget [] isl.val s.fab.held
    let fab := { s.fab with
      stopped := s.fab.stopped &&& ~~~(BitVec.ofNat 28 (2 ^ isl.val)), held := sset [] isl.val [] s.fab.held }
    let s := { s with fab := fab }
    let x := s.time.xtal || (decide (isl.val = 1) && s.flag Reg.clkStatus 5)
    let s := { s with time := { s.time with xtal := x } }
    let late := fun (a : TimeAct) =>
      if isl.val = 0 ∨ actIsland a.code = isl.val then { a with fired := s.time.up, late := 0 } else a
    let s := { s with time := { s.time with running := s.timeRuns, acts := s.time.acts.map late } }
    let s := ((hs.foldl (fun s h => if isl.val = 26 then s.landHeld h else s.performHeld h) s).dealReturn isl).xferReturn
    .next (if isl.val = 22 ∨ isl.val = 23 then s.msixAll (isl.val - 22)
      else if isl.val = 26 then (s.msixAll 0).msixAll 1
      else s)
  else .next s

/-- A command queue beside its registers. -/
def State.cq (s : State) (c : Nat) : CmdQ := sget {} c s.que.cmd

/-- The state with command queue `c` changed by `f`. -/
def State.updCq (s : State) (c : Nat) (f : CmdQ → CmdQ) : State :=
  s.updQue (fun a => { a with cmd := sset {} c (f (s.cq c)) a.cmd })

/-- Command queue `c` is enabled and has a command posted and not consumed. -/
def State.cmdWaits (s : State) (c : Nat) : Bool :=
  s.flag (Reg.qcmdCtl c) 0 && decide (s.rd (Reg.qcmdPosted c) ≠ s.rd (Reg.qcmdDone c))

/-- Command queue `c` is the next of the round-robin with a command (R458). -/
def State.cmdTurn (s : State) (c : Nat) : Bool :=
  decide (((List.range 16).map (fun i => (s.que.nextCmd + i) % 16)).find? (fun k => s.cmdWaits k) = some c)

/-- The command granule at the front of queue `c`: its words, and whether the read met an uncorrectable error; then only word
0 counts, 0 when the error lies there (R455, R457, R459). -/
def State.cmdFetch (s : State) (c : Nat) : State × List Word × Bool :=
  let a := s.fld (Reg.qcmdBase c) 13 0 * 4096 + 64 * (1 + (s.cq c).pos % s.cmdRing c)
  if 0x3000000 < a + 64 then (s, [], true)
  else
    let head := (s.memGet 17 a 4).2
    let (s, bs, ue) := s.memGet 17 a 64
    if ue then (s, [if head.2 then 0 else word (leNat head.1)], true)
    else (s, (List.range 16).map (fun i => word (leNat ((bs.drop (4 * i)).take 4))), false)

/-- OP and COUNT of a command are not reserved (R457, R459). -/
def cmdLegal (op count : Nat) : Bool :=
  (decide (op = 1) && decide (1 ≤ count) && decide (count ≤ 7)) ||
  (decide (op = 2) && decide (1 ≤ count) && decide (count ≤ 14)) || (decide (op = 3) && decide (count = 0))

/-- An access to `addr` is aimed at an island that is stopped or in reset (R23, R41). -/
def State.aimsStopped (s : State) (addr : Nat) : Bool := (s.deadIsland addr).isSome

/-- Queue `c` goes on with its command: the accesses so far have reset neither the module nor the queues' island. -/
def State.cmdGoes (s s' : State) : Bool :=
  decide (s'.rd Reg.sysWarmCount = s.rd Reg.sysWarmCount) && !s'.fab.inReset.getLsbD 17

/-- The writes of a WRITE command, from pair `i` on: the state and STATUS (R458). -/
def State.cmdWrites (s : State) (c : Nat) : Nat → List (Nat × Word) → Nat → State × Nat
  | _, [], st => (s, st)
  | i, (a, v) :: r, st =>
    let q : Requester := .queue (if h : c < 16 then ⟨c, h⟩ else 0)
    let denied := s.pageExists (a / 0x1000) && !s.mayWrite (s.reqDomain q) a
    let st := if denied || s.aimsStopped a then st + 2 ^ i else st
    let s' := s.reqWrite q a v
    let s' := if denied then (s'.incSat (Reg.qcmdDenied c)).raise Pg.qcmd (2 ^ (16 + c)) else s'
    if s.cmdGoes s' then s'.cmdWrites c (i + 1) r st else (s', st)

/-- The reads of a READ command: the state, STATUS and the data. -/
def State.cmdReads (s : State) (c : Nat) : Nat → List Nat → Nat → List Word → State × Nat × List Word
  | _, [], st, ds => (s, st, ds)
  | i, a :: r, st, ds =>
    let q : Requester := .queue (if h : c < 16 then ⟨c, h⟩ else 0)
    let st := if s.aimsStopped a then st + 2 ^ i else st
    let (s, v) := s.busRead q a
    s.cmdReads c (i + 1) r st (ds ++ [v.getD 0])

/-- The response to a command (R459). -/
def State.cmdRespond (s : State) (c op count tag err st : Nat) (ds : List Word) : State :=
  let w0 := packFields [(4, op), (4, count), (2, 0), (1, err), (5, 0), (16, tag)]
  let p : Packet := {
    queue := s.fld (Reg.qcmdCtl c) 13 8, src := 3
    payload := leBytes 4 w0 ++ leBytes 4 st ++ ds.flatMap wordBytes }
  s.updQue (fun a => { a with packets := a.packets ++ [p] })

/-- Queue `c` has consumed its command (R458, R460). -/
def State.cmdConsumed (s : State) (c : Nat) (executed : Bool) : State :=
  let s := s.inc (Reg.qcmdDone c)
  let s := if executed then s.inc (Reg.qcmdExec c) else s
  let n := s.cmdRing c
  let s := s.updCq c (fun x => { x with report := true, pos := (x.pos % n + 1) % n })
  s.updQue (fun a => { a with nextCmd := (c + 1) % 16 })

/-- A READ command whose accesses meet a page reset waits for its end (R94). -/
def State.cmdHeld (s : State) (ws : List Word) (op count : Nat) : Bool :=
  decide (op = 2) && (List.range count).any (fun i =>
    let a := wfld (ws.getD (2 + i) 0) 23 0
    !ctrlHeld a && !s.aimsStopped a && s.srst (ownPage (a / 0x1000)))

/-- The next command of queue `c` is executed, when it is the queue's turn and the command's OP is `op`; a reserved or
unreadable command is answered with ERR whichever operation was awaited (R457 to R459). -/
def State.cmdStep (s : State) (c op : Nat) : State :=
  if s.cmdTurn c = false || s.memStill || s.fab.stopped.getLsbD 17 then s
  else
    match s.cmdFetch c with
    | (s1, ws, bad) =>
      let w0 := ws.getD 0 0
      let o := wfld w0 31 28
      let n := wfld w0 27 24
      let tag := wfld w0 15 0
      if bad || cmdLegal o n = false then (s1.cmdRespond c o n tag 1 0 []).cmdConsumed c false
      else if o ≠ op ∨ s.cmdHeld ws o n then s
      else if op = 1 then
        let ps := (List.range n).map (fun i => (wfld (ws.getD (2 + 2 * i) 0) 23 0, ws.getD (3 + 2 * i) 0))
        let (s2, st) := s1.cmdWrites c 0 ps 0
        if s1.cmdGoes s2 then
          (if w0.getLsbD 20 then s2.cmdRespond c o n tag 0 st [] else s2).cmdConsumed c true
        else s2
      else if op = 2 then
        let as' := (List.range n).map (fun i => wfld (ws.getD (2 + i) 0) 23 0)
        let (s2, st, ds) := s1.cmdReads c 0 as' 0 []
        (s2.cmdRespond c o n tag 0 st ds).cmdConsumed c true
      else (s1.cmdRespond c o n tag 0 0 []).cmdConsumed c true

/-- CMD_WRITE (R458). -/
def execCmdWrite (c : Fin 16) (s : State) : Host.Outcome State Fault Refusal := .next (s.cmdStep c 1)

/-- CMD_READ (R459). -/
def execCmdRead (c : Fin 16) (s : State) : Host.Outcome State Fault Refusal := .next (s.cmdStep c 2)

/-- CMD_FENCE (R459). -/
def execCmdFence (c : Fin 16) (s : State) : Host.Outcome State Fault Refusal := .next (s.cmdStep c 3)

/-- CMD_CREDIT_UPDATE (R460): DONE is written to host memory by DMA; `ok` tells whether the write succeeded. -/
def execCmdCreditUpdate (c : Fin 16) (ok : Bool) (s : State) : Host.Outcome State Fault Refusal :=
  if (s.cq c).report = false then .next s
  else
    let p : Fin 2 := if s.flag (Reg.qcmdCtl c) 4 then 1 else 0
    if ok && s.portAnswers p then
      let s := s.emit (.hostWrite p (s.rd64 (Reg.qcmdCredLo c)) (leBytes 4 (s.nat (Reg.qcmdDone c))))
      .next (s.updCq c (fun x => { x with report := false }))
    else .next (s.setFlag (Reg.qcmdStat c) 1 true)

end Sys2Proof.Machine
end

