-- ==== Sys2Proof/Machine/Downlink.lean ====
section
/-!
DEFINITION. The downlink: block lock and alignment of the two receive lanes, delivery of superframes, and the blocks with
their actions (R480 to R489).
-/
namespace Sys2Proof.Machine

/-- Block `n` of the delivered stream leaves this kind behind it: 0 other, 1 SYNC_HI, 2 BWR or its data (R482, R483). -/
def State.dlAfter (s : State) (kind : Nat) : State := s.updLane (fun l => { l with dlPrev := kind })

/-- A block is discarded and counted in BAD_BLOCKS of the lane the stream is taken from (R482). -/
def State.dlBad (s : State) : State := (s.incSat (Reg.drxBadBlocks s.lane.dlLane)).dlAfter 0

/-- A SYNC block whose sync header arrived `ago` ticks ago: M holds for that tick, and now lies that much further on (R483). -/
def State.dlSync (s : State) (lo ago : Nat) : State :=
  if s.lane.dlPrev = 1 then
    (s.syncJudge 1 (s.lane.dlHi * 2 ^ 40 + lo + ago) (s.fld Reg.timeSyncDly 15 0)).dlAfter 0
  else s.dlBad

/-- A BITSLIP block naming `lane` (R480, R482). -/
def State.dlBitslip (s : State) (lane : Nat) : State :=
  if 17 < lane then s.dlBad
  else if s.compat then (s.setF (Reg.utxState lane) 19 16 ((s.fld (Reg.utxState lane) 19 16 + 1) % 10)).dlAfter 0
  else (s.stick (Pg.utx lane) 0x20000).dlAfter 0

/-- A RETRAIN block naming `lane` (R482, R490). -/
def State.dlRetrain (s : State) (lane : Nat) : State := if 17 < lane then s.dlBad else (s.laneRetrain lane).dlAfter 0

/-- A CMD_WR block: a BAR0 write from domain 3 (R484). -/
def State.dlCmdWr (s : State) (addr : Nat) (v : Word) : State :=
  ((s.inc Reg.ulnkCmdExec).dlAfter 0).reqWrite .downlink (4 * addr) v

/-- A CMD_RD block: a BAR0 read from domain 3, answered with TYPE 2 (R484); it waits for a page reset of its page (R94). -/
def State.dlCmdRd (s : State) (addr tag : Nat) : State :=
  let a := 4 * addr
  let p := a / 0x1000
  let s := (s.inc Reg.ulnkCmdExec).dlAfter 0
  let e : HeldWrite := { dom := .dl, addr := a, val := word tag, reader := some .downlink }
  if s.pageExists p && !ctrlHeld a && !s.aimsStopped a && s.srst (ownPage p) then s.holdSrst (ownPage p) e
  else
    let st := s.aimsStopped a
    let (s', v) := s.busRead .downlink a
    s'.heldAnswer e .downlink (v.getD 0) (st.toNat + (if s.ueSeen s' then 2 else 0))

/-- A BWR block (R482). -/
def State.dlBwr (s : State) (addr : Nat) : State := s.updLane (fun l => { l with dlAddr := 8 * addr, dlPrev := 2 })

/-- A data block: it writes 8 bytes when it follows a BWR or its data and they lie inside the window (R482, R485). -/
def State.dlData (s : State) (d : DWord) : State :=
  if s.lane.dlPrev ≠ 2 then s.dlBad
  else
    let a := s.lane.dlAddr
    let s := s.updLane (fun l => { l with dlAddr := a + 8 })
    if s.nat Reg.ulnkDwinBase * 65536 ≤ a ∧ a + 8 ≤ (s.nat Reg.ulnkDwinLimit + 1) * 65536 then
      s.memPut 21 a (leBytes 8 d.toNat)
    else (s.incSat Reg.ulnkDwinDeny).stick Pg.ulnk 0x40000

/-- A control block by its BTYPE and payload (R482), which arrived `ago` ticks ago. -/
def State.dlControl (s : State) (w : DWord) (ago : Nat) : State :=
  match dfld w 63 56 with
  | 0x36 => (s.dlDlm (BitVec.ofNat 18 (dfld w 47 30))).dlAfter 0
  | 0x1E => s.dlAfter 0
  | 0x40 => s.updLane (fun l => { l with dlHi := dfld w 23 0, dlPrev := 1 })
  | 0x41 => s.dlSync (dfld w 39 0) ago
  | 0x42 => (s.sendAccept 2 (s.fullTick (dfld w 39 0)) (dfld w 47 40)).dlAfter 0
  | 0x43 => ((s.sendAlert 2 (s.fullTick (dfld w 39 0)) (dfld w 47 40)).capture 9).dlAfter 0
  | 0x44 => s.dlBitslip (dfld w 4 0)
  | 0x45 => s.dlRetrain (dfld w 4 0)
  | 0x48 => s.dlCmdWr (dfld w 53 32) (word (dfld w 31 0))
  | 0x49 => s.dlCmdRd (dfld w 53 32) (dfld w 15 0)
  | 0x50 => s.dlBwr (dfld w 22 0)
  | _ => s.dlBad

/-- The block at position `pos` of a superframe, which arrived `ago` ticks ago, is delivered, none when no copy holds it valid;
position 1 is reserved for the command class (R481, R487). -/
def State.dlBlock (s : State) (pos : Nat) (b : Option (Bool × DWord)) (ago : Nat) : State :=
  match b with
  | none => (s.incSat Reg.ulnkDlost).stick Pg.ulnk 0x80000
  | some (ctl, w) =>
    let cmd := ctl && (decide (dfld w 63 56 = 0x48) || decide (dfld w 63 56 = 0x49) || decide (dfld w 63 56 = 0x1E))
    if pos = 1 ∧ cmd = false then ((s.incSat Reg.ulnkRsvDiscard).stick Pg.ulnk 0x20000).dlAfter 0
    else if ctl then s.dlControl w ago
    else s.dlData w

/-- How many ticks before the end of a superframe the sync header of the block at position `pos` arrives: 32 blocks of 13.2 ticks,
to the nearest tick. DESIGN CHOICE (entry 85). -/
def blockAge (pos : Nat) : Nat := ((32 - pos) * 132 + 5) / 10

/-- Superframe `sfc` is delivered, taken from lane `n`; with each block stands how long ago the copy it is taken from ended
(R487). -/
def State.dlDeliver (s : State) (n sfc : Nat) (blocks : List (Option (Bool × DWord) × Nat)) : State :=
  let s := s.inc (Reg.drxSfTaken n)
  let s := s.updLane (fun l => { l with
    dlLane := n, dlTaken := (sfc :: l.dlTaken).take 32
    dlCopies := l.dlCopies.filter (fun c => decide (c.sfc ≠ sfc)) })
  (List.range blocks.length).foldl (fun s i =>
    let b := blocks.getD i (none, 0)
    s.dlBlock i b.1 (b.2 + blockAge i)) s

/-- The blocks of two copies: each from a copy in which it is valid, the first copy's first (R487). -/
def dlMerge : List (Option (Bool × DWord) × Nat) → List (Option (Bool × DWord) × Nat) → List (Option (Bool × DWord) × Nat)
  | [], bs => bs
  | a :: as', [] => a :: as'
  | a :: as', b :: bs => (if a.1.isSome then a else b) :: dlMerge as' bs

/-- STATUS.SFC of lane `n`, and SKEW of both lanes (R486). -/
def State.dlSfc (s : State) (n sfc : Nat) : State :=
  let s := s.setF (Reg.drxStatus n) 31 16 sfc
  let d := fun (a b : Nat) => (s.fld (Reg.drxStatus b) 31 16 + 65536 - s.fld (Reg.drxStatus a) 31 16) % 65536
  if s.flag (Reg.drxStatus 0) 1 && s.flag (Reg.drxStatus 1) 1 then
    (s.wr (Reg.drxSkew 0) (word (d 0 1))).wr (Reg.drxSkew 1) (word (d 1 0))
  else s

/-- A copy of superframe `sfc` ends on lane `n` (R487). -/
def State.dlCopy (s : State) (n sfc : Nat) (blocks : List (Option (Bool × DWord))) : State :=
  let bad := (blocks.filter Option.isNone).length
  let s := (s.incSatBy (Reg.drxSyncErr n) bad).dlSfc n sfc
  if s.flag (Reg.drxStatus n) 1 = false ∨ sfc ∈ s.lane.dlTaken then s
  else if bad = 0 then s.dlDeliver n sfc (blocks.map (fun b => (b, 0)))
  else
    match s.lane.dlCopies.find? (fun c => decide (c.sfc = sfc) && decide (c.lane ≠ n)) with
    | some c => s.dlDeliver c.lane sfc (dlMerge (c.blocks.map (fun b => (b, s.time.up - c.at'))) (blocks.map (fun b => (b, 0))))
    | none => s.updLane (fun l => { l with dlCopies := l.dlCopies ++ [⟨n, sfc, blocks, s.time.up⟩] })

/-- DL_DLM (R482, R490). -/
def execDlDlm (locked : BitVec 18) (s : State) : Host.Outcome State Fault Refusal := .next ((s.dlDlm locked).dlAfter 0)

/-- DL_IDLE (R482). -/
def execDlIdle (s : State) : Host.Outcome State Fault Refusal := .next (s.dlAfter 0)

/-- DL_SYNC_HI (R482). -/
def execDlSyncHi (hi : BitVec 24) (s : State) : Host.Outcome State Fault Refusal :=
  .next (s.updLane (fun l => { l with dlHi := hi.toNat, dlPrev := 1 }))

/-- DL_SYNC (R483). -/
def execDlSync (lo : BitVec 40) (s : State) : Host.Outcome State Fault Refusal := .next (s.dlSync lo.toNat 0)

/-- DL_ACCEPT (R482). -/
def execDlAccept (id : BitVec 8) (tick : BitVec 40) (s : State) : Host.Outcome State Fault Refusal :=
  .next ((s.sendAccept 2 (s.fullTick tick.toNat) id.toNat).dlAfter 0)

/-- DL_ALERT (R482). -/
def execDlAlert (code : BitVec 8) (tick : BitVec 40) (s : State) : Host.Outcome State Fault Refusal :=
  .next (((s.sendAlert 2 (s.fullTick tick.toNat) code.toNat).capture 9).dlAfter 0)

/-- BITSLIP (R480). -/
def execBitslip (lane : Fin 32) (s : State) : Host.Outcome State Fault Refusal := .next (s.dlBitslip lane)

/-- DL_RETRAIN (R482). -/
def execDlRetrain (lane : Fin 32) (s : State) : Host.Outcome State Fault Refusal := .next (s.dlRetrain lane)

/-- CMD_WR (R484). -/
def execCmdWr (addr : BitVec 22) (v : Word) (s : State) : Host.Outcome State Fault Refusal := .next (s.dlCmdWr addr.toNat v)

/-- CMD_RD (R484). -/
def execCmdRd (addr : BitVec 22) (tag : BitVec 16) (s : State) : Host.Outcome State Fault Refusal :=
  .next (s.dlCmdRd addr.toNat tag.toNat)

/-- BWR (R482). -/
def execBwr (addr : BitVec 23) (s : State) : Host.Outcome State Fault Refusal := .next (s.dlBwr addr.toNat)

/-- BWR_DATA (R482, R485). -/
def execBwrData (data : DWord) (s : State) : Host.Outcome State Fault Refusal := .next (s.dlData data)

/-- DL_SUPERFRAME_DELIVER (R487): a copy of a superframe ends on a lane; without a copy, 16 superframes (6,758.4 ticks) have
passed since the oldest copy that waits. -/
def execDlSuperframeDeliver (copy : Option (Fin 2 × BitVec 16 × List (Option (Bool × DWord)))) (s : State) :
    Host.Outcome State Fault Refusal :=
  match copy with
  | some (n, sfc, blocks) => .next (s.dlCopy n sfc.toNat blocks)
  | none =>
    match s.lane.dlCopies with
    | [] => .next s
    | c :: _ =>
      let s := s.elapse (c.at' + 6759)
      .next (s.dlDeliver c.lane c.sfc (c.blocks.map (fun b => (b, s.time.up - c.at'))))

/-- DRX_BLOCK_LOCK (R277, R486). -/
def execDrxBlockLock (n : Fin 2) (s : State) : Host.Outcome State Fault Refusal :=
  .next (s.setFlag (Reg.drxStatus n) 0 true)

/-- DRX_ALIGNED (R486): a locked lane sees two DLMs with consecutive SFC, the last of them `sfc`. -/
def execDrxAligned (n : Fin 2) (sfc : BitVec 16) (s : State) : Host.Outcome State Fault Refusal :=
  if s.flag (Reg.drxStatus n) 0 then
    let was := s.flag (Reg.drxStatus n) 1
    let s := (s.setFlag (Reg.drxStatus n) 1 true).dlSfc n sfc.toNat
    let s := if was then s else s.raise (Pg.drx n) 0x1
    let s := s.setDegraded 21 (!(s.flag (Reg.drxStatus 0) 1 && s.flag (Reg.drxStatus 1) 1))
    .next ((s.setFlag Reg.ulnkDlstat 31 true).updLane (fun l => { l with dlDown := none }))
  else .next s

/-- DRX_ALIGN_LOSS (R277, R486, R489): the lane loses lock, with `headers` invalid sync headers counted, or misses two
DLMs. -/
def execDrxAlignLoss (n : Fin 2) (lockLost : Bool) (headers : Nat) (s : State) : Host.Outcome State Fault Refusal :=
  let s := s.incSatBy (Reg.drxSyncErr n) headers
  let s := if lockLost && s.flag (Reg.drxStatus n) 0 then
      ((s.setFlag (Reg.drxStatus n) 0 false).incSat (Reg.drxLockLoss n)).raise (Pg.drx n) 0x2
    else s
  .next (s.drxLost n)

end Sys2Proof.Machine
end

