-- ==== Sys2Proof/Machine/EngAlu.lean ====
section
/-!
DEFINITION. Arithmetic, logic, shifts, lanes and bit fields of the hit engines (R413).
-/
namespace Sys2Proof.Machine

/-- A result written with Z and N set from it. -/
def Eng.putZN (x : Eng) (d : Nat) (r : Word) : Eng := { x.setG d r with fl := x.fl.setZN r }

/-- A result written with Z set from it. -/
def Eng.putZ (x : Eng) (d : Nat) (r : Word) : Eng := { x.setG d r with fl := x.fl.setZ r }

/-- A result written with Q set when it saturated. -/
def Eng.putQ (x : Eng) (d : Nat) (r : Word × Bool) : Eng := { x.setG d r.1 with fl := x.fl.orQ r.2 }

/-- A saturated 32-bit sum or difference: the word and whether it saturated. -/
def sat32 (z : Int) : Word × Bool := (BitVec.ofInt 32 (satS 32 z).1, (satS 32 z).2)

/-- 1 for a condition that holds, else 0. -/
def bool32 (b : Bool) : Word := if b then 1 else 0

/-- ADD (R413): d = a + b, with Z, N, C and V. -/
def execAdd (e : Fin 96) (d a b : Fin 32) (s : State) : Host.Outcome State Fault Refusal :=
  .next (s.engOp e (encA 0x00 d a b 0x000) maskAll 1 (fun x =>
    { x.setG d (x.g a + x.g b) with fl := x.fl.setAdd (x.g a) (x.g b) }))

/-- SUB (R413): d = a − b, with Z, N, C and V. -/
def execSub (e : Fin 96) (d a b : Fin 32) (s : State) : Host.Outcome State Fault Refusal :=
  .next (s.engOp e (encA 0x00 d a b 0x001) maskAll 1 (fun x =>
    { x.setG d (x.g a - x.g b) with fl := x.fl.setSub (x.g a) (x.g b) }))

/-- AND (R413): bitwise, with Z and N. -/
def execAnd (e : Fin 96) (d a b : Fin 32) (s : State) : Host.Outcome State Fault Refusal :=
  .next (s.engOp e (encA 0x00 d a b 0x002) maskAll 1 (fun x =>
    x.putZN d (x.g a &&& x.g b)))

/-- OR (R413): bitwise, with Z and N. -/
def execOr (e : Fin 96) (d a b : Fin 32) (s : State) : Host.Outcome State Fault Refusal :=
  .next (s.engOp e (encA 0x00 d a b 0x003) maskAll 1 (fun x =>
    x.putZN d (x.g a ||| x.g b)))

/-- XOR (R413): bitwise, with Z and N. -/
def execXor (e : Fin 96) (d a b : Fin 32) (s : State) : Host.Outcome State Fault Refusal :=
  .next (s.engOp e (encA 0x00 d a b 0x004) maskAll 1 (fun x =>
    x.putZN d (x.g a ^^^ x.g b)))

/-- SHL (R413): a shifted left by b[4:0], with Z and N. -/
def execShl (e : Fin 96) (d a b : Fin 32) (s : State) : Host.Outcome State Fault Refusal :=
  .next (s.engOp e (encA 0x00 d a b 0x005) maskAll 1 (fun x =>
    x.putZN d (x.g a <<< ((x.g b).toNat % 32))))

/-- SHR (R413): a shifted right by b[4:0], with Z and N. -/
def execShr (e : Fin 96) (d a b : Fin 32) (s : State) : Host.Outcome State Fault Refusal :=
  .next (s.engOp e (encA 0x00 d a b 0x006) maskAll 1 (fun x =>
    x.putZN d (x.g a >>> ((x.g b).toNat % 32))))

/-- SAR (R413): a shifted right arithmetically by b[4:0], with Z and N. -/
def execSar (e : Fin 96) (d a b : Fin 32) (s : State) : Host.Outcome State Fault Refusal :=
  .next (s.engOp e (encA 0x00 d a b 0x007) maskAll 1 (fun x =>
    x.putZN d ((x.g a).sshiftRight ((x.g b).toNat % 32))))

/-- MIN (R413): the signed minimum, with Z and N. -/
def execMin (e : Fin 96) (d a b : Fin 32) (s : State) : Host.Outcome State Fault Refusal :=
  .next (s.engOp e (encA 0x00 d a b 0x008) maskAll 1 (fun x =>
    x.putZN d (pickS true (x.g a) (x.g b))))

/-- MAX (R413): the signed maximum, with Z and N. -/
def execMax (e : Fin 96) (d a b : Fin 32) (s : State) : Host.Outcome State Fault Refusal :=
  .next (s.engOp e (encA 0x00 d a b 0x009) maskAll 1 (fun x =>
    x.putZN d (pickS false (x.g a) (x.g b))))

/-- ADDS (R413): signed and saturating, with Z, N and Q. -/
def execAdds (e : Fin 96) (d a b : Fin 32) (s : State) : Host.Outcome State Fault Refusal :=
  .next (s.engOp e (encA 0x00 d a b 0x00A) maskAll 1 (fun x =>
    let r := sat32 ((x.g a).toInt + (x.g b).toInt)
    { (x.putZN d r.1) with fl := (x.fl.setZN r.1).orQ r.2 }))

/-- SUBS (R413): signed and saturating, with Z, N and Q. -/
def execSubs (e : Fin 96) (d a b : Fin 32) (s : State) : Host.Outcome State Fault Refusal :=
  .next (s.engOp e (encA 0x00 d a b 0x00B) maskAll 1 (fun x =>
    let r := sat32 ((x.g a).toInt - (x.g b).toInt)
    { (x.putZN d r.1) with fl := (x.fl.setZN r.1).orQ r.2 }))

/-- SLT (R413): d = 1 when a < b signed, else 0, with Z. -/
def execSlt (e : Fin 96) (d a b : Fin 32) (s : State) : Host.Outcome State Fault Refusal :=
  .next (s.engOp e (encA 0x00 d a b 0x00C) maskAll 1 (fun x =>
    x.putZ d (bool32 ((x.g a).slt (x.g b)))))

/-- SLTU (R413): d = 1 when a < b unsigned, else 0, with Z. -/
def execSltu (e : Fin 96) (d a b : Fin 32) (s : State) : Host.Outcome State Fault Refusal :=
  .next (s.engOp e (encA 0x00 d a b 0x00D) maskAll 1 (fun x =>
    x.putZ d (bool32 ((x.g a).ult (x.g b)))))

/-- MUL (R413): the low 32 bits of a × b, with Z and N. -/
def execMul (e : Fin 96) (d a b : Fin 32) (s : State) : Host.Outcome State Fault Refusal :=
  .next (s.engOp e (encA 0x00 d a b 0x010) maskAll 2 (fun x =>
    x.putZN d (x.g a * x.g b)))

/-- ADDH2S (R413): two signed 16-bit lanes, saturating. -/
def execAddh2s (e : Fin 96) (d a b : Fin 32) (s : State) : Host.Outcome State Fault Refusal :=
  .next (s.engOp e (encA 0x00 d a b 0x020) maskAll 1 (fun x =>
    x.putQ d (lanes2 (· + ·) (x.g a) (x.g b))))

/-- SUBH2S (R413): two signed 16-bit lanes, saturating. -/
def execSubh2s (e : Fin 96) (d a b : Fin 32) (s : State) : Host.Outcome State Fault Refusal :=
  .next (s.engOp e (encA 0x00 d a b 0x021) maskAll 1 (fun x =>
    x.putQ d (lanes2 (· - ·) (x.g a) (x.g b))))

/-- ADDB4U (R413): four unsigned 8-bit lanes, saturating at 255. -/
def execAddb4u (e : Fin 96) (d a b : Fin 32) (s : State) : Host.Outcome State Fault Refusal :=
  .next (s.engOp e (encA 0x00 d a b 0x022) maskAll 1 (fun x =>
    x.putQ d (lanes4 (· + ·) (x.g a) (x.g b))))

/-- SUBB4U (R413): four unsigned 8-bit lanes, saturating at 0. -/
def execSubb4u (e : Fin 96) (d a b : Fin 32) (s : State) : Host.Outcome State Fault Refusal :=
  .next (s.engOp e (encA 0x00 d a b 0x023) maskAll 1 (fun x =>
    x.putQ d (lanes4 (· - ·) (x.g a) (x.g b))))

/-- MAXH2 (R413): the signed maximum of two 16-bit lanes. -/
def execMaxh2 (e : Fin 96) (d a b : Fin 32) (s : State) : Host.Outcome State Fault Refusal :=
  .next (s.engOp e (encA 0x00 d a b 0x024) maskAll 1 (fun x =>
    x.setG d (pickH2 false (x.g a) (x.g b))))

/-- MINH2 (R413): the signed minimum of two 16-bit lanes. -/
def execMinh2 (e : Fin 96) (d a b : Fin 32) (s : State) : Host.Outcome State Fault Refusal :=
  .next (s.engOp e (encA 0x00 d a b 0x025) maskAll 1 (fun x =>
    x.setG d (pickH2 true (x.g a) (x.g b))))

/-- SHLI (R413): a shifted by the b field, with Z and N. -/
def execShli (e : Fin 96) (d a b : Fin 32) (s : State) : Host.Outcome State Fault Refusal :=
  .next (s.engOp e (encA 0x01 d a b 0) maskAll 1 (fun x => x.putZN d (x.g a <<< b.val)))

/-- SHRI (R413): a shifted by the b field, with Z and N. -/
def execShri (e : Fin 96) (d a b : Fin 32) (s : State) : Host.Outcome State Fault Refusal :=
  .next (s.engOp e (encA 0x01 d a b 1) maskAll 1 (fun x => x.putZN d (x.g a >>> b.val)))

/-- SARI (R413): a shifted by the b field, with Z and N. -/
def execSari (e : Fin 96) (d a b : Fin 32) (s : State) : Host.Outcome State Fault Refusal :=
  .next (s.engOp e (encA 0x01 d a b 2) maskAll 1 (fun x => x.putZN d ((x.g a).sshiftRight b.val)))

/-- BFX (R413): d = a[pos + len − 1 : pos] zero-extended, with Z; bits that lie past bit 31 of a are free values. -/
def execBfx (e : Fin 96) (d a pos len1 : Fin 32) (s : State) : Host.Outcome State Fault Refusal :=
  .next (s.engRun e (encA 0x02 d a pos len1) maskAll (fun _ => 1) (fun s x =>
    let lo := wfld (x.g a) 31 0 / 2 ^ pos.val
    if pos.val + len1.val < 32 then .done s (x.putZ d (word (lo % 2 ^ (len1.val + 1))))
    else
      let up := (Config.freeDWord s.fresh).toNat * 2 ^ (32 - pos.val)
      .done s.draw (x.putZ d (word ((lo + up) % 2 ^ (len1.val + 1))))))

/-- BFI (R413): d[pos + len − 1 : pos] = a[len − 1 : 0], the other bits of d kept; bits that would lie past bit 31 of d have
no place. -/
def execBfi (e : Fin 96) (d a pos len1 : Fin 32) (s : State) : Host.Outcome State Fault Refusal :=
  .next (s.engOp e (encA 0x03 d a pos len1) maskAll 1 (fun x =>
    let m : Word := word ((2 ^ (len1.val + 1) - 1) * 2 ^ pos.val)
    x.setG d ((x.g d &&& ~~~m) ||| ((x.g a <<< pos.val) &&& m))))

/-- ADDI (R413): d = a + the sign-extended immediate, with Z, N, C and V. -/
def execAddi (e : Fin 96) (d a : Fin 32) (imm : BitVec 16) (s : State) : Host.Outcome State Fault Refusal :=
  .next (s.engOp e (encB 0x08 d a imm) maskAll 1 (fun x =>
    { x.setG d (x.g a + simm imm) with fl := x.fl.setAdd (x.g a) (simm imm) }))

/-- ANDI (R413): with the zero-extended immediate, with Z and N. -/
def execAndi (e : Fin 96) (d a : Fin 32) (imm : BitVec 16) (s : State) : Host.Outcome State Fault Refusal :=
  .next (s.engOp e (encB 0x09 d a imm) maskAll 1 (fun x =>
    x.putZN d (x.g a &&& zimm imm)))

/-- ORI (R413): with the zero-extended immediate, with Z and N. -/
def execOri (e : Fin 96) (d a : Fin 32) (imm : BitVec 16) (s : State) : Host.Outcome State Fault Refusal :=
  .next (s.engOp e (encB 0x0A d a imm) maskAll 1 (fun x =>
    x.putZN d (x.g a ||| zimm imm)))

/-- XORI (R413): with the zero-extended immediate, with Z and N. -/
def execXori (e : Fin 96) (d a : Fin 32) (imm : BitVec 16) (s : State) : Host.Outcome State Fault Refusal :=
  .next (s.engOp e (encB 0x0B d a imm) maskAll 1 (fun x =>
    x.putZN d (x.g a ^^^ zimm imm)))

/-- LUI (R413): d = the immediate × 2^16. -/
def execLui (e : Fin 96) (d : Fin 32) (imm : BitVec 16) (s : State) : Host.Outcome State Fault Refusal :=
  .next (s.engOp e (encB 0x0C d 0 imm) maskDI 1 (fun x => x.setG d (zimm imm <<< 16)))

/-- SLTUI (R413): d = 1 when a is below the zero-extended immediate, unsigned, with Z. -/
def execSltui (e : Fin 96) (d a : Fin 32) (imm : BitVec 16) (s : State) : Host.Outcome State Fault Refusal :=
  .next (s.engOp e (encB 0x0D d a imm) maskAll 1 (fun x =>
    x.putZ d (bool32 ((x.g a).ult (zimm imm)))))

/-- SLTI (R413): d = 1 when a is below the sign-extended immediate, signed, with Z. -/
def execSlti (e : Fin 96) (d a : Fin 32) (imm : BitVec 16) (s : State) : Host.Outcome State Fault Refusal :=
  .next (s.engOp e (encB 0x0E d a imm) maskAll 1 (fun x =>
    x.putZ d (bool32 ((x.g a).slt (simm imm)))))

end Sys2Proof.Machine
end

