-- ==== Sys2Proof/Machine/Startup.lean ====
section
/-!
DEFINITION. The start-up sequence: configuration copies, register records, memory fill, identities and the end of
initialisation (R639 to R652, R505, R628, R634).
-/
namespace Sys2Proof.Machine

/-- A refused register record is counted, and the first one gives its image offset (R649). -/
def State.recFail (s : State) (off : Nat) : State :=
  let s := if s.fld Reg.cfgRec 31 16 = 0 then s.wr Reg.cfgFailOff (word off) else s
  (s.incFSat Reg.cfgRec 31 16).raise Pg.cfg 0x8

/-- A page reset under way is complete before the next record reaches its page (R94, R649). -/
def State.settlePage (s : State) (p : Nat) : State := if s.srst p then s.pageResetDone p else s

/-- CFG_REC_WRITE (R649): steward `b` writes `v` to `addr`; a write refused or discarded is counted. -/
def State.cfgRecWrite (s : State) (b : Fin 2) (addr : Nat) (v : Word) (off : Nat) : State :=
  let p := ownPage (addr / 0x1000)
  let lost := !s.pageExists (addr / 0x1000) || decide (addr % 4 ≠ 0) || !s.mayWrite .stw addr ||
    (!ctrlHeld addr && s.fab.inReset.getLsbD (islandOf addr))
  let s := s.settlePage p
  if lost then (s.reqWrite (.steward b) addr v).recFail off
  else if addr = Reg.sticky p then s.reqWrite (.steward b) addr v
  else
    let was := s.flag (Reg.sticky p) 0
    let s := (s.setFlag (Reg.sticky p) 0 false).reqWrite (.steward b) addr v
    let bad := s.flag (Reg.sticky p) 0
    let s := if was then s.setFlag (Reg.sticky p) 0 true else s
    (if bad then s.recFail off else s).settlePage p

/-- CFG_REC_LOCK (R649). -/
def State.cfgRecLock (s : State) (p : Nat) : State :=
  if decide (p < 0x100) && s.pageExists p then s.setFlag (Reg.pageCtl p) 2 true else s

/-- CFG_REC_FIXED (R649, R100): the page is FIXED, whoever held it. -/
def State.cfgRecFixed (s : State) (p : Nat) : State :=
  if decide (p < 0x100) && s.pageExists p then
    let own := s.fab.own.filter (fun e => decide (e.1 ≠ p))
    let ps := if p ∈ s.fab.cfgFixed then s.fab.cfgFixed else p :: s.fab.cfgFixed
    { s with fab := { s.fab with own := own, cfgFixed := ps } }
  else s

/-- CFG_REC_WAIT (R649): `v` µs pass. -/
def State.cfgRecWait (s : State) (v : Nat) : State := s.elapse (s.time.up + v * 2000)

/-- One register record, at image offset `off` (R649). -/
def State.cfgRec (s : State) (b : Fin 2) (w0 w1 : Word) (off : Nat) : State :=
  let p := wfld w0 23 12
  match wfld w0 31 24 with
  | 1 => s.cfgRecWrite b (p * 0x1000 + wfld w0 11 0) w1 off
  | 2 => s.cfgRecLock p
  | 3 => s.cfgRecFixed p
  | 4 => s.cfgRecWait w1.toNat
  | _ => s

/-- `n` register records from image offset `off` on, as long as steward `b` stays ACTIVE (R649). -/
def State.cfgRecs (s : State) (b : Fin 2) (bs : List Byte) : Nat → Nat → State
  | 0, _ => s
  | n + 1, off =>
    if s.activeStw = some b.val then
      (s.cfgRec b (word (flashNat bs off 4)) (word (flashNat bs (off + 4) 4)) off).cfgRecs b bs n (off + 8)
    else s

/-- Where the PMBUS entries of an image put rail 0 when its last such entry enables re-planning (R647, R710). -/
def pmbusRail (bs : List Byte) (off : Nat) : Nat → Option (Nat × Nat) → Option (Nat × Nat)
  | 0, r => r
  | n + 1, r =>
    let r := if flashNat bs off 1 = 0 then
        if flashNat bs (off + 3) 1 % 2 = 1 then some (flashNat bs (off + 1) 1 % 128, flashNat bs (off + 2) 1) else none
      else r
    pmbusRail bs (off + 4) n r

/-- One section of the image is applied (R647, R648). -/
def State.cfgSection (s : State) (b : Fin 2) (bs : List Byte) (x : Section) : State :=
  let off := x.2.2.1
  let len := x.2.2.2
  match x.1 with
  | 2 => s.cfgRecs b bs (len / 8) off
  | 3 => { s with age := { s.age with rail0 := pmbusRail bs off (len / 4) s.age.rail0 } }
  | _ => s

/-- The sections that firmware of settings format `fmt` applies (R648). -/
def applied (bs : List Byte) (fmt : Nat) : List Section :=
  ((sectionsOf bs).getD []).filter (fun x => decide (x.2.1 = 0) || decide (x.2.1 = fmt))

/-- The SRAM units that a list of sections assigns: those of its last SRAM_MAP (R505, R647). -/
def sramUnits (bs : List Byte) (xs : List Section) : Nat → Bool :=
  match (xs.filter (fun x => decide (x.1 = 1))).getLast? with
  | some x => fun u => decide (flashNat bs (x.2.2.1 + u) 1 ≠ 0)
  | none => fun _ => false

/-- The memories are filled (R505). -/
def State.cfgFill (s : State) (unit : Nat → Bool) : State :=
  let s := (List.range 768).foldl (fun s u =>
    s.smFill 0 (u * 0x10000) ((u + 1) * 0x10000) (if unit u then some 0 else none)) s
  (List.range 24).foldl (fun s i => s.smFill (i + 1) 0 (memSize (i + 1)) (some 0)) s

/-- A configuration copy is read and checked: its cause and SEQ, and the signal of a failure (R650). -/
def State.cfgCheck (s : State) (c : Nat) (readOk : Bool) : State :=
  let bs := flashRegion s.upd.flash c
  let cause := s.cfgCause readOk bs s.runFmt
  let s := s.setF Reg.cfgStatus (4 * c + 7) (4 * c + 4) cause
  let s := s.wr (Reg.cfgSeq c) (if readOk then word (flashNat bs 16 4) else 0)
  if cause ≠ 0 then (s.raise Pg.cfg 0x2).stick Pg.cfg 0x10000 else s

/-- The copy that is used, once both have been checked; none for the factory defaults (R651, R652). -/
def State.cfgChoice (s : State) : Option Nat :=
  let ok0 := decide (s.fld Reg.cfgStatus 7 4 = 0)
  let ok1 := decide (s.fld Reg.cfgStatus 11 8 = 0)
  if ok0 && ok1 then some (if laterSeq (s.nat (Reg.cfgSeq 1)) (s.nat (Reg.cfgSeq 0)) then 1 else 0)
  else if ok0 then some 0
  else if ok1 then some 1
  else none

/-- The registers of the CFG page for copy `c` in use (R639, R647). -/
def State.cfgShow (s : State) (c : Nat) (bs : List Byte) (fmt : Nat) : State :=
  let s := s.setF Reg.cfgStatus 13 12 c
  let s := s.wr Reg.cfgImageVer (word (flashNat bs 20 4))
  let s := s.wr Reg.cfgCheck (word (flashNat bs (cfgLength bs - 4) 4))
  s.wr Reg.cfgFmt (word (flashNat bs 14 2 * 65536 + fmt))

/-- The factory defaults are in use (R652). -/
def State.cfgDefaults (s : State) : State :=
  let s := (s.setF Reg.cfgStatus 13 12 2).setFlag Reg.sysStatus 0 true
  (s.raise Pg.cfg 0x4).stick Pg.cfg 0x20000

/-- The end of the start-up sequence, its memories filled and its identities read (R639, R645, R656, R716). -/
def State.cfgFinish (s : State) (startMode vout : Nat) : State :=
  let s := s.wr Reg.cfgTInit (word ((s.time.up - s.upd.releaseAt) / 2000))
  let s := ((s.setPhase 6).setFlag Reg.cfgStatus 31 true).raise Pg.cfg 0x1
  let s := if s.flag Reg.updBanks 9 then s else s.setFlag Reg.sysStatus 6 true
  let s := s.setF Reg.ageCore 31 16 vout
  let s := { s with age := { s.age with setpt := vout } }
  let s := s.laneRelease
  if startMode = 1 then s.hostWrite .stw Reg.modeReq 1 (fun s => s.pageEffect .stw Reg.modeReq 1) else s

/-- Both configuration copies are read and checked (R639, R650). -/
def State.cfgRead (s : State) (x : StartupData) : State :=
  let idOk := decide (x.flashId ≠ 0) && decide (x.flashId ≠ 0xFFFFFF)
  let s := s.wr Reg.cfgFlashId (word x.flashId.toNat)
  ((s.cfgCheck 0 (x.readOk0 && idOk)).cfgCheck 1 (x.readOk1 && idOk)).setPhase 3

/-- The configuration has been applied: OWN, STW and GUARD lock, and the memories that `fill` names are filled (R505, R639). -/
def State.cfgApplied (s : State) (fill : Nat → Bool) : State :=
  let s := ((s.setFlag (Reg.pageCtl Pg.own) 2 true).setFlag (Reg.pageCtl Pg.stw) 2 true).setFlag (Reg.pageCtl Pg.guard) 2 true
  let s := { s with fab := { s.fab with cfgRetry := false } }
  ((s.setPhase 4).cfgFill fill).setPhase 5

/-- The start-up sequence of the ACTIVE steward `b` (R639, R644). -/
def State.startup (s : State) (b : Fin 2) (x : StartupData) : State :=
  let s := s.cfgRead x
  let choice := s.cfgChoice
  let fmt := s.runFmt.getD 0
  let bs := match choice with
    | some c => flashRegion s.upd.flash c
    | none => []
  let xs := match choice with
    | some _ => applied bs fmt
    | none => []
  let s := match choice with
    | some c => s.cfgShow c bs fmt
    | none => s.cfgDefaults
  let s := xs.foldl (fun s x => s.cfgSection b bs x) s
  if s.activeStw ≠ some b.val then s
  else
    let s := s.cfgApplied (if choice.isSome then sramUnits bs xs else fun _ => true)
    let s := s.elapse (s.time.up + x.ticks)
    let s := (s.wr Reg.idmCmd 0x8000FFFF).updStw (fun y => { y with idm := 0xFFFF })
    let s := s.idmDone x.idm
    s.cfgFinish (if choice.isSome then flashNat bs 34 1 else 0) x.vout

/-- STARTUP_SEQUENCE (R639): the ACTIVE steward runs it once after a warm or power-on reset. -/
def execStartupSequence (x : StartupData) (s : State) : Host.Outcome State Fault Refusal :=
  .next (match s.activeStw with
    | some 0 => if s.flag Reg.cfgStatus 31 then s else s.startup 0 x
    | some _ => if s.flag Reg.cfgStatus 31 then s else s.startup 1 x
    | none => s)

end Sys2Proof.Machine
end

