-- ==== Sys2Proof/Machine/Dispatch.lean ====
section
/-!
DEFINITION. The dispatch: one arm per command of the opcode table.
-/
namespace Sys2Proof.Machine

/-- The effect of one command on everything but the queue of waiting commands. -/
def exec (i : Instr) (s : State) : Host.Outcome State Fault Refusal :=
  match i with
  | .registerWrite r addr v => Sys2Proof.Machine.execRegisterWrite r addr v s
  | .readLoLatchHi r addr => Sys2Proof.Machine.execReadLoLatchHi r addr s
  | .stoppedIslandRead r addr => Sys2Proof.Machine.execStoppedIslandRead r addr s
  | .crossingClockReturn isl => Sys2Proof.Machine.execCrossingClockReturn isl s
  | .crossingReopen isl => Sys2Proof.Machine.execCrossingReopen isl s
  | .pageReset d page => Sys2Proof.Machine.execPageReset d page s
  | .pageResetComplete page => Sys2Proof.Machine.execPageResetComplete page s
  | .pageLock d page => Sys2Proof.Machine.execPageLock d page s
  | .intForce d page v => Sys2Proof.Machine.execIntForce d page v s
  | .powerOnReset => Sys2Proof.Machine.execPowerOnReset s
  | .wrstNReset => Sys2Proof.Machine.execWrstNReset s
  | .sysResetWrite d v => Sys2Proof.Machine.execSysResetWrite d v s
  | .brownout => Sys2Proof.Machine.execBrownout s
  | .islandReset d v => Sys2Proof.Machine.execIslandReset d v s
  | .clockCheckFail isl => Sys2Proof.Machine.execClockCheckFail isl s
  | .islandResetEnd isl => Sys2Proof.Machine.execIslandResetEnd isl s
  | .pcieHotReset p => Sys2Proof.Machine.execPcieHotReset p s
  | .pcieLinkDown p => Sys2Proof.Machine.execPcieLinkDown p s
  | .pcieLinkReturn p width speed reversed => Sys2Proof.Machine.execPcieLinkReturn p width speed reversed s
  | .pciePowerState p d3 => Sys2Proof.Machine.execPciePowerState p d3 s
  | .bar0MalformedAccess p isWrite off => Sys2Proof.Machine.execBar0MalformedAccess p isWrite off s
  | .barMemoryRead p bar4 addr len => Sys2Proof.Machine.execBarMemoryRead p bar4 addr len s
  | .barMemoryWrite p bar4 addr data => Sys2Proof.Machine.execBarMemoryWrite p bar4 addr data s
  | .claim d v => Sys2Proof.Machine.execClaim d v s
  | .release d v => Sys2Proof.Machine.execRelease d v s
  | .revoke d v => Sys2Proof.Machine.execRevoke d v s
  | .downlinkAbsenceRevoke => Sys2Proof.Machine.execDownlinkAbsenceRevoke s
  | .snap d v => Sys2Proof.Machine.execSnap d v s
  | .msixSend p vec => Sys2Proof.Machine.execMsixSend p vec s
  | .eoi d p v => Sys2Proof.Machine.execEoi d p v s
  | .msixUnmask p ch => Sys2Proof.Machine.execMsixUnmask p ch s
  | .modeReq d v => Sys2Proof.Machine.execModeReq d v s
  | .modeCancel d v => Sys2Proof.Machine.execModeCancel d v s
  | .modeChange => Sys2Proof.Machine.execModeChange s
  | .umbraIdlePrepComplete => Sys2Proof.Machine.execUmbraIdlePrepComplete s
  | .fatalCauseEnd cause => Sys2Proof.Machine.execFatalCauseEnd cause s
  | .frameStart hubVotes tileVotes => Sys2Proof.Machine.execFrameStart hubVotes tileVotes s
  | .pllFirstLock slot fuseEn flash => Sys2Proof.Machine.execPllFirstLock slot fuseEn flash s
  | .xtalStart => Sys2Proof.Machine.execXtalStart s
  | .xtalFail => Sys2Proof.Machine.execXtalFail s
  | .refLost => Sys2Proof.Machine.execRefLost s
  | .refReturn => Sys2Proof.Machine.execRefReturn s
  | .refQualifyTimeout => Sys2Proof.Machine.execRefQualifyTimeout s
  | .spreadReport depth form offset => Sys2Proof.Machine.execSpreadReport depth form offset s
  | .xratioWindow ratio refInRange => Sys2Proof.Machine.execXratioWindow ratio refInRange s
  | .xadjWrite d v => Sys2Proof.Machine.execXadjWrite d v s
  | .wincLoWrite d v => Sys2Proof.Machine.execWincLoWrite d v s
  | .wincHiWrite d v => Sys2Proof.Machine.execWincHiWrite d v s
  | .wstepSchedule d v => Sys2Proof.Machine.execWstepSchedule d v s
  | .wtimeLoad => Sys2Proof.Machine.execWtimeLoad s
  | .compareArm d inst v => Sys2Proof.Machine.execCompareArm d inst v s
  | .compareFire inst => Sys2Proof.Machine.execCompareFire inst s
  | .timeOutPulseEnd => Sys2Proof.Machine.execTimeOutPulseEnd s
  | .capHiRead r inst => Sys2Proof.Machine.execCapHiRead r inst s
  | .auxEdge line tick bin high => Sys2Proof.Machine.execAuxEdge line tick bin high s
  | .tiuOverflow u => Sys2Proof.Machine.execTiuOverflow u s
  | .tiuResHiRead r u => Sys2Proof.Machine.execTiuResHiRead r u s
  | .tiuCtlWrite d u v => Sys2Proof.Machine.execTiuCtlWrite d u v s
  | .thlLeadingEdge t c tick raw => Sys2Proof.Machine.execThlLeadingEdge t c tick raw s
  | .thuLeadingEdge t c tick raw => Sys2Proof.Machine.execThuLeadingEdge t c tick raw s
  | .thlTrailingEdge t c tick raw => Sys2Proof.Machine.execThlTrailingEdge t c tick raw s
  | .overlengthClose t c => Sys2Proof.Machine.execOverlengthClose t c s
  | .condTimeout t c => Sys2Proof.Machine.execCondTimeout t c s
  | .hitRelease t c => Sys2Proof.Machine.execHitRelease t c s
  | .quenchWindowEnd t c => Sys2Proof.Machine.execQuenchWindowEnd t c s
  | .qclr d t c v lost => Sys2Proof.Machine.execQclr d t c v lost s
  | .qwinChange d t c v => Sys2Proof.Machine.execQwinChange d t c v s
  | .tileCtlWrite d t v => Sys2Proof.Machine.execTileCtlWrite d t v s
  | .injectionPulse t => Sys2Proof.Machine.execInjectionPulse t s
  | .tileSwitchOn t => Sys2Proof.Machine.execTileSwitchOn t s
  | .tileAnswer t => Sys2Proof.Machine.execTileAnswer t s
  | .tileAnswerTimeout t => Sys2Proof.Machine.execTileAnswerTimeout t s
  | .tileReadbackCheck t check => Sys2Proof.Machine.execTileReadbackCheck t check s
  | .tileOvercurrent t => Sys2Proof.Machine.execTileOvercurrent t s
  | .sourceRunRequest d t v => Sys2Proof.Machine.execSourceRunRequest d t v s
  | .sourceRunComplete t hists => Sys2Proof.Machine.execSourceRunComplete t hists s
  | .bgHistogramComplete t k hist => Sys2Proof.Machine.execBgHistogramComplete t k hist s
  | .tileFrameClose t => Sys2Proof.Machine.execTileFrameClose t s
  | .tileCommand t first second => Sys2Proof.Machine.execTileCommand t first second s
  | .tileLinkBlock t lane err => Sys2Proof.Machine.execTileLinkBlock t lane err s
  | .laneBlockLock t lock => Sys2Proof.Machine.execLaneBlockLock t lock s
  | .laneLockLoss t lane headers => Sys2Proof.Machine.execLaneLockLoss t lane headers s
  | .linkHuntTimeout t => Sys2Proof.Machine.execLinkHuntTimeout t s
  | .linkRestripe t => Sys2Proof.Machine.execLinkRestripe t s
  | .laneReturnTimer t => Sys2Proof.Machine.execLaneReturnTimer t s
  | .laneDisWrite d t v => Sys2Proof.Machine.execLaneDisWrite d t v s
  | .frameHeaderRx b => Sys2Proof.Machine.execFrameHeaderRx b s
  | .countBlockRx b => Sys2Proof.Machine.execCountBlockRx b s
  | .intakeCloseDeadline t => Sys2Proof.Machine.execIntakeCloseDeadline t s
  | .hitWordIntake => Sys2Proof.Machine.execHitWordIntake s
  | .fastPathReport tick parityErr => Sys2Proof.Machine.execFastPathReport tick parityErr s
  | .tpBlockSend => Sys2Proof.Machine.execTpBlockSend s
  | .tpFrameMarker => Sys2Proof.Machine.execTpFrameMarker s
  | .hostAccept d v => Sys2Proof.Machine.execHostAccept d v s
  | .acceptArrive src => Sys2Proof.Machine.execAcceptArrive src s
  | .acceptRoute => Sys2Proof.Machine.execAcceptRoute s
  | .lringExpire => Sys2Proof.Machine.execLringExpire s
  | .lringServe => Sys2Proof.Machine.execLringServe s
  | .hampWindowEnd => Sys2Proof.Machine.execHampWindowEnd s
  | .hampRearm => Sys2Proof.Machine.execHampRearm s
  | .hampRecordComplete => Sys2Proof.Machine.execHampRecordComplete s
  | .hampHoldWrite d v => Sys2Proof.Machine.execHampHoldWrite d v s
  | .hampRelease d v => Sys2Proof.Machine.execHampRelease d v s
  | .tailPageTimeout t => Sys2Proof.Machine.execTailPageTimeout t s
  | .tailFreezeGo d v => Sys2Proof.Machine.execTailFreezeGo d v s
  | .tailAlert => Sys2Proof.Machine.execTailAlert s
  | .tailSlotHeld inst => Sys2Proof.Machine.execTailSlotHeld inst s
  | .tailSlotRelease d inst v => Sys2Proof.Machine.execTailSlotRelease d inst v s
  | .tailExtractRequest d v => Sys2Proof.Machine.execTailExtractRequest d v s
  | .tailExtract => Sys2Proof.Machine.execTailExtract s
  | .tailExtractDone => Sys2Proof.Machine.execTailExtractDone s
  | .rleInput key => Sys2Proof.Machine.execRleInput key s
  | .rleStreamEnd key => Sys2Proof.Machine.execRleStreamEnd key s
  | .dispatchWord j => Sys2Proof.Machine.execDispatchWord j s
  | .dispatchMarker j => Sys2Proof.Machine.execDispatchMarker j s
  | .engineStartCutoff e => Sys2Proof.Machine.execEngineStartCutoff e s
  | .engineCutoff e => Sys2Proof.Machine.execEngineCutoff e s
  | .add e d a b => Sys2Proof.Machine.execAdd e d a b s
  | .sub e d a b => Sys2Proof.Machine.execSub e d a b s
  | .and e d a b => Sys2Proof.Machine.execAnd e d a b s
  | .or e d a b => Sys2Proof.Machine.execOr e d a b s
  | .xor e d a b => Sys2Proof.Machine.execXor e d a b s
  | .shl e d a b => Sys2Proof.Machine.execShl e d a b s
  | .shr e d a b => Sys2Proof.Machine.execShr e d a b s
  | .sar e d a b => Sys2Proof.Machine.execSar e d a b s
  | .min e d a b => Sys2Proof.Machine.execMin e d a b s
  | .max e d a b => Sys2Proof.Machine.execMax e d a b s
  | .adds e d a b => Sys2Proof.Machine.execAdds e d a b s
  | .subs e d a b => Sys2Proof.Machine.execSubs e d a b s
  | .slt e d a b => Sys2Proof.Machine.execSlt e d a b s
  | .sltu e d a b => Sys2Proof.Machine.execSltu e d a b s
  | .mul e d a b => Sys2Proof.Machine.execMul e d a b s
  | .addh2s e d a b => Sys2Proof.Machine.execAddh2s e d a b s
  | .subh2s e d a b => Sys2Proof.Machine.execSubh2s e d a b s
  | .addb4u e d a b => Sys2Proof.Machine.execAddb4u e d a b s
  | .subb4u e d a b => Sys2Proof.Machine.execSubb4u e d a b s
  | .maxh2 e d a b => Sys2Proof.Machine.execMaxh2 e d a b s
  | .minh2 e d a b => Sys2Proof.Machine.execMinh2 e d a b s
  | .shli e d a b => Sys2Proof.Machine.execShli e d a b s
  | .shri e d a b => Sys2Proof.Machine.execShri e d a b s
  | .sari e d a b => Sys2Proof.Machine.execSari e d a b s
  | .bfx e d a pos len1 => Sys2Proof.Machine.execBfx e d a pos len1 s
  | .bfi e d a pos len1 => Sys2Proof.Machine.execBfi e d a pos len1 s
  | .addi e d a imm => Sys2Proof.Machine.execAddi e d a imm s
  | .andi e d a imm => Sys2Proof.Machine.execAndi e d a imm s
  | .ori e d a imm => Sys2Proof.Machine.execOri e d a imm s
  | .xori e d a imm => Sys2Proof.Machine.execXori e d a imm s
  | .lui e d imm => Sys2Proof.Machine.execLui e d imm s
  | .sltui e d a imm => Sys2Proof.Machine.execSltui e d a imm s
  | .slti e d a imm => Sys2Proof.Machine.execSlti e d a imm s
  | .ldw e d a imm => Sys2Proof.Machine.execLdw e d a imm s
  | .ldh e d a imm => Sys2Proof.Machine.execLdh e d a imm s
  | .ldhu e d a imm => Sys2Proof.Machine.execLdhu e d a imm s
  | .ldb e d a imm => Sys2Proof.Machine.execLdb e d a imm s
  | .ldd e d a imm => Sys2Proof.Machine.execLdd e d a imm s
  | .ldhx e d a => Sys2Proof.Machine.execLdhx e d a s
  | .ldwx e d a => Sys2Proof.Machine.execLdwx e d a s
  | .stw e d a imm => Sys2Proof.Machine.execStw e d a imm s
  | .sth e d a imm => Sys2Proof.Machine.execSth e d a imm s
  | .stb e d a imm => Sys2Proof.Machine.execStb e d a imm s
  | .std e d a imm => Sys2Proof.Machine.execStd e d a imm s
  | .amoadd e d a b => Sys2Proof.Machine.execAmoadd e d a b s
  | .br e cond disp => Sys2Proof.Machine.execBr e cond disp s
  | .call e disp => Sys2Proof.Machine.execCall e disp s
  | .ret e => Sys2Proof.Machine.execRet e s
  | .hitget e d => Sys2Proof.Machine.execHitget e d s
  | .hitput e a b => Sys2Proof.Machine.execHitput e a b s
  | .emit e d a b => Sys2Proof.Machine.execEmit e d a b s
  | .movs e d a => Sys2Proof.Machine.execMovs e d a s
  | .movk e d => Sys2Proof.Machine.execMovk e d s
  | .tfull e d a => Sys2Proof.Machine.execTfull e d a s
  | .tsub e d a b => Sys2Proof.Machine.execTsub e d a b s
  | .walk e d a b => Sys2Proof.Machine.execWalk e d a b s
  | .near e d a b => Sys2Proof.Machine.execNear e d a b s
  | .hfld e d a b => Sys2Proof.Machine.execHfld e d a b s
  | .acc e a imm => Sys2Proof.Machine.execAcc e a imm s
  | .alrt e a imm => Sys2Proof.Machine.execAlrt e a imm s
  | .engineLoad d n v => Sys2Proof.Machine.execEngineLoad d n v s
  | .engineLoadDone n => Sys2Proof.Machine.execEngineLoadDone n s
  | .memDataAccess r n w => Sys2Proof.Machine.execMemDataAccess r n w s
  | .eventComplete tag => Sys2Proof.Machine.execEventComplete tag s
  | .eventForced tag => Sys2Proof.Machine.execEventForced tag s
  | .eventAdmit tag => Sys2Proof.Machine.execEventAdmit tag s
  | .laneEventSend g => Sys2Proof.Machine.execLaneEventSend g s
  | .queueEnable d q v => Sys2Proof.Machine.execQueueEnable d q v s
  | .queueDisable d q v => Sys2Proof.Machine.execQueueDisable d q v s
  | .queueFlush d q v => Sys2Proof.Machine.execQueueFlush d q v s
  | .queuePacket q => Sys2Proof.Machine.execQueuePacket q s
  | .consBlockRead q ok grant done epoch => Sys2Proof.Machine.execConsBlockRead q ok grant done epoch s
  | .queueIrqTimer q => Sys2Proof.Machine.execQueueIrqTimer q s
  | .cmdDoorbell p c v => Sys2Proof.Machine.execCmdDoorbell p c v s
  | .cmdWrite c => Sys2Proof.Machine.execCmdWrite c s
  | .cmdRead c => Sys2Proof.Machine.execCmdRead c s
  | .cmdFence c => Sys2Proof.Machine.execCmdFence c s
  | .cmdCreditUpdate c ok => Sys2Proof.Machine.execCmdCreditUpdate c ok s
  | .dlDlm locked => Sys2Proof.Machine.execDlDlm locked s
  | .dlIdle => Sys2Proof.Machine.execDlIdle s
  | .dlSyncHi hi => Sys2Proof.Machine.execDlSyncHi hi s
  | .dlSync lo => Sys2Proof.Machine.execDlSync lo s
  | .dlAccept id tick => Sys2Proof.Machine.execDlAccept id tick s
  | .dlAlert code tick => Sys2Proof.Machine.execDlAlert code tick s
  | .bitslip lane => Sys2Proof.Machine.execBitslip lane s
  | .dlRetrain lane => Sys2Proof.Machine.execDlRetrain lane s
  | .cmdWr addr v => Sys2Proof.Machine.execCmdWr addr v s
  | .cmdRd addr tag => Sys2Proof.Machine.execCmdRd addr tag s
  | .bwr addr => Sys2Proof.Machine.execBwr addr s
  | .bwrData data => Sys2Proof.Machine.execBwrData data s
  | .dlSuperframeDeliver copy => Sys2Proof.Machine.execDlSuperframeDeliver copy s
  | .drxAligned n sfc => Sys2Proof.Machine.execDrxAligned n sfc s
  | .drxAlignLoss n lockLost headers => Sys2Proof.Machine.execDrxAlignLoss n lockLost headers s
  | .drxScan d n v => Sys2Proof.Machine.execDrxScan d n v s
  | .drxScanDone n errors => Sys2Proof.Machine.execDrxScanDone n errors s
  | .laneEnWrite d v => Sys2Proof.Machine.execLaneEnWrite d v s
  | .utxSerialiserLock n => Sys2Proof.Machine.execUtxSerialiserLock n s
  | .utxTrainTimeout n => Sys2Proof.Machine.execUtxTrainTimeout n s
  | .utxWaitTimeout n => Sys2Proof.Machine.execUtxWaitTimeout n s
  | .utxParkRetry n => Sys2Proof.Machine.execUtxParkRetry n s
  | .utxBlindTimeout n => Sys2Proof.Machine.execUtxBlindTimeout n s
  | .utxTxFault n => Sys2Proof.Machine.execUtxTxFault n s
  | .utxCmdRetrain d n v => Sys2Proof.Machine.execUtxCmdRetrain d n v s
  | .groupRestripe g => Sys2Proof.Machine.execGroupRestripe g s
  | .compatWrite d v => Sys2Proof.Machine.execCompatWrite d v s
  | .scrubCheck d v => Sys2Proof.Machine.execScrubCheck d v s
  | .scrubScrub d v => Sys2Proof.Machine.execScrubScrub d v s
  | .scrubFill d v => Sys2Proof.Machine.execScrubFill d v s
  | .scrubDone ticks => Sys2Proof.Machine.execScrubDone ticks s
  | .bucketLeak k => Sys2Proof.Machine.execBucketLeak k s
  | .seccInjectArm d v => Sys2Proof.Machine.execSeccInjectArm d v s
  | .deccInjectArm d v => Sys2Proof.Machine.execDeccInjectArm d v s
  | .remapWrite d r v => Sys2Proof.Machine.execRemapWrite d r v s
  | .retireLoad d v => Sys2Proof.Machine.execRetireLoad d v s
  | .retireAdd d v => Sys2Proof.Machine.execRetireAdd d v s
  | .converterEnable d c v => Sys2Proof.Machine.execConverterEnable d c v s
  | .converterTrigger => Sys2Proof.Machine.execConverterTrigger s
  | .conversionComplete c x overload => Sys2Proof.Machine.execConversionComplete c x overload s
  | .excChange d v => Sys2Proof.Machine.execExcChange d v s
  | .excCurrentLimit k entered => Sys2Proof.Machine.execExcCurrentLimit k entered s
  | .blankStart => Sys2Proof.Machine.execBlankStart s
  | .blankEnd => Sys2Proof.Machine.execBlankEnd s
  | .dmaRecordWrite ok => Sys2Proof.Machine.execDmaRecordWrite ok s
  | .servoCycle => Sys2Proof.Machine.execServoCycle s
  | .servoLoopEnable d l v => Sys2Proof.Machine.execServoLoopEnable d l v s
  | .servoLoopDisable d l v => Sys2Proof.Machine.execServoLoopDisable d l v s
  | .servoHold d l v => Sys2Proof.Machine.execServoHold d l v s
  | .servoResume d l v => Sys2Proof.Machine.execServoResume d l v s
  | .lightEnable d v => Sys2Proof.Machine.execLightEnable d v s
  | .lightRampDone => Sys2Proof.Machine.execLightRampDone s
  | .lightBoostUv => Sys2Proof.Machine.execLightBoostUv s
  | .lightFault string mv => Sys2Proof.Machine.execLightFault string mv s
  | .lightClear d v => Sys2Proof.Machine.execLightClear d v s
  | .lightClassChange w => Sys2Proof.Machine.execLightClassChange w s
  | .headroomTick volts => Sys2Proof.Machine.execHeadroomTick volts s
  | .ratioCycleEnd pd0 pd1 => Sys2Proof.Machine.execRatioCycleEnd pd0 pd1 s
  | .stwKick b v => Sys2Proof.Machine.execStwKick b v s
  | .stwWdtExpire b => Sys2Proof.Machine.execStwWdtExpire b s
  | .aluSigWrite b v => Sys2Proof.Machine.execAluSigWrite b v s
  | .aluSigTimeout b => Sys2Proof.Machine.execAluSigTimeout b s
  | .stwSelfCheckPass b => Sys2Proof.Machine.execStwSelfCheckPass b s
  | .stwStartTimeout f => Sys2Proof.Machine.execStwStartTimeout f s
  | .takeoverComplete ticks => Sys2Proof.Machine.execTakeoverComplete ticks s
  | .stwRejoin b => Sys2Proof.Machine.execStwRejoin b s
  | .stwCmdRejoin d v => Sys2Proof.Machine.execStwCmdRejoin d v s
  | .swap d v => Sys2Proof.Machine.execSwap d v s
  | .swapDoorbell p => Sys2Proof.Machine.execSwapDoorbell p s
  | .mirrorItem item mfmt seq offset data crc => Sys2Proof.Machine.execMirrorItem item mfmt seq offset data crc s
  | .mirrorAck => Sys2Proof.Machine.execMirrorAck s
  | .mirrorResync => Sys2Proof.Machine.execMirrorResync s
  | .mirrorEnd seq crc => Sys2Proof.Machine.execMirrorEnd seq crc s
  | .healthFrame b seq => Sys2Proof.Machine.execHealthFrame b seq s
  | .telemetryFrame b => Sys2Proof.Machine.execTelemetryFrame b s
  | .idmRead d v => Sys2Proof.Machine.execIdmRead d v s
  | .idmReadDone recs => Sys2Proof.Machine.execIdmReadDone recs s
  | .thermalSample hub dram tiles => Sys2Proof.Machine.execThermalSample hub dram tiles s
  | .guardFuse d v => Sys2Proof.Machine.execGuardFuse d v s
  | .guardFuseDone ok => Sys2Proof.Machine.execGuardFuseDone ok s
  | .tbusSlotTx => Sys2Proof.Machine.execTbusSlotTx s
  | .tbusTxCmd d v => Sys2Proof.Machine.execTbusTxCmd d v s
  | .tbusNullRx src ok seq f0 f1 => Sys2Proof.Machine.execTbusNullRx src ok seq f0 f1 s
  | .tbusAcceptRx src ok seq f0 f1 arg tick => Sys2Proof.Machine.execTbusAcceptRx src ok seq f0 f1 arg tick s
  | .tbusAlertRx src ok seq f0 f1 arg tick => Sys2Proof.Machine.execTbusAlertRx src ok seq f0 f1 arg tick s
  | .tbusSyncRx src ok f0 f1 field => Sys2Proof.Machine.execTbusSyncRx src ok f0 f1 field s
  | .tbusMeasureRx src ok seq f0 f1 => Sys2Proof.Machine.execTbusMeasureRx src ok seq f0 f1 s
  | .tbusMeasureReplyRx src ok seq f0 f1 slot b => Sys2Proof.Machine.execTbusMeasureReplyRx src ok seq f0 f1 slot b s
  | .tbusSenderTimeout src => Sys2Proof.Machine.execTbusSenderTimeout src s
  | .tbusCalGo w => Sys2Proof.Machine.execTbusCalGo w s
  | .tbusCalDone => Sys2Proof.Machine.execTbusCalDone s
  | .tbusCalFail => Sys2Proof.Machine.execTbusCalFail s
  | .railFault => Sys2Proof.Machine.execRailFault s
  | .startupSequence x => Sys2Proof.Machine.execStartupSequence x s
  | .updClaim d v => Sys2Proof.Machine.execUpdClaim d v s
  | .updClose d v => Sys2Proof.Machine.execUpdClose d v s
  | .updSessionTimeout => Sys2Proof.Machine.execUpdSessionTimeout s
  | .updVerify d v => Sys2Proof.Machine.execUpdVerify d v s
  | .updWrite d v => Sys2Proof.Machine.execUpdWrite d v s
  | .updErase d v => Sys2Proof.Machine.execUpdErase d v s
  | .updOpDone flashOk => Sys2Proof.Machine.execUpdOpDone flashOk s
  | .updArm d v => Sys2Proof.Machine.execUpdArm d v s
  | .updDisarm d v => Sys2Proof.Machine.execUpdDisarm d v s
  | .updPreloadTimeout => Sys2Proof.Machine.execUpdPreloadTimeout s
  | .rendezvous => Sys2Proof.Machine.execRendezvous s
  | .updConfirm d v => Sys2Proof.Machine.execUpdConfirm d v s
  | .updTrialTimeout => Sys2Proof.Machine.execUpdTrialTimeout s
  | .updFallbackStep => Sys2Proof.Machine.execUpdFallbackStep s
  | .keyFuse d v => Sys2Proof.Machine.execKeyFuse d v s
  | .keyFuseDone ok => Sys2Proof.Machine.execKeyFuseDone ok s
  | .ageCampaignGo d v m => Sys2Proof.Machine.execAgeCampaignGo d v m s
  | .ageCampaignScheduled m => Sys2Proof.Machine.execAgeCampaignScheduled m s
  | .drxBlockLock n => Sys2Proof.Machine.execDrxBlockLock n s
  | .thuTrailingEdge t c tick raw => Sys2Proof.Machine.execThuTrailingEdge t c tick raw s
  | .baselineRestorerSat t c sat => Sys2Proof.Machine.execBaselineRestorerSat t c sat s
  | .islandClockStop isl => Sys2Proof.Machine.execIslandClockStop isl s
  | .configRetryTimeout => Sys2Proof.Machine.execConfigRetryTimeout s
  | .stwMemoryError b uncorrectable => Sys2Proof.Machine.execStwMemoryError b uncorrectable s
  | .mirrorStall => Sys2Proof.Machine.execMirrorStall s
  | .tbusRxCrcFail p reservedType => Sys2Proof.Machine.execTbusRxCrcFail p reservedType s
  | .uplinkSuperframe => Sys2Proof.Machine.execUplinkSuperframe s
  | .lightPeriodStart => Sys2Proof.Machine.execLightPeriodStart s

end Sys2Proof.Machine
end

