-- ==== Sys2Proof/Machine/Step.lean ====
section
/-!
DEFINITION. One step: the command at the front of the queue, or one tick of MTIME when none waits.
-/
namespace Sys2Proof.Machine

/-- The state after an idle step: the time bases advance by one tick (a design choice of the model). -/
def State.idle (s : State) : State := s.advanceTo (s.time.mtime + 1)

/-- Takes the command at the front of the queue and answers its outcome on the rest; an empty queue lets a tick pass. -/
def step (s : State) : Host.Outcome State Fault Refusal :=
  match s.pending with
  | [] => .next s.idle
  | c :: r => exec c { s with pending := r }

/-- The state with the command that a table word spells put at the front of the queue. -/
def State.withFetchWord (s : State) (nbits w : Nat) : State :=
  match decodeTableWord nbits w with
  | some c => { s with pending := c :: s.pending }
  | none => s

end Sys2Proof.Machine
end

