-- ==== Sys2Proof/Laws/Bits.lean ====
section
/-!
SUPPORT. The laws of the sparse stores (read after write, canonical form) and of bit fields.
-/
namespace Sys2Proof.Machine

variable {α : Type}

theorem sget_sins (d : α) (k j : Nat) (v : α) (m : List (Nat × α)) :
    sget d j (sins k v m) = if j = k then v else sget d j m := by
  by_cases h : j = k
  · subst h
    rw [if_pos rfl]
    induction m with
    | nil => simp [sins, sget]
    | cons e r ih =>
      unfold sins
      split
      · simp [sget]
      · split
        · simp [sget]
        · rename_i h2
          simp only [sget, if_neg h2, ih]
  · rw [if_neg h]
    have h' : ¬ k = j := fun hh => h hh.symm
    induction m with
    | nil => simp [sins, sget, h']
    | cons e r ih =>
      unfold sins
      split
      · simp [sget, h']
      · split
        · rename_i h2
          simp only [sget, if_neg h', h2]
        · simp only [sget, ih]

theorem sget_filter_ne (d : α) (k j : Nat) (m : List (Nat × α)) (h : j ≠ k) :
    sget d j (m.filter (fun p => p.1 ≠ k)) = sget d j m := by
  induction m with
  | nil => rfl
  | cons e r ih =>
    obtain ⟨k', v'⟩ := e
    by_cases hk : k' = k
    · subst hk
      simp only [List.filter, ne_eq, not_true, decide_false, sget]
      rw [if_neg (fun hh => h hh.symm)]
      simpa using ih
    · simp only [List.filter, ne_eq, hk, not_false_eq_true, decide_true, sget]
      split <;> simp_all

theorem sget_filter_same (d : α) (k : Nat) (m : List (Nat × α)) :
    sget d k (m.filter (fun p => p.1 ≠ k)) = d := by
  induction m with
  | nil => rfl
  | cons e r ih =>
    obtain ⟨k', v'⟩ := e
    by_cases hk : k' = k
    · subst hk; simpa [List.filter] using ih
    · simp only [List.filter, ne_eq, hk, not_false_eq_true, decide_true, sget]
      simpa using ih

/-- Read after write at the same key. -/
@[simp] theorem sget_sset_same [DecidableEq α] (d : α) (k : Nat) (v : α) (m : List (Nat × α)) :
    sget d k (sset d k v m) = v := by
  unfold sset
  split
  · rename_i h; subst h; exact sget_filter_same _ _ _
  · simp [sget_sins]

/-- A write leaves every other key alone, whatever their defaults. -/
@[simp] theorem sget_sset_other [DecidableEq α] (d d' : α) (k j : Nat) (v : α) (m : List (Nat × α)) (h : j ≠ k) :
    sget d' j (sset d k v m) = sget d' j m := by
  unfold sset
  split
  · exact sget_filter_ne _ _ _ _ h
  · rw [sget_sins, if_neg h]

theorem swf_cons [DecidableEq α] (d : Nat → α) (e : Nat × α) (r : List (Nat × α)) :
    swf d (e :: r) = true ↔ (∀ f ∈ r, e.1 < f.1) ∧ e.2 ≠ d e.1 ∧ swf d r = true := by
  induction r generalizing e with
  | nil => simp [swf]
  | cons f r ih =>
    obtain ⟨k, v⟩ := e
    obtain ⟨k', v'⟩ := f
    simp only [swf, Bool.and_eq_true, decide_eq_true_eq]
    rw [ih]
    constructor
    · rintro ⟨⟨h1, h2⟩, h3, h4, h5⟩
      refine ⟨?_, h2, h3, h4, h5⟩
      intro f hf
      rcases List.mem_cons.1 hf with rfl | hf
      · exact h1
      · exact lt_trans h1 (h3 f hf)
    · rintro ⟨h1, h2, h3, h4, h5⟩
      exact ⟨⟨h1 _ (List.mem_cons_self ..), h2⟩, h3, h4, h5⟩

/-- Dropping entries keeps the canonical form. -/
theorem swf_filter [DecidableEq α] (d : Nat → α) (p : Nat × α → Bool) (m : List (Nat × α)) (h : swf d m = true) :
    swf d (m.filter p) = true := by
  induction m with
  | nil => rfl
  | cons e r ih =>
    rw [swf_cons] at h
    rw [List.filter_cons]
    split
    · rw [swf_cons]
      exact ⟨fun f hf => h.1 f (List.mem_filter.1 hf).1, h.2.1, ih h.2.2⟩
    · exact ih h.2.2

theorem mem_sins (k : Nat) (v : α) (m : List (Nat × α)) (e : Nat × α) (h : e ∈ sins k v m) : e = (k, v) ∨ e ∈ m := by
  induction m with
  | nil => simpa [sins] using h
  | cons f r ih =>
    obtain ⟨k', v'⟩ := f
    unfold sins at h
    split at h
    · simpa using h
    · split at h
      · simp only [List.mem_cons] at h ⊢; tauto
      · rcases List.mem_cons.1 h with h | h
        · simp [h]
        · rcases ih h with h | h <;> simp [h]

theorem swf_sins [DecidableEq α] (d : Nat → α) (k : Nat) (v : α) (m : List (Nat × α)) (hv : v ≠ d k) (h : swf d m = true) :
    swf d (sins k v m) = true := by
  induction m with
  | nil => simp [sins, swf, hv]
  | cons e r ih =>
    obtain ⟨k', v'⟩ := e
    have h' := h
    rw [swf_cons] at h
    unfold sins
    split
    · rename_i hk
      rw [swf_cons]
      refine ⟨?_, hv, h'⟩
      intro f hf
      rcases List.mem_cons.1 hf with rfl | hf
      · exact hk
      · exact lt_trans hk (h.1 f hf)
    · split
      · rename_i hk; subst hk
        rw [swf_cons]; exact ⟨h.1, hv, h.2.2⟩
      · rename_i h1 h2
        rw [swf_cons]
        refine ⟨?_, h.2.1, ih h.2.2⟩
        intro f hf
        rcases mem_sins _ _ _ _ hf with rfl | hf
        · simp only; omega
        · exact h.1 f hf

/-- A write keeps the canonical form of a store. -/
theorem swf_sset [DecidableEq α] (d : Nat → α) (k : Nat) (v : α) (m : List (Nat × α)) (h : swf d m = true) :
    swf d (sset (d k) k v m) = true := by
  unfold sset
  split
  · exact swf_filter _ _ _ h
  · exact swf_sins _ _ _ _ (by assumption) h

/-- Two canonical stores that read alike are the same list. -/
theorem swf_ext [DecidableEq α] (d : Nat → α) (m n : List (Nat × α)) (hm : swf d m = true) (hn : swf d n = true)
    (h : ∀ k, sget (d k) k m = sget (d k) k n) : m = n := by
  have low : ∀ (l : List (Nat × α)) (k : Nat), (∀ f ∈ l, k < f.1) → sget (d k) k l = d k := by
    intro l k hl
    induction l with
    | nil => rfl
    | cons e r ih =>
      obtain ⟨k', v'⟩ := e
      have := hl (k', v') (List.mem_cons_self ..)
      simp only [sget, if_neg (show ¬ k' = k by simp only at this; omega)]
      exact ih (fun f hf => hl f (List.mem_cons_of_mem _ hf))
  induction m generalizing n with
  | nil =>
    cases n with
    | nil => rfl
    | cons e r =>
      rw [swf_cons] at hn
      have := h e.1
      simp [sget] at this
      exact absurd this.symm hn.2.1
  | cons e r ih =>
    cases n with
    | nil =>
      rw [swf_cons] at hm
      have := h e.1
      simp [sget] at this
      exact absurd this hm.2.1
    | cons f q =>
      obtain ⟨k, v⟩ := e
      obtain ⟨k', v'⟩ := f
      have hm' := hm
      have hn' := hn
      rw [swf_cons] at hm hn
      rcases lt_trichotomy k k' with hk | hk | hk
      · have := h k
        rw [low ((k', v') :: q) k (by
          intro f hf
          rcases List.mem_cons.1 hf with rfl | hf
          · exact hk
          · exact lt_trans hk (hn.1 f hf))] at this
        simp [sget] at this
        exact absurd this hm.2.1
      · subst hk
        have hv := h k
        simp [sget] at hv
        subst hv
        have := ih q hm.2.2 hn.2.2 (by
          intro j
          by_cases hj : k = j
          · subst hj
            rw [low r k hm.1, low q k hn.1]
          · have := h j
            simpa [sget, hj] using this)
        rw [this]
      · have := h k'
        rw [low ((k, v) :: r) k' (by
          intro f hf
          rcases List.mem_cons.1 hf with rfl | hf
          · exact hk
          · exact lt_trans hk (hm.1 f hf))] at this
        simp [sget] at this
        exact absurd this.symm hn.2.1

theorem getLsbD_pow (i j : Nat) : (BitVec.ofNat 32 (2 ^ i)).getLsbD j = (decide (j < 32) && decide (i = j)) := by
  rw [BitVec.getLsbD_ofNat, Nat.testBit_two_pow]

/-- A bit just written reads as written. -/
@[simp] theorem setBit_same (w : Word) (i : Nat) (b : Bool) (h : i < 32) : (setBit w i b).getLsbD i = b := by
  unfold setBit
  cases b
  · rw [if_neg (by decide), BitVec.getLsbD_and, BitVec.getLsbD_not, getLsbD_pow]; simp [h]
  · rw [if_pos rfl, BitVec.getLsbD_or, getLsbD_pow]; simp [h]

/-- Writing a bit leaves the others alone. -/
@[simp] theorem setBit_other (w : Word) (i j : Nat) (b : Bool) (h : j ≠ i) : (setBit w i b).getLsbD j = w.getLsbD j := by
  have h' : ¬ i = j := fun hh => h hh.symm
  unfold setBit
  cases b
  · rw [if_neg (by decide), BitVec.getLsbD_and, BitVec.getLsbD_not, getLsbD_pow]
    by_cases hj : j < 32
    · simp [hj, h']
    · simp [hj, BitVec.getLsbD_of_ge w j (by omega)]
  · rw [if_pos rfl, BitVec.getLsbD_or, getLsbD_pow]; simp [h']

/-- A number taken apart around a field of `m` values at the unit `p`. -/
theorem split_field (n p m : Nat) : n = n / p / m * m * p + n / p % m * p + n % p := by
  have h1 := Nat.div_add_mod n p
  have h2 := Nat.div_add_mod (n / p) m
  nlinarith [h1, h2, Nat.mul_comm p (n / p), Nat.mul_comm m (n / p / m)]

theorem setFld_toNat (w : Word) (hi lo v : Nat) (h : hi < 32) (hl : lo ≤ hi) :
    (setFld w hi lo v).toNat = w.toNat / 2 ^ lo / 2 ^ (hi + 1 - lo) * 2 ^ (hi + 1 - lo) * 2 ^ lo
      + v % 2 ^ (hi + 1 - lo) * 2 ^ lo + w.toNat % 2 ^ lo := by
  have hp : 0 < 2 ^ lo := by positivity
  have hm : 0 < 2 ^ (hi + 1 - lo) := by positivity
  have hs := split_field w.toNat (2 ^ lo) (2 ^ (hi + 1 - lo))
  unfold setFld
  simp only [Nat.shiftRight_eq_div_pow, BitVec.toNat_ofNat]
  have hw := w.isLt
  have hpm : 2 ^ (hi + 1 - lo) * 2 ^ lo = 2 ^ (hi + 1) := by rw [← pow_add]; congr 1; omega
  have hd : 2 ^ (hi + 1) ∣ 2 ^ 32 := Nat.pow_dvd_pow 2 (by omega)
  have hq : w.toNat / 2 ^ lo / 2 ^ (hi + 1 - lo) = w.toNat / 2 ^ (hi + 1) := by
    rw [Nat.div_div_eq_div_mul, Nat.mul_comm, hpm]
  have hlt : (w.toNat / 2 ^ (hi + 1) + 1) * 2 ^ (hi + 1) ≤ 2 ^ 32 := by
    obtain ⟨c, hc⟩ := hd
    rw [hc, Nat.mul_comm]
    apply Nat.mul_le_mul_left
    have : w.toNat / 2 ^ (hi + 1) < c := by
      apply Nat.div_lt_of_lt_mul; omega
    omega
  have hv : v % 2 ^ (hi + 1 - lo) * 2 ^ lo + 2 ^ lo ≤ 2 ^ (hi + 1) := by
    have := Nat.mod_lt v hm
    calc v % 2 ^ (hi + 1 - lo) * 2 ^ lo + 2 ^ lo = (v % 2 ^ (hi + 1 - lo) + 1) * 2 ^ lo := by ring
      _ ≤ 2 ^ (hi + 1 - lo) * 2 ^ lo := Nat.mul_le_mul_right _ this
      _ = 2 ^ (hi + 1) := hpm
  have hr := Nat.mod_lt w.toNat hp
  rw [Nat.mul_assoc, hpm, hq] at hs ⊢
  have e : w.toNat - w.toNat / 2 ^ lo % 2 ^ (hi + 1 - lo) * 2 ^ lo + v % 2 ^ (hi + 1 - lo) * 2 ^ lo
      = w.toNat / 2 ^ (hi + 1) * 2 ^ (hi + 1) + v % 2 ^ (hi + 1 - lo) * 2 ^ lo + w.toNat % 2 ^ lo := by omega
  rw [e]
  apply Nat.mod_eq_of_lt
  have : (w.toNat / 2 ^ (hi + 1) + 1) * 2 ^ (hi + 1) = w.toNat / 2 ^ (hi + 1) * 2 ^ (hi + 1) + 2 ^ (hi + 1) := by ring
  omega

/-- A field just written reads as written, cut to its width. -/
@[simp] theorem wfld_setFld_same (w : Word) (hi lo v : Nat) (h : hi < 32) (hl : lo ≤ hi) :
    wfld (setFld w hi lo v) hi lo = v % 2 ^ (hi + 1 - lo) := by
  have hp : 0 < 2 ^ lo := by positivity
  have hm : 0 < 2 ^ (hi + 1 - lo) := by positivity
  unfold wfld nfld
  rw [setFld_toNat w hi lo v h hl, Nat.shiftRight_eq_div_pow]
  have hr := Nat.mod_lt w.toNat hp
  have e : w.toNat / 2 ^ lo / 2 ^ (hi + 1 - lo) * 2 ^ (hi + 1 - lo) * 2 ^ lo + v % 2 ^ (hi + 1 - lo) * 2 ^ lo + w.toNat % 2 ^ lo
      = (w.toNat / 2 ^ lo / 2 ^ (hi + 1 - lo) * 2 ^ (hi + 1 - lo) + v % 2 ^ (hi + 1 - lo)) * 2 ^ lo + w.toNat % 2 ^ lo := by ring
  rw [e, Nat.mul_comm _ (2 ^ lo), Nat.mul_add_div hp, Nat.div_eq_of_lt hr, Nat.add_zero, Nat.mul_add_mod', Nat.mod_mod]

end Sys2Proof.Machine
end

