-- ==== Sys2Proof/Laws/State.lean ====
section
/-!
SUPPORT. What each named operation over State does to each field: one lemma per field and update.
-/
namespace Sys2Proof.Machine

variable (s : State)

/-- A register just written reads as written. -/
@[simp] theorem State.rd_wr_same (k : Nat) (w : Word) : (s.wr k w).rd k = w := sget_sset_same _ _ _ _

/-- A register write leaves every other register alone. -/
@[simp] theorem State.rd_wr_other (k j : Nat) (w : Word) (h : j ≠ k) : (s.wr k w).rd j = s.rd j :=
  sget_sset_other _ _ _ _ _ _ h

/-- A register write keeps the canonical form of the register store. -/
theorem State.wr_canonical (k : Nat) (w : Word) (h : swf resetOf s.regs = true) : swf resetOf (s.wr k w).regs = true :=
  swf_sset _ _ _ _ h

/-- A field just written reads as written, cut to its width. -/
@[simp] theorem State.fld_setF_same (k hi lo v : Nat) (h : hi < 32) (hl : lo ≤ hi) :
    (s.setF k hi lo v).fld k hi lo = v % 2 ^ (hi + 1 - lo) := by
  unfold State.fld State.setF
  rw [State.rd_wr_same, wfld_setFld_same _ _ _ _ h hl]

/-- A field write leaves every other register alone. -/
@[simp] theorem State.rd_setF_other (k j hi lo v : Nat) (h : j ≠ k) : (s.setF k hi lo v).rd j = s.rd j :=
  s.rd_wr_other k j _ h

/-- A bit just written reads as written. -/
@[simp] theorem State.flag_setFlag_same (k i : Nat) (b : Bool) (h : i < 32) : (s.setFlag k i b).flag k i = b := by
  unfold State.flag State.setFlag
  rw [State.rd_wr_same, setBit_same _ _ _ h]

/-- A bit write leaves the register's other bits alone. -/
@[simp] theorem State.flag_setFlag_bit (k i j : Nat) (b : Bool) (h : j ≠ i) :
    (s.setFlag k i b).flag k j = s.flag k j := by
  unfold State.flag State.setFlag
  rw [State.rd_wr_same, setBit_other _ _ _ _ h]

/-- A bit write leaves every other register alone. -/
@[simp] theorem State.rd_setFlag_other (k j i : Nat) (b : Bool) (h : j ≠ k) : (s.setFlag k i b).rd j = s.rd j :=
  s.rd_wr_other k j _ h

/-- Raising interrupt bits sets them in INT_STAT. -/
@[simp] theorem State.rd_raise_same (p bits : Nat) :
    (s.raise p bits).rd (Reg.intStat p) = s.rd (Reg.intStat p) ||| word bits := s.rd_wr_same _ _

/-- Raising interrupt bits leaves every other register alone. -/
@[simp] theorem State.rd_raise_other (p bits j : Nat) (h : j ≠ Reg.intStat p) : (s.raise p bits).rd j = s.rd j :=
  s.rd_wr_other _ _ _ h

/-- Setting sticky bits sets them in STICKY. -/
@[simp] theorem State.rd_stick_same (p bits : Nat) :
    (s.stick p bits).rd (Reg.sticky p) = s.rd (Reg.sticky p) ||| word bits := s.rd_wr_same _ _

/-- Setting sticky bits leaves every other register alone. -/
@[simp] theorem State.rd_stick_other (p bits j : Nat) (h : j ≠ Reg.sticky p) : (s.stick p bits).rd j = s.rd j :=
  s.rd_wr_other _ _ _ h

@[simp] theorem State.rd_emit (x : Output) (j : Nat) : (s.emit x).rd j = s.rd j := rfl
@[simp] theorem State.rd_draw (j : Nat) : s.draw.rd j = s.rd j := rfl
@[simp] theorem State.regs_emit (x : Output) : (s.emit x).regs = s.regs := rfl
@[simp] theorem State.regs_draw : s.draw.regs = s.regs := rfl
@[simp] theorem State.out_emit (x : Output) : (s.emit x).out = s.out ++ [x] := rfl
@[simp] theorem State.fresh_draw : s.draw.fresh = s.fresh + 1 := rfl


@[simp] theorem State.variant_wr (k : Nat) (w : Word) : (s.wr k w).variant = s.variant := rfl
@[simp] theorem State.pending_wr (k : Nat) (w : Word) : (s.wr k w).pending = s.pending := rfl
@[simp] theorem State.out_wr (k : Nat) (w : Word) : (s.wr k w).out = s.out := rfl
@[simp] theorem State.fresh_wr (k : Nat) (w : Word) : (s.wr k w).fresh = s.fresh := rfl
@[simp] theorem State.fab_wr (k : Nat) (w : Word) : (s.wr k w).fab = s.fab := rfl
@[simp] theorem State.mode_wr (k : Nat) (w : Word) : (s.wr k w).mode = s.mode := rfl
@[simp] theorem State.time_wr (k : Nat) (w : Word) : (s.wr k w).time = s.time := rfl
@[simp] theorem State.det_wr (k : Nat) (w : Word) : (s.wr k w).det = s.det := rfl
@[simp] theorem State.tiu_wr (k : Nat) (w : Word) : (s.wr k w).tiu = s.tiu := rfl
@[simp] theorem State.trig_wr (k : Nat) (w : Word) : (s.wr k w).trig = s.trig := rfl
@[simp] theorem State.tbus_wr (k : Nat) (w : Word) : (s.wr k w).tbus = s.tbus := rfl
@[simp] theorem State.mem_wr (k : Nat) (w : Word) : (s.wr k w).mem = s.mem := rfl
@[simp] theorem State.acq_wr (k : Nat) (w : Word) : (s.wr k w).acq = s.acq := rfl
@[simp] theorem State.eng_wr (k : Nat) (w : Word) : (s.wr k w).eng = s.eng := rfl
@[simp] theorem State.evb_wr (k : Nat) (w : Word) : (s.wr k w).evb = s.evb := rfl
@[simp] theorem State.que_wr (k : Nat) (w : Word) : (s.wr k w).que = s.que := rfl
@[simp] theorem State.lane_wr (k : Nat) (w : Word) : (s.wr k w).lane = s.lane := rfl
@[simp] theorem State.slow_wr (k : Nat) (w : Word) : (s.wr k w).slow = s.slow := rfl
@[simp] theorem State.servo_wr (k : Nat) (w : Word) : (s.wr k w).servo = s.servo := rfl
@[simp] theorem State.light_wr (k : Nat) (w : Word) : (s.wr k w).light = s.light := rfl
@[simp] theorem State.stw_wr (k : Nat) (w : Word) : (s.wr k w).stw = s.stw := rfl
@[simp] theorem State.upd_wr (k : Nat) (w : Word) : (s.wr k w).upd = s.upd := rfl
@[simp] theorem State.age_wr (k : Nat) (w : Word) : (s.wr k w).age = s.age := rfl

@[simp] theorem State.variant_setF (k hi lo v : Nat) : (s.setF k hi lo v).variant = s.variant := rfl
@[simp] theorem State.pending_setF (k hi lo v : Nat) : (s.setF k hi lo v).pending = s.pending := rfl
@[simp] theorem State.out_setF (k hi lo v : Nat) : (s.setF k hi lo v).out = s.out := rfl
@[simp] theorem State.fresh_setF (k hi lo v : Nat) : (s.setF k hi lo v).fresh = s.fresh := rfl
@[simp] theorem State.fab_setF (k hi lo v : Nat) : (s.setF k hi lo v).fab = s.fab := rfl
@[simp] theorem State.mode_setF (k hi lo v : Nat) : (s.setF k hi lo v).mode = s.mode := rfl
@[simp] theorem State.time_setF (k hi lo v : Nat) : (s.setF k hi lo v).time = s.time := rfl
@[simp] theorem State.det_setF (k hi lo v : Nat) : (s.setF k hi lo v).det = s.det := rfl
@[simp] theorem State.tiu_setF (k hi lo v : Nat) : (s.setF k hi lo v).tiu = s.tiu := rfl
@[simp] theorem State.trig_setF (k hi lo v : Nat) : (s.setF k hi lo v).trig = s.trig := rfl
@[simp] theorem State.tbus_setF (k hi lo v : Nat) : (s.setF k hi lo v).tbus = s.tbus := rfl
@[simp] theorem State.mem_setF (k hi lo v : Nat) : (s.setF k hi lo v).mem = s.mem := rfl
@[simp] theorem State.acq_setF (k hi lo v : Nat) : (s.setF k hi lo v).acq = s.acq := rfl
@[simp] theorem State.eng_setF (k hi lo v : Nat) : (s.setF k hi lo v).eng = s.eng := rfl
@[simp] theorem State.evb_setF (k hi lo v : Nat) : (s.setF k hi lo v).evb = s.evb := rfl
@[simp] theorem State.que_setF (k hi lo v : Nat) : (s.setF k hi lo v).que = s.que := rfl
@[simp] theorem State.lane_setF (k hi lo v : Nat) : (s.setF k hi lo v).lane = s.lane := rfl
@[simp] theorem State.slow_setF (k hi lo v : Nat) : (s.setF k hi lo v).slow = s.slow := rfl
@[simp] theorem State.servo_setF (k hi lo v : Nat) : (s.setF k hi lo v).servo = s.servo := rfl
@[simp] theorem State.light_setF (k hi lo v : Nat) : (s.setF k hi lo v).light = s.light := rfl
@[simp] theorem State.stw_setF (k hi lo v : Nat) : (s.setF k hi lo v).stw = s.stw := rfl
@[simp] theorem State.upd_setF (k hi lo v : Nat) : (s.setF k hi lo v).upd = s.upd := rfl
@[simp] theorem State.age_setF (k hi lo v : Nat) : (s.setF k hi lo v).age = s.age := rfl

@[simp] theorem State.variant_setFlag (k i : Nat) (b : Bool) : (s.setFlag k i b).variant = s.variant := rfl
@[simp] theorem State.pending_setFlag (k i : Nat) (b : Bool) : (s.setFlag k i b).pending = s.pending := rfl
@[simp] theorem State.out_setFlag (k i : Nat) (b : Bool) : (s.setFlag k i b).out = s.out := rfl
@[simp] theorem State.fresh_setFlag (k i : Nat) (b : Bool) : (s.setFlag k i b).fresh = s.fresh := rfl
@[simp] theorem State.fab_setFlag (k i : Nat) (b : Bool) : (s.setFlag k i b).fab = s.fab := rfl
@[simp] theorem State.mode_setFlag (k i : Nat) (b : Bool) : (s.setFlag k i b).mode = s.mode := rfl
@[simp] theorem State.time_setFlag (k i : Nat) (b : Bool) : (s.setFlag k i b).time = s.time := rfl
@[simp] theorem State.det_setFlag (k i : Nat) (b : Bool) : (s.setFlag k i b).det = s.det := rfl
@[simp] theorem State.tiu_setFlag (k i : Nat) (b : Bool) : (s.setFlag k i b).tiu = s.tiu := rfl
@[simp] theorem State.trig_setFlag (k i : Nat) (b : Bool) : (s.setFlag k i b).trig = s.trig := rfl
@[simp] theorem State.tbus_setFlag (k i : Nat) (b : Bool) : (s.setFlag k i b).tbus = s.tbus := rfl
@[simp] theorem State.mem_setFlag (k i : Nat) (b : Bool) : (s.setFlag k i b).mem = s.mem := rfl
@[simp] theorem State.acq_setFlag (k i : Nat) (b : Bool) : (s.setFlag k i b).acq = s.acq := rfl
@[simp] theorem State.eng_setFlag (k i : Nat) (b : Bool) : (s.setFlag k i b).eng = s.eng := rfl
@[simp] theorem State.evb_setFlag (k i : Nat) (b : Bool) : (s.setFlag k i b).evb = s.evb := rfl
@[simp] theorem State.que_setFlag (k i : Nat) (b : Bool) : (s.setFlag k i b).que = s.que := rfl
@[simp] theorem State.lane_setFlag (k i : Nat) (b : Bool) : (s.setFlag k i b).lane = s.lane := rfl
@[simp] theorem State.slow_setFlag (k i : Nat) (b : Bool) : (s.setFlag k i b).slow = s.slow := rfl
@[simp] theorem State.servo_setFlag (k i : Nat) (b : Bool) : (s.setFlag k i b).servo = s.servo := rfl
@[simp] theorem State.light_setFlag (k i : Nat) (b : Bool) : (s.setFlag k i b).light = s.light := rfl
@[simp] theorem State.stw_setFlag (k i : Nat) (b : Bool) : (s.setFlag k i b).stw = s.stw := rfl
@[simp] theorem State.upd_setFlag (k i : Nat) (b : Bool) : (s.setFlag k i b).upd = s.upd := rfl
@[simp] theorem State.age_setFlag (k i : Nat) (b : Bool) : (s.setFlag k i b).age = s.age := rfl

@[simp] theorem State.variant_raise (p bits : Nat) : (s.raise p bits).variant = s.variant := rfl
@[simp] theorem State.pending_raise (p bits : Nat) : (s.raise p bits).pending = s.pending := rfl
@[simp] theorem State.out_raise (p bits : Nat) : (s.raise p bits).out = s.out := rfl
@[simp] theorem State.fresh_raise (p bits : Nat) : (s.raise p bits).fresh = s.fresh := rfl
@[simp] theorem State.fab_raise (p bits : Nat) : (s.raise p bits).fab = s.fab := rfl
@[simp] theorem State.mode_raise (p bits : Nat) : (s.raise p bits).mode = s.mode := rfl
@[simp] theorem State.time_raise (p bits : Nat) : (s.raise p bits).time = s.time := rfl
@[simp] theorem State.det_raise (p bits : Nat) : (s.raise p bits).det = s.det := rfl
@[simp] theorem State.tiu_raise (p bits : Nat) : (s.raise p bits).tiu = s.tiu := rfl
@[simp] theorem State.trig_raise (p bits : Nat) : (s.raise p bits).trig = s.trig := rfl
@[simp] theorem State.tbus_raise (p bits : Nat) : (s.raise p bits).tbus = s.tbus := rfl
@[simp] theorem State.mem_raise (p bits : Nat) : (s.raise p bits).mem = s.mem := rfl
@[simp] theorem State.acq_raise (p bits : Nat) : (s.raise p bits).acq = s.acq := rfl
@[simp] theorem State.eng_raise (p bits : Nat) : (s.raise p bits).eng = s.eng := rfl
@[simp] theorem State.evb_raise (p bits : Nat) : (s.raise p bits).evb = s.evb := rfl
@[simp] theorem State.que_raise (p bits : Nat) : (s.raise p bits).que = s.que := rfl
@[simp] theorem State.lane_raise (p bits : Nat) : (s.raise p bits).lane = s.lane := rfl
@[simp] theorem State.slow_raise (p bits : Nat) : (s.raise p bits).slow = s.slow := rfl
@[simp] theorem State.servo_raise (p bits : Nat) : (s.raise p bits).servo = s.servo := rfl
@[simp] theorem State.light_raise (p bits : Nat) : (s.raise p bits).light = s.light := rfl
@[simp] theorem State.stw_raise (p bits : Nat) : (s.raise p bits).stw = s.stw := rfl
@[simp] theorem State.upd_raise (p bits : Nat) : (s.raise p bits).upd = s.upd := rfl
@[simp] theorem State.age_raise (p bits : Nat) : (s.raise p bits).age = s.age := rfl

@[simp] theorem State.variant_stick (p bits : Nat) : (s.stick p bits).variant = s.variant := rfl
@[simp] theorem State.pending_stick (p bits : Nat) : (s.stick p bits).pending = s.pending := rfl
@[simp] theorem State.out_stick (p bits : Nat) : (s.stick p bits).out = s.out := rfl
@[simp] theorem State.fresh_stick (p bits : Nat) : (s.stick p bits).fresh = s.fresh := rfl
@[simp] theorem State.fab_stick (p bits : Nat) : (s.stick p bits).fab = s.fab := rfl
@[simp] theorem State.mode_stick (p bits : Nat) : (s.stick p bits).mode = s.mode := rfl
@[simp] theorem State.time_stick (p bits : Nat) : (s.stick p bits).time = s.time := rfl
@[simp] theorem State.det_stick (p bits : Nat) : (s.stick p bits).det = s.det := rfl
@[simp] theorem State.tiu_stick (p bits : Nat) : (s.stick p bits).tiu = s.tiu := rfl
@[simp] theorem State.trig_stick (p bits : Nat) : (s.stick p bits).trig = s.trig := rfl
@[simp] theorem State.tbus_stick (p bits : Nat) : (s.stick p bits).tbus = s.tbus := rfl
@[simp] theorem State.mem_stick (p bits : Nat) : (s.stick p bits).mem = s.mem := rfl
@[simp] theorem State.acq_stick (p bits : Nat) : (s.stick p bits).acq = s.acq := rfl
@[simp] theorem State.eng_stick (p bits : Nat) : (s.stick p bits).eng = s.eng := rfl
@[simp] theorem State.evb_stick (p bits : Nat) : (s.stick p bits).evb = s.evb := rfl
@[simp] theorem State.que_stick (p bits : Nat) : (s.stick p bits).que = s.que := rfl
@[simp] theorem State.lane_stick (p bits : Nat) : (s.stick p bits).lane = s.lane := rfl
@[simp] theorem State.slow_stick (p bits : Nat) : (s.stick p bits).slow = s.slow := rfl
@[simp] theorem State.servo_stick (p bits : Nat) : (s.stick p bits).servo = s.servo := rfl
@[simp] theorem State.light_stick (p bits : Nat) : (s.stick p bits).light = s.light := rfl
@[simp] theorem State.stw_stick (p bits : Nat) : (s.stick p bits).stw = s.stw := rfl
@[simp] theorem State.upd_stick (p bits : Nat) : (s.stick p bits).upd = s.upd := rfl
@[simp] theorem State.age_stick (p bits : Nat) : (s.stick p bits).age = s.age := rfl

@[simp] theorem State.variant_refuse (p : Nat) : (s.refuse p).variant = s.variant := rfl
@[simp] theorem State.pending_refuse (p : Nat) : (s.refuse p).pending = s.pending := rfl
@[simp] theorem State.out_refuse (p : Nat) : (s.refuse p).out = s.out := rfl
@[simp] theorem State.fresh_refuse (p : Nat) : (s.refuse p).fresh = s.fresh := rfl
@[simp] theorem State.fab_refuse (p : Nat) : (s.refuse p).fab = s.fab := rfl
@[simp] theorem State.mode_refuse (p : Nat) : (s.refuse p).mode = s.mode := rfl
@[simp] theorem State.time_refuse (p : Nat) : (s.refuse p).time = s.time := rfl
@[simp] theorem State.det_refuse (p : Nat) : (s.refuse p).det = s.det := rfl
@[simp] theorem State.tiu_refuse (p : Nat) : (s.refuse p).tiu = s.tiu := rfl
@[simp] theorem State.trig_refuse (p : Nat) : (s.refuse p).trig = s.trig := rfl
@[simp] theorem State.tbus_refuse (p : Nat) : (s.refuse p).tbus = s.tbus := rfl
@[simp] theorem State.mem_refuse (p : Nat) : (s.refuse p).mem = s.mem := rfl
@[simp] theorem State.acq_refuse (p : Nat) : (s.refuse p).acq = s.acq := rfl
@[simp] theorem State.eng_refuse (p : Nat) : (s.refuse p).eng = s.eng := rfl
@[simp] theorem State.evb_refuse (p : Nat) : (s.refuse p).evb = s.evb := rfl
@[simp] theorem State.que_refuse (p : Nat) : (s.refuse p).que = s.que := rfl
@[simp] theorem State.lane_refuse (p : Nat) : (s.refuse p).lane = s.lane := rfl
@[simp] theorem State.slow_refuse (p : Nat) : (s.refuse p).slow = s.slow := rfl
@[simp] theorem State.servo_refuse (p : Nat) : (s.refuse p).servo = s.servo := rfl
@[simp] theorem State.light_refuse (p : Nat) : (s.refuse p).light = s.light := rfl
@[simp] theorem State.stw_refuse (p : Nat) : (s.refuse p).stw = s.stw := rfl
@[simp] theorem State.upd_refuse (p : Nat) : (s.refuse p).upd = s.upd := rfl
@[simp] theorem State.age_refuse (p : Nat) : (s.refuse p).age = s.age := rfl

@[simp] theorem State.variant_wr64 (k v : Nat) : (s.wr64 k v).variant = s.variant := rfl
@[simp] theorem State.pending_wr64 (k v : Nat) : (s.wr64 k v).pending = s.pending := rfl
@[simp] theorem State.out_wr64 (k v : Nat) : (s.wr64 k v).out = s.out := rfl
@[simp] theorem State.fresh_wr64 (k v : Nat) : (s.wr64 k v).fresh = s.fresh := rfl
@[simp] theorem State.fab_wr64 (k v : Nat) : (s.wr64 k v).fab = s.fab := rfl
@[simp] theorem State.mode_wr64 (k v : Nat) : (s.wr64 k v).mode = s.mode := rfl
@[simp] theorem State.time_wr64 (k v : Nat) : (s.wr64 k v).time = s.time := rfl
@[simp] theorem State.det_wr64 (k v : Nat) : (s.wr64 k v).det = s.det := rfl
@[simp] theorem State.tiu_wr64 (k v : Nat) : (s.wr64 k v).tiu = s.tiu := rfl
@[simp] theorem State.trig_wr64 (k v : Nat) : (s.wr64 k v).trig = s.trig := rfl
@[simp] theorem State.tbus_wr64 (k v : Nat) : (s.wr64 k v).tbus = s.tbus := rfl
@[simp] theorem State.mem_wr64 (k v : Nat) : (s.wr64 k v).mem = s.mem := rfl
@[simp] theorem State.acq_wr64 (k v : Nat) : (s.wr64 k v).acq = s.acq := rfl
@[simp] theorem State.eng_wr64 (k v : Nat) : (s.wr64 k v).eng = s.eng := rfl
@[simp] theorem State.evb_wr64 (k v : Nat) : (s.wr64 k v).evb = s.evb := rfl
@[simp] theorem State.que_wr64 (k v : Nat) : (s.wr64 k v).que = s.que := rfl
@[simp] theorem State.lane_wr64 (k v : Nat) : (s.wr64 k v).lane = s.lane := rfl
@[simp] theorem State.slow_wr64 (k v : Nat) : (s.wr64 k v).slow = s.slow := rfl
@[simp] theorem State.servo_wr64 (k v : Nat) : (s.wr64 k v).servo = s.servo := rfl
@[simp] theorem State.light_wr64 (k v : Nat) : (s.wr64 k v).light = s.light := rfl
@[simp] theorem State.stw_wr64 (k v : Nat) : (s.wr64 k v).stw = s.stw := rfl
@[simp] theorem State.upd_wr64 (k v : Nat) : (s.wr64 k v).upd = s.upd := rfl
@[simp] theorem State.age_wr64 (k v : Nat) : (s.wr64 k v).age = s.age := rfl

@[simp] theorem State.variant_incBy (k n : Nat) : (s.incBy k n).variant = s.variant := rfl
@[simp] theorem State.pending_incBy (k n : Nat) : (s.incBy k n).pending = s.pending := rfl
@[simp] theorem State.out_incBy (k n : Nat) : (s.incBy k n).out = s.out := rfl
@[simp] theorem State.fresh_incBy (k n : Nat) : (s.incBy k n).fresh = s.fresh := rfl
@[simp] theorem State.fab_incBy (k n : Nat) : (s.incBy k n).fab = s.fab := rfl
@[simp] theorem State.mode_incBy (k n : Nat) : (s.incBy k n).mode = s.mode := rfl
@[simp] theorem State.time_incBy (k n : Nat) : (s.incBy k n).time = s.time := rfl
@[simp] theorem State.det_incBy (k n : Nat) : (s.incBy k n).det = s.det := rfl
@[simp] theorem State.tiu_incBy (k n : Nat) : (s.incBy k n).tiu = s.tiu := rfl
@[simp] theorem State.trig_incBy (k n : Nat) : (s.incBy k n).trig = s.trig := rfl
@[simp] theorem State.tbus_incBy (k n : Nat) : (s.incBy k n).tbus = s.tbus := rfl
@[simp] theorem State.mem_incBy (k n : Nat) : (s.incBy k n).mem = s.mem := rfl
@[simp] theorem State.acq_incBy (k n : Nat) : (s.incBy k n).acq = s.acq := rfl
@[simp] theorem State.eng_incBy (k n : Nat) : (s.incBy k n).eng = s.eng := rfl
@[simp] theorem State.evb_incBy (k n : Nat) : (s.incBy k n).evb = s.evb := rfl
@[simp] theorem State.que_incBy (k n : Nat) : (s.incBy k n).que = s.que := rfl
@[simp] theorem State.lane_incBy (k n : Nat) : (s.incBy k n).lane = s.lane := rfl
@[simp] theorem State.slow_incBy (k n : Nat) : (s.incBy k n).slow = s.slow := rfl
@[simp] theorem State.servo_incBy (k n : Nat) : (s.incBy k n).servo = s.servo := rfl
@[simp] theorem State.light_incBy (k n : Nat) : (s.incBy k n).light = s.light := rfl
@[simp] theorem State.stw_incBy (k n : Nat) : (s.incBy k n).stw = s.stw := rfl
@[simp] theorem State.upd_incBy (k n : Nat) : (s.incBy k n).upd = s.upd := rfl
@[simp] theorem State.age_incBy (k n : Nat) : (s.incBy k n).age = s.age := rfl

@[simp] theorem State.variant_inc (k : Nat) : (s.inc k).variant = s.variant := rfl
@[simp] theorem State.pending_inc (k : Nat) : (s.inc k).pending = s.pending := rfl
@[simp] theorem State.out_inc (k : Nat) : (s.inc k).out = s.out := rfl
@[simp] theorem State.fresh_inc (k : Nat) : (s.inc k).fresh = s.fresh := rfl
@[simp] theorem State.fab_inc (k : Nat) : (s.inc k).fab = s.fab := rfl
@[simp] theorem State.mode_inc (k : Nat) : (s.inc k).mode = s.mode := rfl
@[simp] theorem State.time_inc (k : Nat) : (s.inc k).time = s.time := rfl
@[simp] theorem State.det_inc (k : Nat) : (s.inc k).det = s.det := rfl
@[simp] theorem State.tiu_inc (k : Nat) : (s.inc k).tiu = s.tiu := rfl
@[simp] theorem State.trig_inc (k : Nat) : (s.inc k).trig = s.trig := rfl
@[simp] theorem State.tbus_inc (k : Nat) : (s.inc k).tbus = s.tbus := rfl
@[simp] theorem State.mem_inc (k : Nat) : (s.inc k).mem = s.mem := rfl
@[simp] theorem State.acq_inc (k : Nat) : (s.inc k).acq = s.acq := rfl
@[simp] theorem State.eng_inc (k : Nat) : (s.inc k).eng = s.eng := rfl
@[simp] theorem State.evb_inc (k : Nat) : (s.inc k).evb = s.evb := rfl
@[simp] theorem State.que_inc (k : Nat) : (s.inc k).que = s.que := rfl
@[simp] theorem State.lane_inc (k : Nat) : (s.inc k).lane = s.lane := rfl
@[simp] theorem State.slow_inc (k : Nat) : (s.inc k).slow = s.slow := rfl
@[simp] theorem State.servo_inc (k : Nat) : (s.inc k).servo = s.servo := rfl
@[simp] theorem State.light_inc (k : Nat) : (s.inc k).light = s.light := rfl
@[simp] theorem State.stw_inc (k : Nat) : (s.inc k).stw = s.stw := rfl
@[simp] theorem State.upd_inc (k : Nat) : (s.inc k).upd = s.upd := rfl
@[simp] theorem State.age_inc (k : Nat) : (s.inc k).age = s.age := rfl

@[simp] theorem State.variant_incSatBy (k n : Nat) : (s.incSatBy k n).variant = s.variant := rfl
@[simp] theorem State.pending_incSatBy (k n : Nat) : (s.incSatBy k n).pending = s.pending := rfl
@[simp] theorem State.out_incSatBy (k n : Nat) : (s.incSatBy k n).out = s.out := rfl
@[simp] theorem State.fresh_incSatBy (k n : Nat) : (s.incSatBy k n).fresh = s.fresh := rfl
@[simp] theorem State.fab_incSatBy (k n : Nat) : (s.incSatBy k n).fab = s.fab := rfl
@[simp] theorem State.mode_incSatBy (k n : Nat) : (s.incSatBy k n).mode = s.mode := rfl
@[simp] theorem State.time_incSatBy (k n : Nat) : (s.incSatBy k n).time = s.time := rfl
@[simp] theorem State.det_incSatBy (k n : Nat) : (s.incSatBy k n).det = s.det := rfl
@[simp] theorem State.tiu_incSatBy (k n : Nat) : (s.incSatBy k n).tiu = s.tiu := rfl
@[simp] theorem State.trig_incSatBy (k n : Nat) : (s.incSatBy k n).trig = s.trig := rfl
@[simp] theorem State.tbus_incSatBy (k n : Nat) : (s.incSatBy k n).tbus = s.tbus := rfl
@[simp] theorem State.mem_incSatBy (k n : Nat) : (s.incSatBy k n).mem = s.mem := rfl
@[simp] theorem State.acq_incSatBy (k n : Nat) : (s.incSatBy k n).acq = s.acq := rfl
@[simp] theorem State.eng_incSatBy (k n : Nat) : (s.incSatBy k n).eng = s.eng := rfl
@[simp] theorem State.evb_incSatBy (k n : Nat) : (s.incSatBy k n).evb = s.evb := rfl
@[simp] theorem State.que_incSatBy (k n : Nat) : (s.incSatBy k n).que = s.que := rfl
@[simp] theorem State.lane_incSatBy (k n : Nat) : (s.incSatBy k n).lane = s.lane := rfl
@[simp] theorem State.slow_incSatBy (k n : Nat) : (s.incSatBy k n).slow = s.slow := rfl
@[simp] theorem State.servo_incSatBy (k n : Nat) : (s.incSatBy k n).servo = s.servo := rfl
@[simp] theorem State.light_incSatBy (k n : Nat) : (s.incSatBy k n).light = s.light := rfl
@[simp] theorem State.stw_incSatBy (k n : Nat) : (s.incSatBy k n).stw = s.stw := rfl
@[simp] theorem State.upd_incSatBy (k n : Nat) : (s.incSatBy k n).upd = s.upd := rfl
@[simp] theorem State.age_incSatBy (k n : Nat) : (s.incSatBy k n).age = s.age := rfl

@[simp] theorem State.variant_incSat (k : Nat) : (s.incSat k).variant = s.variant := rfl
@[simp] theorem State.pending_incSat (k : Nat) : (s.incSat k).pending = s.pending := rfl
@[simp] theorem State.out_incSat (k : Nat) : (s.incSat k).out = s.out := rfl
@[simp] theorem State.fresh_incSat (k : Nat) : (s.incSat k).fresh = s.fresh := rfl
@[simp] theorem State.fab_incSat (k : Nat) : (s.incSat k).fab = s.fab := rfl
@[simp] theorem State.mode_incSat (k : Nat) : (s.incSat k).mode = s.mode := rfl
@[simp] theorem State.time_incSat (k : Nat) : (s.incSat k).time = s.time := rfl
@[simp] theorem State.det_incSat (k : Nat) : (s.incSat k).det = s.det := rfl
@[simp] theorem State.tiu_incSat (k : Nat) : (s.incSat k).tiu = s.tiu := rfl
@[simp] theorem State.trig_incSat (k : Nat) : (s.incSat k).trig = s.trig := rfl
@[simp] theorem State.tbus_incSat (k : Nat) : (s.incSat k).tbus = s.tbus := rfl
@[simp] theorem State.mem_incSat (k : Nat) : (s.incSat k).mem = s.mem := rfl
@[simp] theorem State.acq_incSat (k : Nat) : (s.incSat k).acq = s.acq := rfl
@[simp] theorem State.eng_incSat (k : Nat) : (s.incSat k).eng = s.eng := rfl
@[simp] theorem State.evb_incSat (k : Nat) : (s.incSat k).evb = s.evb := rfl
@[simp] theorem State.que_incSat (k : Nat) : (s.incSat k).que = s.que := rfl
@[simp] theorem State.lane_incSat (k : Nat) : (s.incSat k).lane = s.lane := rfl
@[simp] theorem State.slow_incSat (k : Nat) : (s.incSat k).slow = s.slow := rfl
@[simp] theorem State.servo_incSat (k : Nat) : (s.incSat k).servo = s.servo := rfl
@[simp] theorem State.light_incSat (k : Nat) : (s.incSat k).light = s.light := rfl
@[simp] theorem State.stw_incSat (k : Nat) : (s.incSat k).stw = s.stw := rfl
@[simp] theorem State.upd_incSat (k : Nat) : (s.incSat k).upd = s.upd := rfl
@[simp] theorem State.age_incSat (k : Nat) : (s.incSat k).age = s.age := rfl

@[simp] theorem State.variant_incF (k hi lo : Nat) : (s.incF k hi lo).variant = s.variant := rfl
@[simp] theorem State.pending_incF (k hi lo : Nat) : (s.incF k hi lo).pending = s.pending := rfl
@[simp] theorem State.out_incF (k hi lo : Nat) : (s.incF k hi lo).out = s.out := rfl
@[simp] theorem State.fresh_incF (k hi lo : Nat) : (s.incF k hi lo).fresh = s.fresh := rfl
@[simp] theorem State.fab_incF (k hi lo : Nat) : (s.incF k hi lo).fab = s.fab := rfl
@[simp] theorem State.mode_incF (k hi lo : Nat) : (s.incF k hi lo).mode = s.mode := rfl
@[simp] theorem State.time_incF (k hi lo : Nat) : (s.incF k hi lo).time = s.time := rfl
@[simp] theorem State.det_incF (k hi lo : Nat) : (s.incF k hi lo).det = s.det := rfl
@[simp] theorem State.tiu_incF (k hi lo : Nat) : (s.incF k hi lo).tiu = s.tiu := rfl
@[simp] theorem State.trig_incF (k hi lo : Nat) : (s.incF k hi lo).trig = s.trig := rfl
@[simp] theorem State.tbus_incF (k hi lo : Nat) : (s.incF k hi lo).tbus = s.tbus := rfl
@[simp] theorem State.mem_incF (k hi lo : Nat) : (s.incF k hi lo).mem = s.mem := rfl
@[simp] theorem State.acq_incF (k hi lo : Nat) : (s.incF k hi lo).acq = s.acq := rfl
@[simp] theorem State.eng_incF (k hi lo : Nat) : (s.incF k hi lo).eng = s.eng := rfl
@[simp] theorem State.evb_incF (k hi lo : Nat) : (s.incF k hi lo).evb = s.evb := rfl
@[simp] theorem State.que_incF (k hi lo : Nat) : (s.incF k hi lo).que = s.que := rfl
@[simp] theorem State.lane_incF (k hi lo : Nat) : (s.incF k hi lo).lane = s.lane := rfl
@[simp] theorem State.slow_incF (k hi lo : Nat) : (s.incF k hi lo).slow = s.slow := rfl
@[simp] theorem State.servo_incF (k hi lo : Nat) : (s.incF k hi lo).servo = s.servo := rfl
@[simp] theorem State.light_incF (k hi lo : Nat) : (s.incF k hi lo).light = s.light := rfl
@[simp] theorem State.stw_incF (k hi lo : Nat) : (s.incF k hi lo).stw = s.stw := rfl
@[simp] theorem State.upd_incF (k hi lo : Nat) : (s.incF k hi lo).upd = s.upd := rfl
@[simp] theorem State.age_incF (k hi lo : Nat) : (s.incF k hi lo).age = s.age := rfl

@[simp] theorem State.variant_incFSatBy (k hi lo n : Nat) : (s.incFSatBy k hi lo n).variant = s.variant := rfl
@[simp] theorem State.pending_incFSatBy (k hi lo n : Nat) : (s.incFSatBy k hi lo n).pending = s.pending := rfl
@[simp] theorem State.out_incFSatBy (k hi lo n : Nat) : (s.incFSatBy k hi lo n).out = s.out := rfl
@[simp] theorem State.fresh_incFSatBy (k hi lo n : Nat) : (s.incFSatBy k hi lo n).fresh = s.fresh := rfl
@[simp] theorem State.fab_incFSatBy (k hi lo n : Nat) : (s.incFSatBy k hi lo n).fab = s.fab := rfl
@[simp] theorem State.mode_incFSatBy (k hi lo n : Nat) : (s.incFSatBy k hi lo n).mode = s.mode := rfl
@[simp] theorem State.time_incFSatBy (k hi lo n : Nat) : (s.incFSatBy k hi lo n).time = s.time := rfl
@[simp] theorem State.det_incFSatBy (k hi lo n : Nat) : (s.incFSatBy k hi lo n).det = s.det := rfl
@[simp] theorem State.tiu_incFSatBy (k hi lo n : Nat) : (s.incFSatBy k hi lo n).tiu = s.tiu := rfl
@[simp] theorem State.trig_incFSatBy (k hi lo n : Nat) : (s.incFSatBy k hi lo n).trig = s.trig := rfl
@[simp] theorem State.tbus_incFSatBy (k hi lo n : Nat) : (s.incFSatBy k hi lo n).tbus = s.tbus := rfl
@[simp] theorem State.mem_incFSatBy (k hi lo n : Nat) : (s.incFSatBy k hi lo n).mem = s.mem := rfl
@[simp] theorem State.acq_incFSatBy (k hi lo n : Nat) : (s.incFSatBy k hi lo n).acq = s.acq := rfl
@[simp] theorem State.eng_incFSatBy (k hi lo n : Nat) : (s.incFSatBy k hi lo n).eng = s.eng := rfl
@[simp] theorem State.evb_incFSatBy (k hi lo n : Nat) : (s.incFSatBy k hi lo n).evb = s.evb := rfl
@[simp] theorem State.que_incFSatBy (k hi lo n : Nat) : (s.incFSatBy k hi lo n).que = s.que := rfl
@[simp] theorem State.lane_incFSatBy (k hi lo n : Nat) : (s.incFSatBy k hi lo n).lane = s.lane := rfl
@[simp] theorem State.slow_incFSatBy (k hi lo n : Nat) : (s.incFSatBy k hi lo n).slow = s.slow := rfl
@[simp] theorem State.servo_incFSatBy (k hi lo n : Nat) : (s.incFSatBy k hi lo n).servo = s.servo := rfl
@[simp] theorem State.light_incFSatBy (k hi lo n : Nat) : (s.incFSatBy k hi lo n).light = s.light := rfl
@[simp] theorem State.stw_incFSatBy (k hi lo n : Nat) : (s.incFSatBy k hi lo n).stw = s.stw := rfl
@[simp] theorem State.upd_incFSatBy (k hi lo n : Nat) : (s.incFSatBy k hi lo n).upd = s.upd := rfl
@[simp] theorem State.age_incFSatBy (k hi lo n : Nat) : (s.incFSatBy k hi lo n).age = s.age := rfl

@[simp] theorem State.variant_incFSat (k hi lo : Nat) : (s.incFSat k hi lo).variant = s.variant := rfl
@[simp] theorem State.pending_incFSat (k hi lo : Nat) : (s.incFSat k hi lo).pending = s.pending := rfl
@[simp] theorem State.out_incFSat (k hi lo : Nat) : (s.incFSat k hi lo).out = s.out := rfl
@[simp] theorem State.fresh_incFSat (k hi lo : Nat) : (s.incFSat k hi lo).fresh = s.fresh := rfl
@[simp] theorem State.fab_incFSat (k hi lo : Nat) : (s.incFSat k hi lo).fab = s.fab := rfl
@[simp] theorem State.mode_incFSat (k hi lo : Nat) : (s.incFSat k hi lo).mode = s.mode := rfl
@[simp] theorem State.time_incFSat (k hi lo : Nat) : (s.incFSat k hi lo).time = s.time := rfl
@[simp] theorem State.det_incFSat (k hi lo : Nat) : (s.incFSat k hi lo).det = s.det := rfl
@[simp] theorem State.tiu_incFSat (k hi lo : Nat) : (s.incFSat k hi lo).tiu = s.tiu := rfl
@[simp] theorem State.trig_incFSat (k hi lo : Nat) : (s.incFSat k hi lo).trig = s.trig := rfl
@[simp] theorem State.tbus_incFSat (k hi lo : Nat) : (s.incFSat k hi lo).tbus = s.tbus := rfl
@[simp] theorem State.mem_incFSat (k hi lo : Nat) : (s.incFSat k hi lo).mem = s.mem := rfl
@[simp] theorem State.acq_incFSat (k hi lo : Nat) : (s.incFSat k hi lo).acq = s.acq := rfl
@[simp] theorem State.eng_incFSat (k hi lo : Nat) : (s.incFSat k hi lo).eng = s.eng := rfl
@[simp] theorem State.evb_incFSat (k hi lo : Nat) : (s.incFSat k hi lo).evb = s.evb := rfl
@[simp] theorem State.que_incFSat (k hi lo : Nat) : (s.incFSat k hi lo).que = s.que := rfl
@[simp] theorem State.lane_incFSat (k hi lo : Nat) : (s.incFSat k hi lo).lane = s.lane := rfl
@[simp] theorem State.slow_incFSat (k hi lo : Nat) : (s.incFSat k hi lo).slow = s.slow := rfl
@[simp] theorem State.servo_incFSat (k hi lo : Nat) : (s.incFSat k hi lo).servo = s.servo := rfl
@[simp] theorem State.light_incFSat (k hi lo : Nat) : (s.incFSat k hi lo).light = s.light := rfl
@[simp] theorem State.stw_incFSat (k hi lo : Nat) : (s.incFSat k hi lo).stw = s.stw := rfl
@[simp] theorem State.upd_incFSat (k hi lo : Nat) : (s.incFSat k hi lo).upd = s.upd := rfl
@[simp] theorem State.age_incFSat (k hi lo : Nat) : (s.incFSat k hi lo).age = s.age := rfl
@[simp] theorem State.variant_emit (x : Output) : (s.emit x).variant = s.variant := rfl
@[simp] theorem State.variant_draw : s.draw.variant = s.variant := rfl
@[simp] theorem State.pending_emit (x : Output) : (s.emit x).pending = s.pending := rfl
@[simp] theorem State.pending_draw : s.draw.pending = s.pending := rfl
@[simp] theorem State.out_draw : s.draw.out = s.out := rfl
@[simp] theorem State.fresh_emit (x : Output) : (s.emit x).fresh = s.fresh := rfl
@[simp] theorem State.fab_emit (x : Output) : (s.emit x).fab = s.fab := rfl
@[simp] theorem State.fab_draw : s.draw.fab = s.fab := rfl
@[simp] theorem State.mode_emit (x : Output) : (s.emit x).mode = s.mode := rfl
@[simp] theorem State.mode_draw : s.draw.mode = s.mode := rfl
@[simp] theorem State.time_emit (x : Output) : (s.emit x).time = s.time := rfl
@[simp] theorem State.time_draw : s.draw.time = s.time := rfl
@[simp] theorem State.det_emit (x : Output) : (s.emit x).det = s.det := rfl
@[simp] theorem State.det_draw : s.draw.det = s.det := rfl
@[simp] theorem State.tiu_emit (x : Output) : (s.emit x).tiu = s.tiu := rfl
@[simp] theorem State.tiu_draw : s.draw.tiu = s.tiu := rfl
@[simp] theorem State.trig_emit (x : Output) : (s.emit x).trig = s.trig := rfl
@[simp] theorem State.trig_draw : s.draw.trig = s.trig := rfl
@[simp] theorem State.tbus_emit (x : Output) : (s.emit x).tbus = s.tbus := rfl
@[simp] theorem State.tbus_draw : s.draw.tbus = s.tbus := rfl
@[simp] theorem State.mem_emit (x : Output) : (s.emit x).mem = s.mem := rfl
@[simp] theorem State.mem_draw : s.draw.mem = s.mem := rfl
@[simp] theorem State.acq_emit (x : Output) : (s.emit x).acq = s.acq := rfl
@[simp] theorem State.acq_draw : s.draw.acq = s.acq := rfl
@[simp] theorem State.eng_emit (x : Output) : (s.emit x).eng = s.eng := rfl
@[simp] theorem State.eng_draw : s.draw.eng = s.eng := rfl
@[simp] theorem State.evb_emit (x : Output) : (s.emit x).evb = s.evb := rfl
@[simp] theorem State.evb_draw : s.draw.evb = s.evb := rfl
@[simp] theorem State.que_emit (x : Output) : (s.emit x).que = s.que := rfl
@[simp] theorem State.que_draw : s.draw.que = s.que := rfl
@[simp] theorem State.lane_emit (x : Output) : (s.emit x).lane = s.lane := rfl
@[simp] theorem State.lane_draw : s.draw.lane = s.lane := rfl
@[simp] theorem State.slow_emit (x : Output) : (s.emit x).slow = s.slow := rfl
@[simp] theorem State.slow_draw : s.draw.slow = s.slow := rfl
@[simp] theorem State.servo_emit (x : Output) : (s.emit x).servo = s.servo := rfl
@[simp] theorem State.servo_draw : s.draw.servo = s.servo := rfl
@[simp] theorem State.light_emit (x : Output) : (s.emit x).light = s.light := rfl
@[simp] theorem State.light_draw : s.draw.light = s.light := rfl
@[simp] theorem State.stw_emit (x : Output) : (s.emit x).stw = s.stw := rfl
@[simp] theorem State.stw_draw : s.draw.stw = s.stw := rfl
@[simp] theorem State.upd_emit (x : Output) : (s.emit x).upd = s.upd := rfl
@[simp] theorem State.upd_draw : s.draw.upd = s.upd := rfl
@[simp] theorem State.age_emit (x : Output) : (s.emit x).age = s.age := rfl
@[simp] theorem State.age_draw : s.draw.age = s.age := rfl

end Sys2Proof.Machine
end

