-- ==== Sys2Proof/Safety.lean ====
section
/-!
DEFINITION. What counts as a safe step and a safe run, the canonical form of a state, and the words that claims about
commands use: a command completes, a register write is taken.
-/
namespace Sys2Proof

/-- An outcome that is a next state. -/
def answersNext (o : Host.Outcome Machine.State Machine.Fault Machine.Refusal) : Prop := ∃ s', o = .next s'

/-- A state from which `n` steps run without a fault or a refusal. -/
def safeFor (n : Nat) (s : Machine.State) : Prop := answersNext (core.run n s)

/-- Command `c` runs in `s` to a next state of which `P` holds. -/
def completes (c : Instr) (s : Machine.State) (P : Machine.State → Prop) : Prop := ∃ t, Machine.exec c s = .next t ∧ P t

namespace Machine

/-- The canonical form of a state: the register store and the memory list their entries in rising order, and none that
reads as an unlisted one does. -/
def State.canonical (s : State) : Prop := swf resetOf s.regs = true ∧ s.mem.wf = true

/-- A write of `v` from domain `d` to BAR0 offset `addr` is taken and performed at once (R40, R41, R75, R84, R94, R96, R98,
R607, R720). -/
def State.takes (s : State) (d : Dom) (addr : Nat) (v : Word) : Bool :=
  (decide (d ≠ .stw) || s.activeStw.isSome) && s.domAnswers d && s.pageExists (addr / 0x1000) && s.mayWrite d addr &&
  !ctrlHeld addr && s.islandLive 26 && !s.inWarm && !s.fab.inReset.getLsbD (islandOf addr) && !s.fab.stopped.getLsbD (islandOf addr) &&
  !s.srst (ownPage (addr / 0x1000)) &&
  (match regRow? addr with
    | some r => !discardedWhole r v
    | none => true)

/-- A data transfer from island `i` to island `j` passes at once: the crossing is open, both clocks run, and nothing on it waits
(R37, R40). -/
def State.passes (s : State) (i j : Nat) : Bool := s.crosses i j && s.xfers.all (fun x => decide (x.ends ≠ (i, j)))

/-- The command queue of tile `t` has room: its tile listens and takes the next write at once, or there is none to listen (R298). -/
def State.roomFor (s : State) (t : Nat) : Bool :=
  !s.tileListens t || (decide ((s.tile t).cbus.length < 64) && (s.tile t).cbusHeld.isEmpty)

/-- No earlier write of the reader's port waits for a stopped island, a page reset or a tile's queue (R90). -/
def State.noneWaits (s : State) (r : Requester) : Bool :=
  match r with
  | .port p => s.fab.held.all (fun e => !portWaits p e.2) && s.fab.srstHeld.all (fun e => !portWaits p e.2) &&
    s.det.tiles.all (fun t => !portWaits p t.2.cbusHeld)
  | _ => true

/-- A read of requester `r` at `addr` reaches its register (R23, R41, R75, R90, R94). -/
def State.reads (s : State) (r : Requester) (addr : Nat) : Bool :=
  s.asks r && s.pageExists (addr / 0x1000) && !ctrlHeld addr && (s.deadIsland addr).isNone && s.noneWaits r &&
  !s.srst (ownPage (addr / 0x1000))

/-- Every memory byte reads in `t` as it does in `s`: stored bytes, their background and their flipped bits. -/
def sameMemory (s t : State) : Prop :=
  ∀ k, t.mem.byte k = s.mem.byte k ∧ sget 0 k t.mem.flips = sget 0 k s.mem.flips

/-- Every cell of the SRAM-class memories, flipped bits included, holds in `t` what it holds in `s` (R504). -/
def sameCells (s t : State) : Prop :=
  ∀ code addr : Nat, code < 25 → addr < memSize code →
    t.mem.byte (memKey code addr) = s.mem.byte (memKey code addr) ∧
    sget 0 (memKey code addr) t.mem.flips = sget 0 (memKey code addr) s.mem.flips

/-- Every register but those of a list holds in `t` what it holds in `s`. -/
def sameRegsBut (ks : List Nat) (s t : State) : Prop := ∀ k, k ∉ ks → t.rd k = s.rd k

/-- Every register of every page but those of a list holds in `t` what it holds in `s`. -/
def samePagesBut (ps : List Nat) (s t : State) : Prop := ∀ k, k / 0x1000 ∉ ps → t.rd k = s.rd k

/-- Engine `e` runs, the word at its PC reads as `w`, and `cost` more cycles fit its budget (R397, R402). -/
def State.runsWord (s : State) (e : Nat) (w : Word) (cost : Nat) : Prop :=
  s.engRuns e = true ∧ (s.engFetch e).2 = some w ∧ (s.engine e).fits cost = true

/-- Nothing changed but engine `e`, the registers of its cluster's page and the counters of the fetch's memory check. -/
def engineFrame (s t : State) (e : Nat) : Prop :=
  (∀ e', e' ≠ e → t.engine e' = s.engine e') ∧ samePagesBut [Pg.secc, Pg.ecl (e / 8)] s t

/-- Engine `e` has gone on to the next instruction in `cost` cycles with `r` in register `d` (g0 takes nothing) and the flags
`fl`; all else of it stays, and nothing else changed, memory included. -/
def engineWrote (s t : State) (e d : Nat) (r : Word) (fl : EFlags) (cost : Nat) : Prop :=
  let x := s.engine e
  let y := t.engine e
  (∀ k, y.g k = if k = d ∧ d ≠ 0 then r else x.g k) ∧
  y = { x with regs := y.regs, fl := fl, pc := (x.pc + 1) % 4096, used := x.used + cost } ∧
  engineFrame s t e ∧ t.mem = s.mem

end Machine
end Sys2Proof
end

