-- ==== Sys2Proof/Certificates/Slice0/Obligations.lean ====
section
/-!
DEFINITION. The statements for the provers. Each docstring names the rules of spec/ that the statement formalises.
-/
open Sys2Proof Sys2Proof.Machine

/-- O1. A step with command c at the front of the queue is exec of c on the state with the queue's rest. -/
def Obligations.StepRunsTheFrontCommand : Prop :=
  ∀ (c : Instr) (r : List Instr) (s : State), s.pending = c :: r → step s = exec c { s with pending := r }

/-- O2. A step on an empty queue lets one tick of MTIME pass while the time bases run, and changes no register, memory byte or queue (model's choice, log 4). -/
def Obligations.IdleStepLetsATickPass : Prop :=
  ∀ s : State, s.pending = [] →
    ∃ t, step s = .next t ∧ t.regs = s.regs ∧ t.mem = s.mem ∧ t.fab = s.fab ∧ t.pending = [] ∧
      (s.time.running = true → t.time.mtime = s.time.mtime + 1) ∧ (s.time.running = false → t = s)

/-- O3. No command of the table stops the module: every command answers a next state in every state. -/
def Obligations.EveryCommandAnswersANextState : Prop := ∀ (c : Instr) (s : State), answersNext (exec c s)

/-- O4. Every step keeps the register store and the memory in canonical form. -/
def Obligations.EveryStepKeepsCanonicalStores : Prop := ∀ s t : State, s.canonical → step s = .next t → t.canonical

/-- O5. The state after reset has its register store and its memory in canonical form. -/
def Obligations.ResetIsCanonical : Prop := State.reset.canonical

/-- O6. Power-on reset (and a brown-out) poisons every SRAM-class cell, which reads as uncorrectable; warm resets change none, island resets of an idle path none. -/
def Obligations.OnlyPowerOnResetPoisonsMemory : Prop :=
  (∀ s : State, ∀ c ∈ [Instr.powerOnReset, Instr.brownout], completes c s (fun t =>
    (∀ code addr : Nat, code < 25 → addr < memSize code →
      t.mem.byte (memKey code addr) = none ∧ (t.smRead code addr 1).2.2 = true) ∧ t.activeStw = none)) ∧
  (∀ code addr : Nat, code < 25 → addr < memSize code →
    State.reset.mem.byte (memKey code addr) = none ∧ (State.reset.smRead code addr 1).2.2 = true) ∧
  (∀ (s : State) (d : Dom) (v : Word), ∀ c ∈ [Instr.wrstNReset, Instr.sysResetWrite d v], completes c s (fun t => sameCells s t)) ∧
  (∀ (s : State) (n : Fin 28), completes (.islandResetEnd n) s (fun t => sameMemory s t)) ∧
  (∀ (s : State) (d : Dom) (v : Word) (n : Fin 28), s.eng = {} → s.evb = {} → s.acq = {} → s.que.packets = [] →
    ∀ c ∈ [Instr.islandReset d v, Instr.clockCheckFail n], completes c s (fun t => sameCells s t))

/-- O7. REGISTER_WRITE of a plain register: RW and RWS bits take the value, W1C bits clear, RWL bits follow the lock, all else stays. -/
def Obligations.PlainRegisterWritesFollowTheirAccessCodes : Prop :=
  ∀ (q : Requester) (addr : Nat) (v : Word) (r : RegRow) (s : State),
    let p := addr / 0x1000
    let d := s.reqDomain q
    s.asks q = true → (∀ b, q = .steward b → s.activeStw = some b.val) → addr % 4 = 0 → 0x40 ≤ addr % 0x1000 →
    p ∈ [Pg.clk, Pg.tpath, Pg.rle, Pg.eng, Pg.que, Pg.pcie 0, Pg.pcie 1] →
    s.takes d addr v = true → regRow? addr = some r → r.enc = [] →
    let wm := word r.rw ||| word r.rws ||| (if s.locked p then 0 else word r.rwl)
    completes (.registerWrite q addr v) s (fun t =>
      t.rd addr = ((((s.rd addr &&& ~~~wm) ||| (v &&& wm)) &&& ~~~(v &&& word r.w1c)) ||| (v &&& word r.w1s)) ∧
      sameRegsBut [addr, Reg.ownStwOverride] s t ∧ t.mem = s.mem)

/-- O8. A write from a domain that may not write a page leaves everything but the denial log and the domain's denial count. -/
def Obligations.DeniedWriteIsLoggedAndCounted : Prop :=
  ∀ (q : Requester) (addr : Nat) (v : Word) (s : State),
    let d := s.reqDomain q
    let e := s.fld Reg.ownDenyHead 3 0
    let k := domIdx d
    s.asks q = true → (∀ b, q = .steward b → s.activeStw = some b.val) → addr % 4 = 0 → addr < 0xFFE000 →
    (∀ b, q = .steward b → addr ≠ Reg.stwKick ∧ addr ≠ Reg.stwAluSig) →
    s.islandLive 26 = true → s.inWarm = false → s.pageExists (addr / 0x1000) = true → s.mayWrite d addr = false →
    completes (.registerWrite q addr v) s (fun t =>
      t.rd (Reg.ownDenyLog e 0) = word (k * 2 ^ 30 + (addr / 0x1000 % 0x1000) * 2 ^ 16 + addr % 0x1000) ∧
      t.rd (Reg.ownDenyLog e 1) = v ∧ t.rd (Reg.ownDenyLog e 2) = word s.now ∧
      t.rd (Reg.ownDenyLog e 3) = word (s.now / 2 ^ 32) ∧
      t.fld Reg.ownDenyHead 3 0 = (e + 1) % 16 ∧
      t.fld Reg.ownDenyCount (8 * k + 7) (8 * k) = Nat.min (s.fld Reg.ownDenyCount (8 * k + 7) (8 * k) + 1) 255 ∧
      sameRegsBut [Reg.ownDenyLog e 0, Reg.ownDenyLog e 1, Reg.ownDenyLog e 2, Reg.ownDenyLog e 3, Reg.ownDenyHead,
        Reg.ownDenyCount] s t ∧ t.mem = s.mem ∧ t.fab = s.fab ∧ t.mode = s.mode)

/-- O9. An accepted write with a wrong KEY or a 1 where the table says Must be 0 changes nothing but the page's STICKY.REFUSED. -/
def Obligations.WrongKeyDiscardsTheWholeWrite : Prop :=
  ∀ (q : Requester) (addr : Nat) (v : Word) (r : RegRow) (s : State),
    let p := addr / 0x1000
    let d := s.reqDomain q
    s.asks q = true → d ≠ .stw → addr % 4 = 0 → addr < 0xFFE000 → s.islandLive 26 = true → s.inWarm = false →
    s.pageExists p = true → s.mayWrite d addr = true → ctrlHeld addr = false →
    s.fab.inReset.getLsbD (islandOf addr) = false → s.fab.stopped.getLsbD (islandOf addr) = false →
    s.srst (ownPage p) = false → regRow? addr = some r → discardedWhole r v = true →
    completes (.registerWrite q addr v) s (fun t =>
      t.flag (Reg.sticky (ownPage p)) 0 = true ∧ sameRegsBut [Reg.sticky (ownPage p)] s t ∧ t.mem = s.mem)

/-- O10. READ_LO_LATCH_HI latches the HI half for its requester; a read of a stopped or reset island gives 0xFFFF_FFFF; CAP_HI clears FULL. -/
def Obligations.ReadsReturnAndLatch : Prop :=
  (∀ (r : Requester) (addr : Nat) (s : State), s.reads r addr = true → isLo addr = true →
    completes (.readLoLatchHi r addr) s (fun t =>
      t.out = s.out ++ [.readData r addr (s.live (s.reqDom r) addr)] ∧
      sget (0, 0) (reqIdx r) t.fab.latch = (addr + 4, s.live (s.reqDom r) (addr + 4)) ∧ t.regs = s.regs ∧ t.mem = s.mem)) ∧
  (∀ (r : Requester) (addr : Nat) (s : State), s.asks r = true → s.pageExists (addr / 0x1000) = true →
    addr < 0xFFE000 → ctrlHeld addr = false → s.islandLive (islandOf addr) = false →
    completes (.stoppedIslandRead r addr) s (fun t =>
      t.out = s.out ++ [.readData r addr 0xFFFFFFFF] ∧
      sget 0 (s.reqDom r) t.fab.stoppedSeen = sget 0 (s.reqDom r) s.fab.stoppedSeen ||| word (2 ^ islandOf addr) ∧
      t.regs = s.regs ∧ t.mem = s.mem)) ∧
  (∀ (r : Requester) (addr : Nat) (s : State), s.asks r = true → addr < 0xFFE000 → s.inWarm = true →
    let i := if s.pageExists (addr / 0x1000) && !ctrlHeld addr then islandOf addr else 26
    completes (.stoppedIslandRead r addr) s (fun t =>
      t.out = s.out ++ [.readData r addr 0xFFFFFFFF] ∧
      sget 0 (s.reqDom r) t.fab.stoppedSeen = sget 0 (s.reqDom r) s.fab.stoppedSeen ||| word (2 ^ i) ∧
      t.regs = s.regs ∧ t.mem = s.mem)) ∧
  (∀ (r : Requester) (addr : Nat) (s : State), s.asks r = true → addr < 0xFFE000 → s.islandLive (islandOf addr) = true →
    s.inWarm = false → s.islandLive 26 = false → completes (.stoppedIslandRead r addr) s (fun t =>
      t.out = s.out ++ [.readData r addr 0xFFFFFFFF] ∧
      sget 0 (s.reqDom r) t.fab.stoppedSeen = sget 0 (s.reqDom r) s.fab.stoppedSeen ||| word (2 ^ 26) ∧
      t.regs = s.regs ∧ t.mem = s.mem)) ∧
  (∀ (r : Requester) (i : Fin 24) (s : State), s.reads r (Reg.timeCapHi i) = true →
    completes (.capHiRead r i) s (fun t =>
      t.flag (Reg.timeCapStat i) 31 = false ∧ (∃ v, t.out = s.out ++ [.readData r (Reg.timeCapHi i) v]) ∧
      sameRegsBut [Reg.timeCapStat i] s t ∧ t.mem = s.mem)) ∧
  (∀ (r : Requester) (u : Fin 4) (s : State), s.reads r (Reg.tiuResHi u) = true →
    completes (.tiuResHiRead r u) s (fun t =>
      (t.tiuUnit u).queue = (s.tiuUnit u).queue.tail ∧ (∃ v, t.out = s.out ++ [.readData r (Reg.tiuResHi u) v]) ∧
      t.mem = s.mem))

/-- O11. PAGE_RESET, PAGE_LOCK and INT_FORCE act on their page's header; PAGE_RESET_COMPLETE returns the page's registers but the kept ones. -/
def Obligations.PagesResetLockAndForce : Prop :=
  (
  ∀ (d : Dom) (p : Nat) (v : Word) (s : State), p < 0x100 →
    let tile := 0x10 ≤ p ∧ p < 0x20
    let room := tile → s.roomFor (p - 0x10) = true
    let held := fun (k : Nat) (w : Word) (t : State) =>
      (t.tile (p - 0x10)).cbusHeld = (s.tile (p - 0x10)).cbusHeld ++ [{ dom := d, addr := k, val := w }] ∧
      sameRegsBut [Reg.ownStwOverride] s t ∧ t.mem = s.mem
    (room → s.takes d (Reg.pageCtl p) (2 ||| (s.rd (Reg.pageCtl p) &&& 1)) = true →
      completes (.pageReset d p) s (fun t =>
        t.srst p = true ∧ t.locked p = s.locked p ∧ sameRegsBut [Reg.pageCtl p, Reg.ownStwOverride] s t ∧ t.mem = s.mem)) ∧
    (room → s.takes d (Reg.pageCtl p) (4 ||| (s.rd (Reg.pageCtl p) &&& 1)) = true →
      completes (.pageLock d p) s (fun t =>
        t.locked p = true ∧ sameRegsBut [Reg.pageCtl p, Reg.ownStwOverride] s t ∧ t.mem = s.mem)) ∧
    (room → s.takes d (Reg.intForce p) v = true →
      completes (.intForce d p v) s (fun t =>
        t.rd (Reg.intStat p) = s.rd (Reg.intStat p) ||| (v &&& word (pageInfo p).intMask) ∧
        sameRegsBut [Reg.intStat p, Reg.ownStwOverride] s t ∧ t.mem = s.mem)) ∧
    (tile → s.roomFor (p - 0x10) = false →
      let en := s.rd (Reg.pageCtl p) &&& 1
      (s.takes d (Reg.pageCtl p) (2 ||| en) = true →
        completes (.pageReset d p) s (fun t => held (Reg.pageCtl p) (2 ||| en) t)) ∧
      (s.takes d (Reg.pageCtl p) (4 ||| en) = true →
        completes (.pageLock d p) s (fun t => held (Reg.pageCtl p) (4 ||| en) t)) ∧
      (s.takes d (Reg.intForce p) v = true → completes (.intForce d p v) s (fun t => held (Reg.intForce p) v t))))
  ∧ (
  ∀ (p : Nat) (s : State), s.canonical → p ∈ [Pg.clk, Pg.tpath, Pg.eng, Pg.svcoef, Pg.pcie 0, Pg.pcie 1] →
    s.srst p = true → sget [] p s.fab.srstHeld = [] →
    completes (.pageResetComplete p) s (fun t =>
      t.srst p = false ∧ t.locked p = s.locked p ∧ t.fab.own = s.fab.own ∧ t.mem = s.mem ∧
      (∀ k, k / 0x1000 ≠ p → t.rd k = s.rd k) ∧
      (∀ k r, k / 0x1000 = p → 0x40 ≤ k % 0x1000 → regRow? k = some r →
        let kept := word r.rws ||| (if s.locked p then word r.rwl else 0) ||| keptBits k
        t.rd k = (resetOf k &&& ~~~kept) ||| (s.rd k &&& kept))))

/-- O12. CLAIM takes every page of its range or none, with its code and page in OWN.RESULT; RELEASE frees every page of its range or none. -/
def Obligations.ClaimAndReleaseAreAllOrNone : Prop :=
  (
  ∀ (d : Dom) (v : Word) (s : State), s.takes d Reg.ownClaim v = true →
    let judged := (List.range (wfld v 24 12)).map (fun i => wfld v 11 0 + i) |>.filter (fun p => p < 0x100 || 0x110 ≤ p)
    let reserved := fun p => (p = Pg.pcie 0 ∧ d ≠ .pcie0) ∨ (p = Pg.pcie 1 ∧ d ≠ .pcie1)
    let good := fun p => s.owner p ≠ .fixed ∧ ¬ reserved p ∧ (s.owner p = .free ∨ s.owner p = .held d)
    let result := fun (t : State) => sget (resetOf Reg.ownResult) (domIdx d) t.fab.result
    let policy := (s.rd Reg.ownPolicy).getLsbD (4 + domIdx d)
    (policy = true → wfld v 24 12 ≠ 0 → (∀ p ∈ judged, s.pageExists p = true ∧ good p) →
      completes (.claim d v) s (fun t =>
        (∀ p, t.owner p = if p ∈ judged then .held d else s.owner p) ∧ result t = 0x80000000 ∧
        sameRegsBut [Reg.ownStwOverride] s t ∧ t.mem = s.mem)) ∧
    (∀ code bad : Nat,
      ((policy = false ∧ code = 5 ∧ bad = 0) ∨
       (policy = true ∧ wfld v 24 12 = 0 ∧ code = 3 ∧ bad = wfld v 11 0) ∨
       (policy = true ∧ wfld v 24 12 ≠ 0 ∧ judged.find? (fun p => !s.pageExists p) = some bad ∧ code = 3) ∨
       (policy = true ∧ wfld v 24 12 ≠ 0 ∧ judged.find? (fun p => !s.pageExists p) = none ∧
        judged.find? (fun p => decide (¬ good p)) = some bad ∧
        code = if s.owner bad = .fixed then 2 else if reserved bad then 5 else 1)) →
      completes (.claim d v) s (fun t =>
        (∀ p, t.owner p = s.owner p) ∧ result t = word (2 ^ 31 + code * 2 ^ 28 + bad) ∧
        sameRegsBut [Reg.ownStwOverride] s t ∧ t.mem = s.mem)))
  ∧ (
  ∀ (d : Dom) (v : Word) (s : State), s.takes d Reg.ownRelease v = true →
    let judged := (List.range (wfld v 24 12)).map (fun i => wfld v 11 0 + i) |>.filter (fun p => p < 0x100 || 0x110 ≤ p)
    let policy := (s.rd Reg.ownPolicy).getLsbD (4 + domIdx d)
    let wins := policy = true ∧ wfld v 24 12 ≠ 0 ∧ ∀ p ∈ judged, s.pageExists p = true ∧ s.owner p = .held d
    (wins → completes (.release d v) s (fun t =>
      (∀ p, t.owner p = if p ∈ judged then .free else s.owner p) ∧
      sget (resetOf Reg.ownResult) (domIdx d) t.fab.result = 0x80000000 ∧
      sameRegsBut [Reg.ownStwOverride] s t ∧ t.mem = s.mem)) ∧
    (¬ wins → completes (.release d v) s (fun t =>
      (∀ p, t.owner p = s.owner p) ∧ sameRegsBut [Reg.ownStwOverride] s t ∧ t.mem = s.mem)))

/-- O13. REVOKE, DOWNLINK_ABSENCE_REVOKE and PCIE_LINK_DOWN return every page HELD by their domain to FREE, and count it when there is one. -/
def Obligations.RevocationsReturnHeldPages : Prop :=
  let revoked := fun (e : Dom) (s t : State) =>
    (∀ p, t.owner p = if s.owner p = .held e then .free else s.owner p) ∧
    ((∃ p, s.owner p = .held e) → t.nat Reg.ownRevokeCount = Nat.min (s.nat Reg.ownRevokeCount + 1) 0xFFFFFFFF) ∧
    ((∀ p, s.owner p ≠ .held e) → t.nat Reg.ownRevokeCount = s.nat Reg.ownRevokeCount)
  let tableOk := fun (s : State) => swf s.ownReset s.fab.own = true
  (∀ (v : Word) (s : State), tableOk s → s.takes .stw Reg.ownRevoke v = true → wfld v 1 0 ≠ 0 →
    completes (.revoke .stw v) s (fun t => revoked (domOf (wfld v 1 0)) s t ∧ t.mem = s.mem)) ∧
  (∀ (u : Nat) (s : State), tableOk s → s.lane.dlDown = some u →
    completes .downlinkAbsenceRevoke s (fun t => revoked .dl s t ∧ t.mem = s.mem)) ∧
  (∀ (p : Fin 2) (s : State), tableOk s → s.flag Reg.ownPolicy 8 = true →
    completes (.pcieLinkDown p) s (fun t =>
      revoked (if p = 0 then .pcie0 else .pcie1) s t ∧ (t.port p).linkUp = false ∧ t.rd (Reg.pcieLink p) = 0 ∧ t.mem = s.mem)) ∧
  (∀ (p : Fin 2) (s : State), s.flag Reg.ownPolicy 8 = false →
    completes (.pcieLinkDown p) s (fun t =>
      t.fab.own = s.fab.own ∧ (t.port p).linkUp = false ∧ t.rd (Reg.pcieLink p) = 0 ∧ t.mem = s.mem))

/-- O14. MSI-X messages are sent once per service and EOI ends it; links, power states and hot resets act on their own port alone. -/
def Obligations.PortsSendMessagesAndFollowLinks : Prop :=
  (
  let bit := fun (p v : Nat) => if v < 32 then Reg.irqInsvcLo p else Reg.irqInsvcHi p
  let table := fun (s : State) (p v o : Nat) => sget (msixReset (16 * v + o)) (16 * v + o) (s.port p).table
  let msg := fun (s : State) (p : Fin 2) (v : Nat) =>
    Output.msix p v ((table s p v 0).toNat + (table s p v 4).toNat * 2 ^ 32) (table s p v 8)
  let able := fun (s : State) (p : Nat) => s.portAnswers p = true ∧ (s.port p).msixEn = true ∧
    s.fab.stopped.getLsbD 26 = false ∧ s.fab.stopped.getLsbD (22 + p) = false
  (∀ (p : Fin 2) (v : Fin 64) (s : State), able s p → (s.port p).maskedVec v = false → s.inService p v = false →
    s.vecActive p v = true → completes (.msixSend p v) s (fun t =>
      t.out = s.out ++ [msg s p v] ∧ t.flag (bit p v) (v % 32) = true ∧ t.rd (Reg.irqMsgcount p) = s.rd (Reg.irqMsgcount p) + 1 ∧
      sameRegsBut [bit p v, Reg.irqMsgcount p] s t ∧ t.mem = s.mem)) ∧
  (∀ (p : Fin 2) (v : Fin 64) (s : State), able s p → (s.port p).maskedVec v = true → s.inService p v = false →
    s.vecActive p v = true → completes (.msixSend p v) s (fun t =>
      t.out = s.out ∧ (t.port p).pba.getLsbD v = true ∧ t.regs = s.regs ∧ t.mem = s.mem)) ∧
  (∀ (p : Fin 2) (v : Fin 64) (s : State), s.inService p v = true ∨ s.vecActive p v = false →
    completes (.msixSend p v) s (fun t => t.out = s.out ∧ t.regs = s.regs ∧ t.mem = s.mem ∧
      ∀ (q : Fin 2) (w : Fin 64), s.vecActive q w = true → (t.port q).pba.getLsbD w = (s.port q).pba.getLsbD w)) ∧
  (∀ (d : Dom) (p : Fin 2) (v : Word) (s : State), s.takes d (Reg.irqEoi p) v = true → s.vecActive p (wfld v 5 0) = false →
    completes (.eoi d p v) s (fun t =>
      t.flag (bit p (wfld v 5 0)) (wfld v 5 0 % 32) = false ∧ t.out = s.out ∧
      sameRegsBut [bit p (wfld v 5 0), Reg.ownStwOverride] s t ∧ t.mem = s.mem)) ∧
  (∀ (d : Dom) (p : Fin 2) (v : Word) (s : State), s.takes d (Reg.irqEoi p) v = true → able s p →
    (s.port p).maskedVec (wfld v 5 0) = false → s.vecActive p (wfld v 5 0) = true →
    completes (.eoi d p v) s (fun t =>
      t.flag (bit p (wfld v 5 0)) (wfld v 5 0 % 32) = true ∧ t.out = s.out ++ [msg s p (wfld v 5 0)] ∧ t.mem = s.mem)) ∧
  (∀ (p : Fin 2) (v : Fin 64) (s : State), able s p → (s.port p).funcMask = false → s.inService p v = false →
    s.vecActive p v = true → completes (.msixUnmask p (.vector v false)) s (fun t =>
      t.out = s.out ++ [msg s p v] ∧ t.flag (bit p v) (v % 32) = true ∧ t.mem = s.mem)) ∧
  (∀ (p : Fin 2) (en m : Bool) (s : State), (s.port p).linkUp = true →
    completes (.msixUnmask p (.control en m)) s (fun t =>
      (t.port p).msixEn = en ∧ (t.port p).funcMask = m ∧ (t.port p).table = (s.port p).table ∧
      (en = false → t.out = s.out ∧ t.regs = s.regs) ∧ t.mem = s.mem)))
  ∧ (
  let followsLinks := fun (s t : State) => ∀ q < 64,
    t.flag (Reg.qdevStat q) 19 = (if s.qOn q then !t.portAnswers (s.qPort q) else s.flag (Reg.qdevStat q) 19) ∧
    (∀ b < 32, b ≠ 19 → t.flag (Reg.qdevStat q) b = s.flag (Reg.qdevStat q) b)
  let sends := fun (p : Fin 2) => [Reg.irqInsvcLo p, Reg.irqInsvcHi p, Reg.irqMsgcount p]
  let judged := fun (p : Fin 2) (s t : State) =>
    (t.portAnswers p = true → (s.port p).msixEn = true → s.fab.stopped.getLsbD 26 = false →
      s.fab.stopped.getLsbD (22 + p.val) = false → ∀ v < 64, s.vecActive p v = true →
      (s.port p).maskedVec v = false → t.inService p v = true) ∧
    ((s.port p).msixEn = false → t.out = s.out ∧ ∀ k ∈ sends p, t.rd k = s.rd k)
  let otherPort := fun (p : Fin 2) (s t : State) =>
    let a := s.port (1 - p.val)
    let b := t.port (1 - p.val)
    b.linkUp = a.linkUp ∧ b.d3 = a.d3 ∧ b.msixEn = a.msixEn ∧ b.funcMask = a.funcMask ∧ b.table = a.table
  (∀ (p : Fin 2) (w sp : Nat) (r : Bool) (s : State), w ∈ [1, 2, 4] → sp ∈ [1, 2, 3, 4] →
    completes (.pcieLinkReturn p w sp r) s (fun t =>
      (t.port p).linkUp = true ∧ t.rd (Reg.pcieLink p) = word (packFields [(1, r.toNat), (1, 1), (4, w), (4, sp)]) ∧
      judged p s t ∧ otherPort p s t ∧ followsLinks s t ∧
      sameRegsBut (Reg.pcieLink p :: sends p ++ (List.range 64).map Reg.qdevStat) s t ∧ t.mem = s.mem)) ∧
  (∀ (p : Fin 2) (d3 : Bool) (s : State),
    completes (.pciePowerState p d3) s (fun t =>
      (t.port p).d3 = d3 ∧ t.portAnswers p = ((s.port p).linkUp && !d3) ∧ judged p s t ∧ otherPort p s t ∧ followsLinks s t ∧
      sameRegsBut (sends p ++ (List.range 64).map Reg.qdevStat) s t ∧ t.mem = s.mem ∧ t.mode = s.mode)) ∧
  (∀ (p : Fin 2) (s : State),
    completes (.pcieHotReset p) s (fun t => ∃ u : State,
      (u.port p).linkUp = (s.port p).linkUp ∧ (u.port p).msixEn = false ∧ (u.port p).table = [] ∧ (u.port p).d3 = false ∧
      (u.port p).cfg = {} ∧ otherPort p s u ∧
      (∀ k, k / 0x1000 ≠ Pg.pcie p → k ∉ (List.range 64).map Reg.qdevStat → u.rd k = s.rd k) ∧ u.mem = s.mem ∧
      u.fab.own = s.fab.own ∧ sget [] (Pg.pcie p) u.fab.srstHeld = [] ∧
      t = (sget [] (Pg.pcie p) s.fab.srstHeld).foldl (fun x h => x.performHeld h) u)) ∧
  (∀ (p : Fin 2) (w : Bool) (off : Nat) (s : State), s.portAnswers p = true →
    completes (.bar0MalformedAccess p w off) s (fun t => t = { s with out := s.out ++ [.unsupported p w off] })) ∧
  (∀ s : State, completes .configRetryTimeout s (fun t => t = { s with fab := { s.fab with cfgRetry := false } })))

/-- O15. WRST_N, SYS.RESET, POWER_ON_RESET and BROWNOUT leave Umbra in force, RESET_CAUSE naming their class and domain, and the fused values. -/
def Obligations.ResetsReportTheirCause : Prop :=
  let warm := fun (cls dom : Nat) (s t : State) =>
    t.fld Reg.sysResetCause 1 0 = cls ∧ t.fld Reg.sysResetCause 5 4 = dom ∧ t.modeNow = 0 ∧
    t.nat Reg.sysWarmCount = Nat.min (s.nat Reg.sysWarmCount + 1) 0xFFFFFFFF ∧ t.time.mtime = s.time.mtime ∧
    (∀ p, t.owner p = t.ownReset p) ∧ t.fab.cfgFixed = [] ∧ t.stwState 0 = 1 ∧ t.stwState 1 = 1
  (∀ s : State, s.flag Reg.clkStatus 2 = true → completes .wrstNReset s (fun t => warm 1 0 s t)) ∧
  (∀ s : State, s.flag Reg.clkStatus 2 = false → completes .wrstNReset s (fun t => t = s)) ∧
  (∀ (d : Dom) (v : Word) (s : State), s.takes d Reg.sysReset v = true →
    completes (.sysResetWrite d v) s (fun t => warm 2 (domIdx d) s t)) ∧
  (∀ s : State, ∀ c ∈ [Instr.powerOnReset, Instr.brownout], completes c s (fun t =>
    t.modeNow = 0 ∧ t.rd Reg.sysResetCause = 0 ∧ t.mode.fatal.getLsbD 3 = s.mode.fatal.getLsbD 3)) ∧
  (∀ s : State, s.stw.burn = none → s.upd.burn = none → s.upd.op = none → s.mode.fatal.getLsbD 3 = false →
    ∀ c ∈ [Instr.powerOnReset, Instr.brownout], completes c s (fun t =>
      t.time = {} ∧ t.upd.flash = s.upd.flash ∧ t.upd.keys = s.upd.keys ∧
      t.pending = s.pending ∧ t.variant = s.variant ∧
      (∀ k, ¬ (0xC200 ≤ k ∧ k < 0xC600) → k ∉ [Reg.updKeys, Reg.sysSerialLo, Reg.sysSerialHi, Reg.guardStatus] →
        ¬ (Reg.ageCcrit 0 ≤ k ∧ k ≤ Reg.ageCcrit 23) → t.rd k = resetOf k)))

/-- O16. Island resets seal crossings, stopped clocks hold accesses, the crossing performs them in order; the first PLL lock starts the module. -/
def Obligations.IslandsAndTheFirstLock : Prop :=
  (
  let down := fun (n : Nat) (t : State) => t.fab.inReset.getLsbD n = true ∧ t.fab.isSealed.getLsbD n = true
  (∀ (d : Dom) (v : Word) (s : State), s.takes d Reg.sysIslandReset v = true → s.resettable (wfld v 4 0) = true →
    wfld v 4 0 ≠ 26 → completes (.islandReset d v) s (fun t => down (wfld v 4 0) t)) ∧
  (∀ (n : Fin 28) (s : State), s.resettable n = true → s.flag Reg.clkStatus 2 = true →
    completes (.clockCheckFail n) s (fun t => down n t)) ∧
  (∀ (n : Fin 28) (s : State), s.resettable n = true → s.fab.inReset.getLsbD n = true → s.flag Reg.clkStatus 2 = true →
    completes (.islandResetEnd n) s (fun t =>
      t.fab.inReset.getLsbD n = false ∧ t.fab.isSealed.getLsbD n = false ∧ t.regs = s.regs ∧ t.mem = s.mem)) ∧
  (∀ (n : Fin 28) (s : State), s.fab.inReset.getLsbD n = false →
    completes (.crossingReopen n) s (fun t =>
      t.fab.isSealed.getLsbD n = false ∧ (∀ m, m ≠ n.val → t.fab.isSealed.getLsbD m = s.fab.isSealed.getLsbD m) ∧
      t.regs = s.regs ∧ t.mem = s.mem)) ∧
  (∀ (n : Fin 28) (s : State), s.islandExists n = true →
    completes (.islandClockStop n) s (fun t =>
      t.fab.stopped.getLsbD n = true ∧ (n.val = 0 → t.time.running = false) ∧ (n.val ≠ 0 → t.time.running = s.time.running) ∧
      t.regs = s.regs ∧ t.mem = s.mem)) ∧
  (∀ (n : Fin 28) (s : State), s.fab.stopped.getLsbD n = true →
    completes (.crossingClockReturn n) s (fun t => ∃ u : State,
      u.fab.stopped.getLsbD n = false ∧ sget [] n.val u.fab.held = [] ∧ u.regs = s.regs ∧ u.mem = s.mem ∧
      let w := (((sget [] n.val s.fab.held).foldl (fun x h => if n.val = 26 then x.landHeld h else x.performHeld h) u).dealReturn
        n).xferReturn
      t = if n.val = 22 ∨ n.val = 23 then w.msixAll (n.val - 22) else if n.val = 26 then (w.msixAll 0).msixAll 1 else w)))
  ∧ (
  (∀ (slot : Fin 16) (en : Bool) (f : Option FlashImage) (s : State), s.flag Reg.clkStatus 2 = false →
    completes (.pllFirstLock slot en f) s (fun t =>
      t.flag Reg.clkStatus 2 = true ∧ t.time.running = true ∧ t.fld Reg.tbusStatus 3 0 = slot ∧
      t.flag Reg.guardStatus 0 = en ∧ t.stwState 0 = 1 ∧ t.stwState 1 = 1 ∧ t.fld Reg.cfgStatus 18 16 = 1 ∧
      t.upd.releaseAt = s.time.up + 4000000 ∧ wfld (t.live 0 Reg.stwRole) 2 0 = 0 ∧ wfld (t.live 0 Reg.stwRole) 6 4 = 0 ∧
      wfld (t.live 0 Reg.cfgStatus) 18 16 = 0 ∧
      t.time.mtime = s.time.mtime ∧ sameMemory s t)) ∧
  (∀ s : State, s.flag Reg.clkStatus 2 = false → s.mode.fatal.getLsbD 4 = false →
    completes .refQualifyTimeout s (fun t =>
      t.flag Reg.sysStatus 3 = (s.time.xtal || s.flag Reg.sysStatus 3) ∧
      t.flag Reg.clkStatus 3 = (s.time.xtal || s.flag Reg.clkStatus 3) ∧
      t.flag Reg.clkStatus 4 = (s.time.xtal || s.flag Reg.clkStatus 4) ∧
      t.mode.fatal.getLsbD 4 = true ∧ t.flag Reg.modeCause 8 = true)))

/-- O17. BAR2 and BAR4 reads return the bytes held, and writes store exactly their enabled bytes inside the port's write window. -/
def Obligations.MemoryWindowsReadAndWrite : Prop :=
  (∀ (p : Fin 2) (a n : Nat) (bs : List Byte) (s : State), s.portAnswers p = true → s.passes (22 + p) 18 = true → a + n ≤ 0x3000000 → bs.length = n →
    (∀ i (h : i < bs.length), s.mem.byte (memKey 0 (a + i)) = some bs[i] ∧ sget 0 (memKey 0 (a + i)) s.mem.flips = 0) →
    completes (.barMemoryRead p false a n) s (fun t => t = { s with out := s.out ++ [.completion p bs false] })) ∧
  (∀ (p : Fin 2) (a n : Nat) (s : State), s.portAnswers p = true → s.passes (22 + p) 18 = true → a + n ≤ 0x3000000 →
    (∃ i, i < n ∧ s.mem.byte (memKey 0 (a + i)) = none ∧ sget 0 (memKey 0 (a + i)) s.mem.flips = 0) →
    completes (.barMemoryRead p false a n) s (fun t =>
      (∃ bs : List Byte, bs.length = n ∧ t.out = s.out ++ [.completion p bs true, .aer p]) ∧ t.mem = s.mem)) ∧
  (∀ (p : Fin 2) (a : Nat) (data : List (Option Byte)) (s : State), s.portAnswers p = true → s.inWin2 p a data.length = true →
    a + data.length ≤ 0x3000000 → s.doorbellsAt p a = [] → s.isSwapDb p a (leNat (data.filterMap id)) = false →
    s.flag Reg.seccInject 31 = false → s.passes (22 + p) 18 = true →
    completes (.barMemoryWrite p false a data) s (fun t =>
      (∀ i b, data[i]? = some (some b) →
        t.mem.byte (memKey 0 (a + i)) = some b ∧ sget 0 (memKey 0 (a + i)) t.mem.flips = 0) ∧
      (∀ k, (∀ i b, data[i]? = some (some b) → k ≠ memKey 0 (a + i)) →
        t.mem.byte k = s.mem.byte k ∧ sget 0 k t.mem.flips = sget 0 k s.mem.flips) ∧
      sameRegsBut [] s t ∧ t.out = s.out)) ∧
  (∀ (p : Fin 2) (a : Nat) (data : List (Option Byte)) (s : State), s.portAnswers p = true →
    s.inWin2 p a data.length = false →
    completes (.barMemoryWrite p false a data) s (fun t =>
      t.nat (Reg.pcieWinDeny p) = Nat.min (s.nat (Reg.pcieWinDeny p) + 1) 0xFFFFFFFF ∧
      sameRegsBut [Reg.pcieWinDeny p] s t ∧ t.mem = s.mem)) ∧
  (∀ (p : Fin 2) (a n : Nat) (s : State), s.portAnswers p = true → s.variant = .t → s.passes (22 + p) 19 = true →
    (∀ g, a / 2048 ≤ g → g * 2048 < a + n → segGet g s.mem.written ≠ 0 ∧ sget 0 g s.mem.dflips = 0) →
    completes (.barMemoryRead p true a n) s (fun t =>
      t = { s with out := s.out ++
        [.completion p ((List.range n).map (fun i => (s.mem.byte (memKey 25 (a + i))).getD 0)) false] })) ∧
  (∀ (p : Fin 2) (g : Nat) (bs : List Byte) (s : State), s.portAnswers p = true → s.variant = .t → bs.length = 2048 →
    s.inWin4 p (g * 2048) 2048 = true → s.flag Reg.deccInject 31 = false → s.passes (22 + p) 19 = true →
    completes (.barMemoryWrite p true (g * 2048) (bs.map some)) s (fun t =>
      (∀ i (h : i < bs.length), t.mem.byte (memKey 25 (g * 2048 + i)) = some bs[i]) ∧
      segGet g t.mem.written = s.fld Reg.deccCtl 2 0 + 1 ∧ sget 0 g t.mem.dflips = 0 ∧
      (∀ k, k < memKey 25 (g * 2048) ∨ memKey 25 (g * 2048 + 2048) ≤ k → t.mem.byte k = s.mem.byte k) ∧
      t.mem.flips = s.mem.flips ∧ sameRegsBut [] s t ∧ t.out = s.out)) ∧
  (∀ (p : Fin 2) (a : Nat) (data : List (Option Byte)) (s : State), s.portAnswers p = true → s.variant = .t →
    s.inWin4 p a data.length = false →
    completes (.barMemoryWrite p true a data) s (fun t =>
      t.nat (Reg.pcieWinDeny p) = Nat.min (s.nat (Reg.pcieWinDeny p) + 1) 0xFFFFFFFF ∧
      sameRegsBut [Reg.pcieWinDeny p] s t ∧ t.mem = s.mem)) ∧
  (∀ (p : Fin 2) (bar4 : Bool) (a n : Nat) (data : List (Option Byte)) (s : State), s.portAnswers p = true → s.variant = .t →
    let e := if bar4 then 19 else 18
    let win := if bar4 then s.inWin4 p a data.length = true
      else s.inWin2 p a data.length = true ∧ s.doorbellsAt p a = [] ∧ s.isSwapDb p a (leNat (data.filterMap id)) = false
    ((s.sealedOff (22 + p.val) || s.sealedOff e) = true →
      completes (.barMemoryRead p bar4 a n) s (fun t => t.out = s.out ∧ t.xfers = s.xfers ∧ t.mem = s.mem) ∧
      (win → completes (.barMemoryWrite p bar4 a data) s (fun t => t.out = s.out ∧ t.xfers = s.xfers ∧ t.mem = s.mem))) ∧
    ((s.sealedOff (22 + p.val) || s.sealedOff e) = false → s.passes (22 + p) e = false →
      completes (.barMemoryRead p bar4 a n) s (fun t => t = { s with xfers := s.xfers ++ [.barRead p bar4 a n] }) ∧
      (win → completes (.barMemoryWrite p bar4 a data) s (fun t =>
        t = { s with xfers := s.xfers ++ [.barWrite p bar4 a data] })))) ∧
  (∀ (p : Fin 2) (a n : Nat) (data : List (Option Byte)) (s : State), s.portAnswers p = true → s.variant = .s →
    completes (.barMemoryRead p true a n) s (fun t => t = { s with out := s.out ++ [.unsupported p false a] }) ∧
    completes (.barMemoryWrite p true a data) s (fun t => t = { s with out := s.out ++ [.unsupported p true a] }))

/-- O18. A doorbell posts commands, and the queue whose turn it is executes its next WRITE, READ or FENCE, answers and counts it. -/
def Obligations.CommandQueuesExecuteInOrder : Prop :=
  let answered := fun (c w0 st : Nat) (data : List Byte) (u t : State) =>
    t.que.packets = u.que.packets ++
      [{ queue := u.fld (Reg.qcmdCtl c) 13 8, src := 3, payload := leBytes 4 w0 ++ leBytes 4 st ++ data }]
  let consumed := fun (c : Nat) (u t : State) =>
    t.rd (Reg.qcmdDone c) = u.rd (Reg.qcmdDone c) + 1 ∧ t.rd (Reg.qcmdExec c) = u.rd (Reg.qcmdExec c) + 1 ∧
    sameRegsBut [Reg.qcmdDone c, Reg.qcmdExec c] u t ∧ t.que.nextCmd = (c + 1) % 16 ∧ (t.cq c).report = true ∧ t.mem = u.mem
  (∀ (p : Fin 2) (c : Fin 16) (v : Word) (s : State), s.portAnswers p = true →
    let a := s.fld (Reg.qcmdBase c) 13 0 * 4096
    s.inWin2 p a 4 = true → s.doorbellsAt p a = [c.val] →
    let good := (v - s.rd (Reg.qcmdDone c)).toNat ≤ s.cmdRing c ∧ (v - s.rd (Reg.qcmdPosted c)).toNat < 2 ^ 31
    (good → completes (.cmdDoorbell p c v) s (fun t =>
      ∃ u : State, u.rd (Reg.qcmdPosted c) = v ∧ sameRegsBut [Reg.qcmdPosted c] s u ∧ u.mem = s.mem ∧
        t = if s.isSwapDb p a v.toNat then u.swapRequest else u)) ∧
    (¬ good → completes (.cmdDoorbell p c v) s (fun t =>
      ∃ u : State, u.flag (Reg.qcmdStat c) 0 = true ∧ u.flag (Reg.intStat Pg.qcmd) c = true ∧
        sameRegsBut [Reg.qcmdStat c, Reg.intStat Pg.qcmd] s u ∧ u.mem = s.mem ∧
        t = if s.isSwapDb p a v.toNat then u.swapRequest else u))) ∧
  (∀ (c : Fin 16) (ws : List Word) (s : State), s.cmdTurn c = true → s.memStill = false → s.fab.stopped.getLsbD 17 = false →
    s.cmdFetch c = (s, ws, false) →
    let w0 := ws.getD 0 0
    let tag := wfld w0 15 0
    (wfld w0 31 28 = 3 → wfld w0 27 24 = 0 → completes (.cmdFence c) s (fun t =>
      answered c (3 * 2 ^ 28 + tag) 0 [] s t ∧ consumed c s t)) ∧
    (let n := wfld w0 27 24
      let addrs := (List.range n).map (fun i => wfld (ws.getD (2 + i) 0) 23 0)
      let r := addrs.foldl (fun (x : State × List Word) a =>
        let y := x.1.busRead (.queue c) a
        (y.1, x.2 ++ [y.2.getD 0])) (s, [])
      wfld w0 31 28 = 2 → cmdLegal 2 n = true →
      (∀ a ∈ addrs, s.aimsStopped a = false ∧ s.srst (ownPage (a / 0x1000)) = false) →
      completes (.cmdRead c) s (fun t =>
        answered c (2 * 2 ^ 28 + n * 2 ^ 24 + tag) 0 (r.2.flatMap wordBytes) r.1 t ∧ consumed c r.1 t)) ∧
    (let n := wfld w0 27 24
      let at' := fun i => wfld (ws.getD (2 + 2 * i) 0) 23 0
      let u := fun k => (List.range k).foldl (fun x i => x.reqWrite (.queue c) (at' i) (ws.getD (3 + 2 * i) 0)) s
      wfld w0 31 28 = 1 → cmdLegal 1 n = true →
      (∀ k < n, (u k).aimsStopped (at' k) = false ∧ s.cmdGoes (u (k + 1)) = true ∧
        ((u k).pageExists (at' k / 0x1000) = true → (u k).mayWrite ((u k).reqDomain (.queue c)) (at' k) = true)) →
      completes (.cmdWrite c) s (fun t => consumed c (u n) t ∧
        (w0.getLsbD 20 = true → answered c (2 ^ 28 + n * 2 ^ 24 + tag) 0 [] (u n) t) ∧
        (w0.getLsbD 20 = false → t.que.packets = (u n).que.packets))) ∧
    (cmdLegal (wfld w0 31 28) (wfld w0 27 24) = false →
      completes (.cmdWrite c) s (fun t =>
        answered c (wfld w0 31 28 * 2 ^ 28 + wfld w0 27 24 * 2 ^ 24 + 2 ^ 21 + tag) 0 [] s t ∧
        t.rd (Reg.qcmdDone c) = s.rd (Reg.qcmdDone c) + 1 ∧ sameRegsBut [Reg.qcmdDone c] s t ∧ t.mem = s.mem))) ∧
  (∀ (c : Fin 16) (ws : List Word) (s u : State), s.cmdTurn c = true → s.memStill = false → s.fab.stopped.getLsbD 17 = false →
    s.cmdFetch c = (u, ws, true) →
    let w0 := ws.getD 0 0
    ∀ i ∈ [Instr.cmdWrite c, Instr.cmdRead c, Instr.cmdFence c], completes i s (fun t =>
      answered c (wfld w0 31 28 * 2 ^ 28 + wfld w0 27 24 * 2 ^ 24 + 2 ^ 21 + wfld w0 15 0) 0 [] u t ∧
      t.rd (Reg.qcmdDone c) = u.rd (Reg.qcmdDone c) + 1 ∧ sameRegsBut [Reg.qcmdDone c] u t ∧ t.mem = u.mem)) ∧
  (∀ (c : Fin 16) (s : State), (s.cq c).report = true →
    let p : Fin 2 := if s.flag (Reg.qcmdCtl c) 4 then 1 else 0
    (s.portAnswers p = true → completes (.cmdCreditUpdate c true) s (fun t =>
      t.out = s.out ++ [.hostWrite p (s.rd64 (Reg.qcmdCredLo c)) (leBytes 4 (s.nat (Reg.qcmdDone c)))] ∧
      (t.cq c).report = false ∧ t.regs = s.regs ∧ t.mem = s.mem)) ∧
    (completes (.cmdCreditUpdate c false) s (fun t =>
      t.flag (Reg.qcmdStat c) 1 = true ∧ t.out = s.out ∧ sameRegsBut [Reg.qcmdStat c] s t ∧ t.mem = s.mem)))

/-- O19. Delivered DLM, IDLE, SYNC, ACCEPT, ALERT, BITSLIP and RETRAIN blocks act on lanes, MTIME status, accepts and alerts. -/
def Obligations.DownlinkBlocksAct : Prop :=
  let bad := fun (s t : State) =>
    t.nat (Reg.drxBadBlocks s.lane.dlLane) = Nat.min (s.nat (Reg.drxBadBlocks s.lane.dlLane) + 1) 0xFFFFFFFF ∧
    sameRegsBut [Reg.drxBadBlocks s.lane.dlLane] s t ∧ t.lane.dlPrev = 0 ∧ t.mem = s.mem ∧ t.time = s.time
  let prios := fun (s : State) => ∀ (g : Nat), ∀ v ∈ (s.lg g).tx, v.prio < 4
  let lanePages := [Pg.ulnk, Pg.evb, Pg.sys] ++ (List.range 18).map (fun n => Pg.utx n)
  (∀ s : State, completes .dlIdle s (fun t => t = { s with lane := { s.lane with dlPrev := 0 } })) ∧
  (∀ (hi : BitVec 24) (s : State), completes (.dlSyncHi hi) s (fun t =>
    t = { s with lane := { s.lane with dlHi := hi.toNat, dlPrev := 1 } })) ∧
  (∀ (lo : BitVec 40) (s : State),
    (s.lane.dlPrev ≠ 1 → completes (.dlSync lo) s (fun t => bad s t)) ∧
    (s.lane.dlPrev = 1 → s.flag Reg.timeSyncCtl 0 = true → s.time.running = true → s.now < 2 ^ 64 →
      s.lane.dlHi * 2 ^ 40 + lo.toNat + s.fld Reg.timeSyncDly 15 0 = s.now →
      completes (.dlSync lo) s (fun t =>
        t.flag Reg.timeStatus 0 = true ∧ t.fld Reg.timeStatus 5 4 = 1 ∧ t.rd64 Reg.timeSyncDiffLo = 0 ∧
        t.fld Reg.timeSyncCount 15 0 = (s.fld Reg.timeSyncCount 15 0 + 1) % 65536 ∧ t.time = s.time ∧
        samePagesBut [Pg.time] s t ∧ t.mem = s.mem))) ∧
  (∀ (id : BitVec 8) (tick : BitVec 40) (s : State), s.sealedOff 3 = false → completes (.dlAccept id tick) s (fun t =>
    t.trig = { s.trig with fly := s.trig.fly ++ [(2, s.fullTick tick.toNat, id.toNat)] } ∧
    t.regs = s.regs ∧ t.mem = s.mem ∧ t.time = s.time)) ∧
  (∀ (x : BitVec 8) (tick : BitVec 40) (s : State), s.fab.inReset.getLsbD 21 = false → s.lane.dlLane < 2 →
    (s.sealedOff 3 = true → completes (.dlAccept x tick) s (fun t => t.trig = s.trig ∧ t.mem = s.mem ∧
      t.nat (Reg.drxXlost s.lane.dlLane) = Nat.min (s.nat (Reg.drxXlost s.lane.dlLane) + 1) 0xFFFFFFFF)) ∧
    (s.sealedOff 4 = true → completes (.dlAlert x tick) s (fun t => t.trig = s.trig ∧ t.mem = s.mem ∧
      t.nat (Reg.drxXlost s.lane.dlLane) = Nat.min (s.nat (Reg.drxXlost s.lane.dlLane) + 1) 0xFFFFFFFF))) ∧
  (∀ (code : BitVec 8) (tick : BitVec 40) (s : State), s.sealedOff 4 = false → completes (.dlAlert code tick) s (fun t =>
    t.trig = { s.trig with alerts := s.trig.alerts ++ [(2, s.fullTick tick.toNat, code.toNat)] } ∧
    samePagesBut [Pg.time] s t ∧ t.mem = s.mem ∧ t.time = s.time)) ∧
  (∀ (n : Fin 32) (s : State),
    (17 < n.val → completes (.bitslip n) s (fun t => bad s t)) ∧
    (n.val ≤ 17 → s.compat = true → completes (.bitslip n) s (fun t =>
      t.fld (Reg.utxState n) 19 16 = (s.fld (Reg.utxState n) 19 16 + 1) % 10 ∧
      sameRegsBut [Reg.utxState n] s t ∧ t.mem = s.mem)) ∧
    (n.val ≤ 17 → s.compat = false → completes (.bitslip n) s (fun t =>
      t.flag (Reg.sticky (Pg.utx n)) 17 = true ∧ sameRegsBut [Reg.sticky (Pg.utx n)] s t ∧ t.mem = s.mem))) ∧
  (∀ (n : Fin 32) (s : State),
    (17 < n.val → completes (.dlRetrain n) s (fun t => bad s t)) ∧
    (n.val ≤ 17 → s.ust n = 0 → completes (.dlRetrain n) s (fun t => t = { s with lane := { s.lane with dlPrev := 0 } })) ∧
    (n.val ≤ 17 → s.ust n ≠ 0 → prios s → completes (.dlRetrain n) s (fun t =>
      t.ust n = 1 ∧ t.fld (Reg.utxState n) 5 4 = 0 ∧ t.rd (Reg.utxTrains n) = s.rd (Reg.utxTrains n) + 1 ∧
      (t.ul n).attAt = s.time.up ∧ samePagesBut lanePages s t ∧ t.mem = s.mem ∧ t.time = s.time))) ∧
  (∀ (locked : BitVec 18) (s : State), prios s → completes (.dlDlm locked) s (fun t =>
    t.fld Reg.ulnkDlstat 17 0 = locked.toNat ∧
    (∀ n : Fin 18, t.flag (Reg.utxState n) 8 = locked.getLsbD n ∧
      t.ust n = (if s.ust n = 2 ∨ s.ust n = 5 then (if locked.getLsbD n then 3 else s.ust n)
        else if s.ust n = 3 ∧ locked.getLsbD n = false ∧ 3 ≤ (s.ul n).misses then 1 else s.ust n)) ∧
    samePagesBut lanePages s t ∧ t.mem = s.mem ∧ t.time = s.time))

/-- O20. CMD_WR and CMD_RD are register accesses of domain 3, and BWR data blocks store 8 bytes inside the downlink window. -/
def Obligations.DownlinkReachesRegistersAndMemory : Prop :=
  (∀ (addr : BitVec 22) (v : Word) (r : RegRow) (s : State), let a := 4 * addr.toNat
    s.takes .dl a v = true → 0x40 ≤ a % 0x1000 → a / 0x1000 ∈ [Pg.clk, Pg.tpath, Pg.rle, Pg.eng, Pg.que, Pg.pcie 0, Pg.pcie 1] →
    regRow? a = some r → r.enc = [] →
    let wm := word r.rw ||| word r.rws ||| (if s.locked (a / 0x1000) then 0 else word r.rwl)
    completes (.cmdWr addr v) s (fun t =>
      t.rd a = ((((s.rd a &&& ~~~wm) ||| (v &&& wm)) &&& ~~~(v &&& word r.w1c)) ||| (v &&& word r.w1s)) ∧
      t.rd Reg.ulnkCmdExec = s.rd Reg.ulnkCmdExec + 1 ∧ sameRegsBut [a, Reg.ulnkCmdExec] s t ∧ t.mem = s.mem)) ∧
  (∀ (addr : BitVec 22) (tag : BitVec 16) (s : State), let a := 4 * addr.toNat
    let p := a / 0x1000
    s.reads .downlink a = true → p ∈ [Pg.clk, Pg.tpath, Pg.rle, Pg.eng, Pg.que, Pg.pcie 0, Pg.pcie 1] → 0x40 ≤ a % 0x1000 →
    (∀ e ∈ s.fab.latch, e.1 ≠ reqIdx .downlink) →
    completes (.cmdRd addr tag) s (fun t =>
      t.out = s.out ++ [.ccFrame 2 (leBytes 2 tag.toNat ++ [0, 0] ++
        wordBytes (if a = Reg.clkStatus then s.clkStatusWord else s.rd a))] ∧
      t.rd Reg.ulnkCmdExec = s.rd Reg.ulnkCmdExec + 1 ∧ sameRegsBut [Reg.ulnkCmdExec] s t ∧ t.mem = s.mem)) ∧
  (∀ (addr : BitVec 23) (s : State), completes (.bwr addr) s (fun t =>
    t = { s with lane := { s.lane with dlAddr := 8 * addr.toNat, dlPrev := 2 } })) ∧
  (∀ (d : DWord) (s : State), let a := s.lane.dlAddr
    let inside := s.nat Reg.ulnkDwinBase * 65536 ≤ a ∧ a + 8 ≤ (s.nat Reg.ulnkDwinLimit + 1) * 65536
    (s.lane.dlPrev ≠ 2 → completes (.bwrData d) s (fun t =>
      t.nat (Reg.drxBadBlocks s.lane.dlLane) = Nat.min (s.nat (Reg.drxBadBlocks s.lane.dlLane) + 1) 0xFFFFFFFF ∧
      sameRegsBut [Reg.drxBadBlocks s.lane.dlLane] s t ∧ t.mem = s.mem)) ∧
    (s.lane.dlPrev = 2 → inside → (s.sealedOff 21 || s.sealedOff 18) = true → completes (.bwrData d) s (fun t =>
      t.lane = { s.lane with dlAddr := a + 8 } ∧ t.mem = s.mem ∧ t.xfers = s.xfers)) ∧
    (s.lane.dlPrev = 2 → inside → (s.sealedOff 21 || s.sealedOff 18) = false → s.passes 21 18 = false →
      completes (.bwrData d) s (fun t => t = { s with
        lane := { s.lane with dlAddr := a + 8 }, xfers := s.xfers ++ [.mem 21 a (leBytes 8 d.toNat)] })) ∧
    (s.lane.dlPrev = 2 → inside → s.passes 21 18 = true → s.flag Reg.seccInject 31 = false → completes (.bwrData d) s (fun t =>
      (∀ i, i < 8 → t.mem.byte (memKey 0 (a + i)) = some (d.extractLsb' (8 * i) 8)) ∧
      (∀ k, k < memKey 0 a ∨ memKey 0 (a + 8) ≤ k →
        t.mem.byte k = s.mem.byte k ∧ sget 0 k t.mem.flips = sget 0 k s.mem.flips) ∧
      t.lane = { s.lane with dlAddr := a + 8 } ∧ sameRegsBut [] s t)) ∧
    (s.lane.dlPrev = 2 → ¬ inside → completes (.bwrData d) s (fun t =>
      t.nat Reg.ulnkDwinDeny = Nat.min (s.nat Reg.ulnkDwinDeny + 1) 0xFFFFFFFF ∧ t.lane = { s.lane with dlAddr := a + 8 } ∧
      sameRegsBut [Reg.ulnkDwinDeny, Reg.sticky Pg.ulnk] s t ∧ t.mem = s.mem)))

/-- O21. Receive lanes lock, align and lose alignment; a whole copy of a superframe is delivered once; scans run and end. -/
def Obligations.DownlinkLanesAlignAndDeliver : Prop :=
  (∀ (n : Fin 2) (s : State), completes (.drxBlockLock n) s (fun t =>
    t.flag (Reg.drxStatus n) 0 = true ∧ sameRegsBut [Reg.drxStatus n] s t ∧ t = { s with regs := t.regs })) ∧
  (∀ (n : Fin 2) (sfc : BitVec 16) (s : State), s.flag (Reg.drxStatus n) 0 = true →
    completes (.drxAligned n sfc) s (fun t =>
      t.flag (Reg.drxStatus n) 1 = true ∧ t.fld (Reg.drxStatus n) 31 16 = sfc.toNat ∧ t.lane.dlDown = none ∧
      t.flag Reg.ulnkDlstat 31 = true ∧ samePagesBut [Pg.drx 0, Pg.drx 1, Pg.ulnk, Pg.sys] s t ∧ t.mem = s.mem ∧
      t.time = s.time)) ∧
  (∀ (n : Fin 2) (lost : Bool) (h : Nat) (s : State), s.flag (Reg.drxStatus n) 1 = true →
    completes (.drxAlignLoss n lost h) s (fun t =>
      t.flag (Reg.drxStatus n) 1 = false ∧ (lost = true → t.flag (Reg.drxStatus n) 0 = false) ∧
      t.flag (Reg.drxStatus (1 - n.val)) 1 = s.flag (Reg.drxStatus (1 - n.val)) 1 ∧
      t.lane.dlDown = (if s.flag (Reg.drxStatus (1 - n.val)) 1 then s.lane.dlDown else some s.time.up) ∧
      samePagesBut [Pg.drx n, Pg.ulnk, Pg.sys] s t ∧ t.mem = s.mem ∧ t.time = s.time)) ∧
  (∀ (n : Fin 2) (sfc : BitVec 16) (m : Nat) (s : State), s.flag (Reg.drxStatus n) 1 = true →
    (sfc.toNat ∉ s.lane.dlTaken →
      completes (.dlSuperframeDeliver (some (n, sfc, List.replicate m (some (true, 0x1E00000000000000))))) s (fun t =>
        t.rd (Reg.drxSfTaken n) = s.rd (Reg.drxSfTaken n) + 1 ∧ t.lane.dlTaken = (sfc.toNat :: s.lane.dlTaken).take 32 ∧
        t.lane.dlLane = n ∧ t.fld (Reg.drxStatus n) 31 16 = sfc.toNat ∧
        sameRegsBut [Reg.drxSfTaken n, Reg.drxStatus n, Reg.drxSkew 0, Reg.drxSkew 1, Reg.drxSyncErr n] s t ∧
        t.mem = s.mem ∧ t.time = s.time)) ∧
    (sfc.toNat ∈ s.lane.dlTaken → ∀ blocks : List (Option (Bool × DWord)), completes (.dlSuperframeDeliver (some (n, sfc, blocks))) s (fun t =>
        t.lane = s.lane ∧ t.rd (Reg.drxSfTaken n) = s.rd (Reg.drxSfTaken n) ∧ t.mem = s.mem ∧ t.time = s.time))) ∧
  (∀ (d : Dom) (n : Fin 2) (v : Word) (s : State), s.takes d (Reg.drxScanCtl n) (setBit v 31 true) = true →
    let only := fun (t : State) => sameRegsBut [Reg.drxScanCtl n, Reg.sticky (Pg.drx n), Reg.ownStwOverride] s t ∧ t.mem = s.mem
    (s.agePoll.fld Reg.ageStat 26 24 ≠ 4 → completes (.drxScan d n v) s (fun t => t.flag (Reg.drxScanCtl n) 31 = true ∧ only t)) ∧
    (s.agePoll.fld Reg.ageStat 26 24 = 4 → completes (.drxScan d n v) s (fun t =>
      t.flag (Reg.drxScanCtl n) 31 = s.flag (Reg.drxScanCtl n) 31 ∧ t.flag (Reg.sticky (Pg.drx n)) 0 = true ∧ only t))) ∧
  (∀ (n : Fin 2) (e : Nat) (s : State), s.flag (Reg.drxScanCtl n) 31 = true → completes (.drxScanDone n e) s (fun t =>
    t.flag (Reg.drxScanCtl n) 31 = false ∧ t.nat (Reg.drxScanRes n) = Nat.min e 0xFFFFFFFF ∧
    sameRegsBut [Reg.drxScanCtl n, Reg.drxScanRes n] s t ∧ t.mem = s.mem))

/-- O22. Crystal start and failure, spread and ratio reports, XADJ and WINC writes act on their own registers and bases. -/
def Obligations.TimeBasesAndClockMonitor : Prop :=
  (∀ s : State, completes .xtalStart s (fun t =>
    t.time = { s.time with xtal := true } ∧ t.flag Reg.clkStatus 5 = true ∧ sameRegsBut [Reg.clkStatus] s t ∧ t.mem = s.mem)) ∧
  (∀ s : State, completes .xtalFail s (fun t =>
    t.time = { s.time with xtal := false, running := s.time.running && !s.time.refLost } ∧
    t.flag Reg.clkStatus 5 = false ∧ t.flag (Reg.intStat Pg.clk) 3 = true ∧ t.flag (Reg.sticky Pg.clk) 17 = true ∧
    sameRegsBut [Reg.clkStatus, Reg.intStat Pg.clk, Reg.sticky Pg.clk] s t ∧ t.mem = s.mem)) ∧
  (∀ (depth : Nat) (form : SpreadForm) (off : Word) (s : State), depth < 65536 → form.fmod < 65536 →
    let wide := 50 ≤ depth ∧ (500 < depth ∨ form.fmod < 30000 ∨ 33000 < form.fmod ∨ 400 < form.slope ∨ form.down = false)
    completes (.spreadReport depth form off) s (fun t =>
      t.rd Reg.clkSpread = word (depth * 65536 + (if 50 ≤ depth then form.fmod else 0)) ∧ t.rd Reg.clkRefOffset = off ∧
      t.flag Reg.clkStatus 1 = decide (50 ≤ depth) ∧
      (wide → t.flag (Reg.intStat Pg.clk) 2 = true ∧ t.flag (Reg.sticky Pg.clk) 16 = true) ∧
      (¬ wide → t.rd (Reg.intStat Pg.clk) = s.rd (Reg.intStat Pg.clk) ∧ t.rd (Reg.sticky Pg.clk) = s.rd (Reg.sticky Pg.clk)) ∧
      sameRegsBut [Reg.clkSpread, Reg.clkRefOffset, Reg.clkStatus, Reg.intStat Pg.clk, Reg.sticky Pg.clk] s t ∧
      t = { s with regs := t.regs })) ∧
  (∀ (r : Nat) (s : State),
    completes (.xratioWindow r true) s (fun t =>
      t.rd Reg.clkXratioLo = word r ∧ t.fld Reg.clkXratioHi 7 0 = r / 2 ^ 32 % 256 ∧ t.flag Reg.clkStatus 6 = true ∧
      sameRegsBut [Reg.clkXratioLo, Reg.clkXratioHi, Reg.clkStatus] s t ∧ t = { s with regs := t.regs }) ∧
    completes (.xratioWindow r false) s (fun t => t = s)) ∧
  (∀ (d : Dom) (v : Word) (s : State), s.takes d Reg.clkXadj v = true → completes (.xadjWrite d v) s (fun t =>
    t.fld Reg.clkXadj 23 0 = wfld v 23 0 ∧ sameRegsBut [Reg.clkXadj, Reg.ownStwOverride] s t ∧ t = { s with regs := t.regs })) ∧
  (∀ (d : Dom) (v : Word) (s : State), s.takes d Reg.timeWincLo v = true → completes (.wincLoWrite d v) s (fun t =>
    t.time = { s.time with wincStage := some v } ∧ sameRegsBut [Reg.ownStwOverride] s t ∧ t.mem = s.mem)) ∧
  (∀ (d : Dom) (v : Word) (s : State), s.takes d Reg.timeWincHi v = true →
    let lo := s.time.wincStage.getD (s.rd Reg.timeWincLo)
    let n := v.toNat * 2 ^ 32 + lo.toNat
    (0x1FC000000 ≤ n → n ≤ 0x204000000 → completes (.wincHiWrite d v) s (fun t =>
      t.rd64 Reg.timeWincLo = n ∧ t.time = { s.time with wincStage := none } ∧
      sameRegsBut [Reg.timeWincLo, Reg.timeWincHi, Reg.ownStwOverride] s t ∧ t.mem = s.mem)) ∧
    (¬ (0x1FC000000 ≤ n ∧ n ≤ 0x204000000) → completes (.wincHiWrite d v) s (fun t =>
      t.flag (Reg.sticky Pg.time) 0 = true ∧ t.time = { s.time with wincStage := none } ∧
      sameRegsBut [Reg.sticky Pg.time, Reg.ownStwOverride] s t ∧ t.mem = s.mem)))

/-- O23. SNAP captures the three bases for its domain; WTIME steps, compare units and TIME_OUT pulses follow their targets. -/
def Obligations.SnapshotsStepsAndCompares : Prop :=
  (∀ (d : Dom) (v : Word) (s : State), s.takes d Reg.timeSnap v = true → let k := domIdx d
    (v.getLsbD 0 = true → completes (.snap d v) s (fun t =>
      t.rd64 (Reg.timeSnapMLo k) = s.time.mtime % 2 ^ 64 ∧ t.rd64 (Reg.timeSnapWLo k) = s.time.wacc / 2 ^ 32 % 2 ^ 64 ∧
      t.rd64 (Reg.timeSnapXLo k) = s.time.xacc / 2 ^ 32 % 2 ^ 64 ∧
      t.nat (Reg.timeSnapBin k) = s.time.wacc / 2 ^ 24 % 256 * 256 + s.time.xacc / 2 ^ 24 % 256 ∧
      t.rd (Reg.timeSnapSeq k) = s.rd (Reg.timeSnapSeq k) + 1 ∧
      (∀ a, (a < 0x6900 + 0x20 * k ∨ 0x6920 + 0x20 * k ≤ a) → a ≠ Reg.ownStwOverride → t.rd a = s.rd a) ∧
      t = { s with regs := t.regs })) ∧
    (v.getLsbD 0 = false → completes (.snap d v) s (fun t =>
      sameRegsBut [Reg.ownStwOverride] s t ∧ t = { s with regs := t.regs }))) ∧
  (∀ (d : Dom) (v : Word) (s : State), s.takes d Reg.timeWctl v = true → v.getLsbD 0 = true →
    let refused := s.flag Reg.timeStatus 1 = true ∨ s.rd64 Reg.timeWloadAtLo < s.time.mtime + 64
    (refused → completes (.wstepSchedule d v) s (fun t =>
      t.flag (Reg.sticky Pg.time) 0 = true ∧ sameRegsBut [Reg.sticky Pg.time, Reg.ownStwOverride] s t ∧
      t = { s with regs := t.regs })) ∧
    (¬ refused → completes (.wstepSchedule d v) s (fun t =>
      t.flag Reg.timeWctl 0 = true ∧ t.flag Reg.timeStatus 2 = true ∧
      sameRegsBut [Reg.timeWctl, Reg.timeStatus, Reg.ownStwOverride] s t ∧ t = { s with regs := t.regs }))) ∧
  (∀ s : State, s.flag Reg.timeStatus 2 = true → s.time.running = true → completes .wtimeLoad s (fun t =>
    t.time.wacc = s.rd64 Reg.timeWloadLo * 2 ^ 32 ∧ t.time.mtime = Nat.max s.time.mtime (s.rd64 Reg.timeWloadAtLo) ∧
    t.flag Reg.timeStatus 1 = true ∧ t.flag Reg.timeStatus 2 = false ∧ t.flag Reg.timeWctl 0 = false ∧
    t.flag (Reg.intStat Pg.time) 4 = true ∧ samePagesBut [Pg.time] s t ∧ t.mem = s.mem)) ∧
  (∀ (d : Dom) (i : Fin 24) (v : Word) (s : State), s.takes d (Reg.timeCmpCtl i) v = true → v.getLsbD 0 = true →
    let frame := fun (t : State) => sameRegsBut [Reg.timeCmpCtl i, Reg.timeCmpStat i, Reg.sticky Pg.time, Reg.ownStwOverride] s t ∧
      t = { s with regs := t.regs }
    (s.baseTick i < s.rd64 (Reg.timeCmpLo i) → completes (.compareArm d i v) s (fun t =>
      t.flag (Reg.timeCmpCtl i) 0 = true ∧ t.flag (Reg.timeCmpStat i) 0 = true ∧
      t.flag (Reg.timeCmpStat i) 1 = s.flag (Reg.timeCmpStat i) 1 ∧ frame t)) ∧
    (s.rd64 (Reg.timeCmpLo i) ≤ s.baseTick i → completes (.compareArm d i v) s (fun t =>
      t.flag (Reg.timeCmpStat i) 1 = true ∧ t.flag (Reg.timeCmpCtl i) 0 = !v.getLsbD 8 ∧
      t.flag (Reg.timeCmpStat i) 0 = !v.getLsbD 8 ∧ frame t))) ∧
  (∀ (i : Fin 24) (s : State), s.flag (Reg.timeCmpCtl i) 0 = true → s.time.running = true →
    let target := s.rd64 (Reg.timeCmpLo i)
    let at' := s.edgeAt (if i.val < 8 then Nat.max s.time.mtime target else s.time.mtime)
    let b := (s.advanceTo at').baseTick i
    let p := s.nat (Reg.timeCmpPeriod i)
    (8 ≤ i.val → target ≤ s.baseTick i) → target ≤ b →
    (s.flag Reg.timeStatus 2 = true → at' < s.rd64 Reg.timeWloadAtLo) →
    (s.flag Reg.modePend 31 = true → at' < s.changeFrame * 65536) →
    (∀ j < i.val, s.flag (Reg.timeCmpCtl j) 0 = true → s.cmpEdge j ≠ at') →
    completes (.compareFire i) s (fun t =>
      t.time.mtime = at' ∧ t.fld (Reg.timeCmpStat i) 31 16 = (s.fld (Reg.timeCmpStat i) 31 16 + 1) % 65536 ∧
      t.flag (Reg.intStat Pg.time) (8 + i) = true ∧
      (p = 0 → t.flag (Reg.timeCmpCtl i) 0 = false ∧ t.flag (Reg.timeCmpStat i) 0 = false) ∧
      (p ≠ 0 → t.flag (Reg.timeCmpCtl i) 0 = true ∧
        t.rd64 (Reg.timeCmpLo i) = (target + ((b - target) / p + 1) * p) % 2 ^ 64) ∧
      (wfld (s.rd (Reg.timeCmpCtl i)) 7 4 = 0 → samePagesBut [Pg.time] s t ∧ t.out = s.out) ∧ t.mem = s.mem)) ∧
  (∀ (e : Nat) (s : State), s.time.outEnd = some e → s.time.running = true → completes .timeOutPulseEnd s (fun t =>
    t.time.outEnd = none ∧ t.time.mtime = Nat.max s.time.mtime e ∧ samePagesBut [Pg.time] s t ∧
    (s.flag Reg.timeOutCtl 16 = false → t.regs = s.regs) ∧ t.mem = s.mem))

/-- O24. MODE_REQ is refused or made pending with its frame, MODE_CANCEL withdraws it, and preparation lets it proceed. -/
def Obligations.ModeRequestsAreJudged : Prop :=
  (∀ (d : Dom) (v : Word) (s : State), s.takes d Reg.modeReq v = true →
    let target := wfld v 2 0
    let tail := v.getLsbD 3
    let frame := if v.getLsbD 4 then s.rd64 Reg.modeAtFrameLo else (s.time.mtime + 16384 + 65535) / 65536
    let inTime := v.getLsbD 4 = true → s.time.mtime + 16384 ≤ frame * 65536
    let tailOk := tail = true → s.variant = .t ∧ 2 ≤ target ∧ target ≤ 4 ∧ s.fld Reg.deccCtl 2 0 ≤ 3
    let accepted := fun (t : State) => t.rd Reg.modeResult = 0x80000000 ∧
      t.rd Reg.modePend = word (2 ^ 31 + tail.toNat * 8 + target) ∧ t.rd64 Reg.modePendFrameLo = frame % 2 ^ 64 ∧
      t.flag Reg.modeCurrent 31 = true ∧ t.modeNow = s.modeNow ∧ t.mode.pendDom = domIdx d ∧ t.mem = s.mem ∧ t.time = s.time
    let modeRegs := [Reg.modeResult, Reg.modePend, Reg.modePendFrameLo, Reg.modePendFrameHi, Reg.modeCurrent, Reg.ownStwOverride]
    (target ≤ 5 → s.flag Reg.modePend 31 = false → s.modeNow ≠ 0 → (target ≠ s.modeNow ∨ tail ≠ s.tailOn) → tailOk → inTime →
      completes (.modeReq d v) s (fun t => accepted t ∧ sameRegsBut modeRegs s t ∧ t.det = s.det)) ∧
    (target = 1 → tail = false → s.flag Reg.modePend 31 = false → s.modeNow = 0 → s.flag Reg.sysStatus 6 = true →
      s.flag Reg.sysStatus 0 = false → s.flag Reg.modeCause 8 = false → inTime →
      completes (.modeReq d v) s (fun t => accepted t ∧ t.mode.prep = true ∧ t.mode.prepDone = false ∧ t.mode.faultN = false ∧
        t.flag Reg.sysStatus 2 = false ∧
        (∀ n : Fin 16, s.pwr n = 0 → s.flag (Reg.tileCtl n) 8 = false → (t.tile n).onAt = some (s.time.up + 20000 * n)) ∧
        sameRegsBut (Reg.sysStatus :: modeRegs) s t)) ∧
    (target ≤ 5 → s.flag Reg.modePend 31 = true → (s.modeDue s.changeFrame = false ∨ s.time.mtime < s.changeFrame * 65536) →
      completes (.modeReq d v) s (fun t =>
      t.rd Reg.modeResult = 0x90000000 ∧ t.flag (Reg.intStat Pg.mode) 1 = true ∧
      sameRegsBut [Reg.modeResult, Reg.intStat Pg.mode, Reg.ownStwOverride] s t ∧ t = { s with regs := t.regs }))) ∧
  (∀ (d : Dom) (v : Word) (s : State), s.takes d Reg.modeCancel v = true →
    (s.flag Reg.modePend 31 = true → s.modeNow ≠ 0 → s.time.mtime < s.changeFrame * 65536 →
      completes (.modeCancel d v) s (fun t =>
      t.rd Reg.modePend = 0 ∧ t.flag Reg.modeCurrent 31 = false ∧ t.rd Reg.modeResult = 0x80000000 ∧
      sameRegsBut [Reg.modePend, Reg.modeCurrent, Reg.modeResult, Reg.ownStwOverride] s t ∧ t = { s with regs := t.regs })) ∧
    (s.flag Reg.modePend 31 = false → completes (.modeCancel d v) s (fun t =>
      t.rd Reg.modeResult = 0xE0000000 ∧ t.flag (Reg.intStat Pg.mode) 1 = true ∧
      sameRegsBut [Reg.modeResult, Reg.intStat Pg.mode, Reg.ownStwOverride] s t ∧ t = { s with regs := t.regs }))) ∧
  (∀ s : State, s.flag Reg.modePend 31 = true → s.mode.prep = true → s.mode.prepDone = false →
    (∀ n : Fin 16, s.flag (Reg.tileCtl n) 8 = true ∨ s.pwr n = 4 ∨ s.pwr n = 5) →
    let late := s.rd64 Reg.modePendFrameLo * 65536 ≤ s.time.mtime
    completes .umbraIdlePrepComplete s (fun t =>
      t.mode = { s.mode with prepDone := true } ∧ t.mem = s.mem ∧ t.time = s.time ∧
      (¬ late → t.regs = s.regs) ∧
      (late → t.rd64 Reg.modePendFrameLo = (s.time.mtime / 65536 + 1) % 2 ^ 64 ∧ t.flag (Reg.sticky Pg.mode) 16 = true ∧
        t.flag (Reg.intStat Pg.mode) 2 = true ∧ sameRegsBut [Reg.modePendFrameLo, Reg.modePendFrameHi, Reg.sticky Pg.mode,
          Reg.intStat Pg.mode] s t)))

/-- O25. Pending modes take force at frame starts; fatal causes drop the module to Umbra and stay in MODE.CAUSE while they last. -/
def Obligations.ModesChangeAndFatalCausesDrop : Prop :=
  (
  (∀ s : State, let f := Nat.max (s.rd64 Reg.modePendFrameLo) s.time.frameNext
    s.flag Reg.modePend 31 = true → (s.modeNow ≠ 0 ∨ s.mode.prepDone = true) → f % s.fld Reg.stwHcfg 15 0 ≠ 0 →
    completes .modeChange s (fun t =>
      t.modeNow = s.fld Reg.modePend 2 0 ∧ t.tailOn = s.flag Reg.modePend 3 ∧ t.rd64 Reg.modeSinceLo = f % 2 ^ 64 ∧
      t.rd Reg.modeChanges = s.rd Reg.modeChanges + 1 ∧ t.rd Reg.modePend = 0 ∧
      t.time.frame = f ∧ t.time.frameNext = f + 1 ∧ s.time.mtime ≤ t.time.mtime)) ∧
  (∀ s : State, let f := s.time.frameNext
    s.time.running = true → s.modeDue f = false →
    (s.flag Reg.timeStatus 2 = true → s.edgeAt (f * 65536) < s.rd64 Reg.timeWloadAtLo) → f % s.fld Reg.stwHcfg 15 0 ≠ 0 →
    completes (.frameStart [] []) s (fun t =>
      t.rd Reg.modeCurrent = s.rd Reg.modeCurrent ∧ t.rd Reg.modePend = s.rd Reg.modePend ∧
      t.time.frame = f ∧ t.time.frameNext = f + 1 ∧ t.time.mtime = Nat.max s.time.mtime (f * 65536))) ∧
  (∀ (hub : List (Nat × Bool)) (tiles : List (Fin 16 × Nat × Bool)) (s : State),
    (s.time.running = true → completes (.frameStart hub tiles) s (fun t =>
      t.time.frame = s.time.frameNext ∧ t.time.frameNext = s.time.frameNext + 1 ∧ s.time.mtime ≤ t.time.mtime)) ∧
    (s.modeDue s.changeFrame = true → completes .modeChange s (fun t =>
      t.time.frame = s.changeFrame ∧ t.time.frameNext = s.changeFrame + 1 ∧ s.time.mtime ≤ t.time.mtime))))
  ∧ (
  let entered := fun (c : Nat) (s t : State) =>
    t.rd Reg.modeCause = word (256 + c) ∧ t.mode.faultN = true ∧ t.flag Reg.sysStatus 2 = true ∧
    t.flag Reg.modePend 31 = false ∧ t.modeNow = 0 ∧ t.mode.fatal.getLsbD c = true ∧
    t.nat Reg.modeFatalCount = (if s.undoChange.modeNow = 0 then s.undoChange.nat Reg.modeFatalCount
      else Nat.min (s.undoChange.nat Reg.modeFatalCount + 1) 0xFFFFFFFF)
  (∀ s : State, s.mode.fatal.getLsbD 3 = false → completes .railFault s (fun t => entered 3 s t)) ∧
  (∀ s : State, s.mode.fatal.getLsbD 4 = false → s.time.refLost = false → completes .refLost s (fun t =>
    entered 4 s t ∧ t.flag Reg.clkStatus 4 = (s.flag Reg.clkStatus 4 || s.time.xtal) ∧ t.flag Reg.clkStatus 0 = false ∧
    t.flag Reg.sysStatus 3 = (s.flag Reg.sysStatus 3 || s.time.xtal) ∧
    t.nat Reg.clkLossCount = Nat.min (s.nat Reg.clkLossCount + 1) 0xFFFFFFFF ∧
    t.time = { s.time with
      holdStart := s.time.up, running := s.time.running && s.time.xtal, refLost := true, holdRem := 0 })) ∧
  (∀ s : State, s.time.refLost = true → completes .refLost s (fun t => t = s)) ∧
  (∀ s : State, s.time.refLost = true → completes .refReturn s (fun t =>
    t.flag Reg.clkStatus 4 = false ∧ t.flag Reg.clkStatus 0 = true ∧ t.flag Reg.sysStatus 3 = false ∧
    t.flag Reg.timeStatus 0 = false ∧ t.mode.fatal.getLsbD 4 = false ∧
    t.nat Reg.clkHoldLen = Nat.min 0xFFFFFFFF ((s.time.up - s.time.holdStart) / 2000) ∧
    samePagesBut [Pg.clk, Pg.time, Pg.mode, Pg.sys] s t ∧ t.mem = s.mem)) ∧
  (∀ (c : Fin 16) (s : State),
    (s.causeLasts c = true → completes (.fatalCauseEnd c) s (fun t => t = s)) ∧
    (s.causeLasts c = false → completes (.fatalCauseEnd c) s (fun t =>
      (∀ n : Fin 16, t.mode.fatal.getLsbD n = (s.mode.fatal.getLsbD n && decide (n ≠ c))) ∧
      t.flag Reg.modeCause 8 = decide (t.mode.fatal ≠ 0) ∧ sameRegsBut [Reg.modeCause] s t ∧ t.mem = s.mem ∧ t.time = s.time))))

/-- O26. Discriminator edges outside dead time open, mark and close hits, and a closed hit's word leaves for the derandomiser in turn. -/
def Obligations.EdgesFormHitWords : Prop :=
  let frame := fun (n : Fin 16) (s t : State) => samePagesBut [Pg.tile n, Pg.tlnk, Pg.sys] s t ∧ t.mem = s.mem
  (∀ (n : Fin 16) (c : Fin 128) (tick : Nat) (raw : Fin 384) (s : State), s.monitors n = false →
    completes (.thlLeadingEdge n c tick raw) s (fun t => t = s) ∧ completes (.thuLeadingEdge n c tick raw) s (fun t => t = s) ∧
    completes (.thlTrailingEdge n c tick raw) s (fun t => t = s) ∧ completes (.thuTrailingEdge n c tick raw) s (fun t => t = s)) ∧
  (∀ (n : Fin 16) (c : Fin 128) (tick : Nat) (raw : Fin 384) (s : State), s.monitors n = true →
    let ch := s.chan n c
    let frm := match ch.hit with
      | some h => h.lead / 2 ^ 24
      | none => tick / 65536
    let T := tick * 256 + nth (sget [] (c.val / 8)
      (if frm < (s.tile n).lutsFrom then (s.tile n).lutsOld else (s.tile n).luts)) raw % 256
    let late := fun (h : HitForm) => h.lead + 262144 ≤ T
    (inDead ch.thlLast T = false → (∀ l, ch.leadLast = some l → l + 2560 ≤ T) → ch.thlHigh = false → (∀ h, ch.hit = some h → ¬ late h) →
      completes (.thlLeadingEdge n c tick raw) s (fun t =>
        (∃ h, (t.chan n c).hit = some h ∧ h.lead = T ∧ h.timedOut = false) ∧ (t.chan n c).thlHigh = true ∧
        (t.chan n c).leadLast = some T ∧ t.tsd (Reg.chanEdges n c) = s.tsd (Reg.chanEdges n c) + 1 ∧ frame n s t)) ∧
    (inDead ch.thlLast T = true → (∀ h, ch.hit = some h → ¬ late h) → completes (.thlLeadingEdge n c tick raw) s (fun t =>
      (t.chan n c).hit.map (fun h => h.lead) = ch.hit.map (fun h => h.lead) ∧ (t.chan n c).count = ch.count ∧
      t.tsd (Reg.chanEdges n c) = s.tsd (Reg.chanEdges n c) ∧ frame n s t)) ∧
    (ch.thuHigh = false → inDead ch.thuLast T = false → (∀ h, ch.hit = some h → ¬ late h) → completes (.thuLeadingEdge n c tick raw) s (fun t =>
      (t.chan n c).thuHigh = true ∧ (t.chan n c).thuLast = some T ∧
      (ch.hit = none → (t.chan n c).thuLead = some (tick, raw.val) ∧ (t.chan n c).hit = none) ∧
      (∀ h, ch.hit = some h → (t.chan n c).hit = some { h with thu := some (h.thu.getD T) }) ∧ frame n s t)) ∧
    (ch.thuHigh = true → inDead ch.thuLast T = false → (∀ h, ch.hit = some h → ¬ late h) → completes (.thuTrailingEdge n c tick raw) s (fun t =>
      (t.chan n c).thuHigh = false ∧ (t.chan n c).thuLast = some T ∧ t.regs = s.regs ∧ t.mem = s.mem)) ∧
    (∀ h : HitForm, ch.thlHigh = true → inDead ch.thlLast T = false → ch.hit = some h → ¬ late h → completes (.thlTrailingEdge n c tick raw) s (fun t =>
      (t.chan n c).hit = none ∧ (t.chan n c).thlHigh = false ∧
      (h.passed = false → (t.chan n c).done = ch.done) ∧
      (h.passed = true → ∃ d, (t.chan n c).done = ch.done ++ [d] ∧ d.frame = h.lead / 2 ^ 24 ∧ dfld d.word 63 57 = c ∧
        tleadOf d.word = h.lead % 2 ^ 24 ∧ dfld d.word 17 2 = Nat.min ((T - h.lead) / 4) 65535) ∧ frame n s t)) ∧
    (∀ h : HitForm, ch.hit = some h → late h → h.passed = true → completes (.thlTrailingEdge n c tick raw) s (fun t =>
      (t.chan n c).hit = none ∧ (∃ d, (t.chan n c).done = ch.done ++ [d] ∧ d.frame = h.lead / 2 ^ 24 ∧
        tleadOf d.word = h.lead % 2 ^ 24 ∧ dfld d.word 17 2 = 65535 ∧ dfld d.word 56 54 = if h.injected then 3 else 2) ∧ frame n s t))) ∧
  (∀ (n : Fin 16) (c : Fin 128) (h : HitForm) (s : State), (s.chan n c).hit = some h →
    (h.passed = true → completes (.overlengthClose n c) s (fun t => (t.chan n c).hit = none ∧
      (∃ d, (t.chan n c).done = (s.chan n c).done ++ [d] ∧ d.frame = h.lead / 2 ^ 24 ∧ tleadOf d.word = h.lead % 2 ^ 24 ∧
        dfld d.word 17 2 = 65535 ∧ dfld d.word 56 54 = if h.injected then 3 else 2) ∧ frame n s t)) ∧
    completes (.condTimeout n c) s (fun t => (t.chan n c).hit = some { h with timedOut := true } ∧ frame n s t)) ∧
  (∀ (n : Fin 16) (c : Fin 128) (d : DoneHit) (r : List DoneHit) (s : State), (s.chan n c).done = d :: r →
    completes (.hitRelease n c) s (fun t => (t.chan n c).done = r ∧
      (s.sends n d.frame = true → capAt d.frame (s.tile n).caps = 0 → (s.chan n c).derand.length < 8 →
        (t.chan n c).derand = derandInsert d.frame d.word (s.chan n c).derand) ∧
      (s.sends n d.frame = false → (t.chan n c).derand = (s.chan n c).derand) ∧ frame n s t)) ∧
  (∀ (n : Fin 16) (c : Fin 128) (sat : Bool) (s : State), completes (.baselineRestorerSat n c sat) s (fun t =>
    (t.tsd (Reg.chanStatus n c)).getLsbD 1 = sat ∧
    (sat = true → (s.tsd (Reg.chanStatus n c)).getLsbD 1 = false → t.flag (Reg.intStat (Pg.tile n)) 4 = true) ∧
    sameRegsBut [Reg.intStat (Pg.tile n)] s t ∧ t.mem = s.mem))

/-- O27. Rate windows, QCLR, QLIM, CTL, injection, source runs, background tables and tile commands act on their own tile. -/
def Obligations.TileControlsTakeEffect : Prop :=
  let room := fun (n : Fin 16) (s : State) => (s.tile n).cbus.length < 64 ∧ (s.tile n).cbusHeld = [] ∧ (s.tile n).cbusMore = []
  let idle := fun (n : Fin 16) (s : State) => (s.tile n).cbus = [] ∧ (s.tile n).cbusHeld = [] ∧ (s.tile n).cbusMore = []
  let on := fun (n : Fin 16) (s : State) => 2 ≤ s.pwr n ∧ s.pwr n ≤ 4
  (∀ (n : Fin 16) (c : Fin 128) (s : State), s.monitors n = true → s.time.running = true →
    completes (.quenchWindowEnd n c) s (fun t => (t.chan n c).count = 0 ∧ (t.chan n c).part = false ∧
      (let w := 2 ^ wfld (s.tcfg n (Reg.chanQlim n c)) 18 16
       (t.chan n c).winStart = t.time.mtime / 65536 / w * w) ∧
      ((s.chan n c).quenched = false → (t.chan n c).quenched = false) ∧ t.mem = s.mem)) ∧
  (∀ (d : Dom) (n : Fin 16) (c : Fin 128) (v : Word) (s : State), s.takes d (Reg.chanCmd n c) v = true → v.getLsbD 0 = true →
    on n s →
    (room n s → completes (.qclr d n c v false) s (fun t => (t.chan n c).quenched = false ∧ (t.tile n).cbus = [] ∧ t.mem = s.mem)) ∧
    (idle n s → (s.chan n c).quenched = true → completes (.qclr d n c v false) s (fun t =>
      (t.chan n c).quenched = false ∧ t.flag (Reg.intStat (Pg.tile n)) 3 = true ∧
      (t.tsd (Reg.chanStatus n c)).getLsbD 0 = false ∧ t.out = s.out ++ [.tileFrame n (Reg.chanCmd n c) 1] ∧ t.mem = s.mem)) ∧
    (idle n s → (s.chan n c).quenched = false → completes (.qclr d n c v false) s (fun t =>
      sameRegsBut [Reg.ownStwOverride] s t ∧ t.tile n = s.tile n ∧ t.det.chans = s.det.chans ∧
      t.out = s.out ++ [.tileFrame n (Reg.chanCmd n c) 1] ∧ t = { s with regs := t.regs, det := t.det, out := t.out })) ∧
    (idle n s → completes (.qclr d n c v true) s (fun t =>
      t.fld (Reg.tlnkCbus n) 15 0 = Nat.min (s.fld (Reg.tlnkCbus n) 15 0 + 1) 65535 ∧ (t.chan n c) = s.chan n c ∧ t.tile n = s.tile n ∧
      sameRegsBut [Reg.tlnkCbus n, Reg.sticky Pg.tlnk, Reg.ownStwOverride] s t ∧ t.mem = s.mem))) ∧
  (∀ (d : Dom) (n : Fin 16) (c : Fin 128) (v : Word) (s : State), let k := Reg.chanQlim n c
    s.takes d k v = true → on n s →
    (room n s → completes (.qwinChange d n c v) s (fun t =>
      t.fld k 18 0 = wfld v 18 0 ∧ t.tcfg n k = t.rd k ∧ (t.tile n).cbus = [] ∧ t.mem = s.mem)) ∧
    (idle n s → wfld (s.tcfg n k) 18 16 = wfld v 18 16 → completes (.qwinChange d n c v) s (fun t =>
      t.tcfg n k = t.rd k ∧ t.chan n c = s.chan n c ∧ t.mem = s.mem)) ∧
    (idle n s → wfld (s.tcfg n k) 18 16 ≠ wfld v 18 16 →
    completes (.qwinChange d n c v) s (fun t => t.fld k 18 0 = wfld v 18 0 ∧ t.tcfg n k = t.rd k ∧ (t.chan n c).count = 0 ∧
      (t.chan n c).quiet = 0 ∧ (t.chan n c).part = true ∧ (t.chan n c).winStart = s.time.frame ∧ t.mem = s.mem))) ∧
  (∀ (d : Dom) (n : Fin 16) (v : Word) (s : State), s.takes d (Reg.tileCtl n) v = true → room n s → v.getLsbD 8 = true →
    s.flag (Reg.tileCtl n) 8 = false → completes (.tileCtlWrite d n v) s (fun t =>
      t.flag (Reg.tileCtl n) 8 = true ∧ t.pwr n = 0 ∧ (∀ m : Fin 16, m ≠ n → t.pwr m = s.pwr m) ∧ t.mem = s.mem)) ∧
  (∀ (n : Fin 16) (i : Nat) (s : State), (s.tile n).injNext = some i → s.modeNow = 5 →
    (s.tcfg n (Reg.tileInjCtl n)).getLsbD 0 = true → s.tcfg n (Reg.tileInjCount n) = 0 → completes (.injectionPulse n) s (fun t =>
      (t.tile n).injLast = some i ∧ (t.tile n).injNext = some (i + (s.tcfg n (Reg.tileInjPeriod n)).toNat) ∧
      t.tsd (Reg.tileInjSent n) = s.tsd (Reg.tileInjSent n) + 1 ∧ t.regs = s.regs ∧ t.mem = s.mem)) ∧
  (∀ (d : Dom) (n : Fin 16) (v : Word) (s : State), let k := Reg.tileCalCtl n
    s.takes d k v = true → room n s → v.getLsbD 1 = true →
    (s.modeNow = 1 ∨ s.modeNow = 5 → s.pwr n = 4 → completes (.sourceRunRequest d n v) s (fun t =>
      t.flag k 1 = true ∧ (∃ w, (t.tile n).cbus = (s.tile n).cbus ++ [(k, w)] ∧ w.getLsbD 1 = true) ∧
      sameRegsBut [k, Reg.ownStwOverride] s t ∧ t.mem = s.mem)) ∧
    (s.pwr n ≠ 4 ∨ (s.modeNow ≠ 1 ∧ s.modeNow ≠ 5) → completes (.sourceRunRequest d n v) s (fun t =>
      t.flag k 1 = s.flag k 1 ∧ t.flag (Reg.sticky (Pg.tile n)) 0 = true ∧
      sameRegsBut [k, Reg.sticky (Pg.tile n), Reg.ownStwOverride] s t ∧ t.mem = s.mem))) ∧
  (∀ (n : Fin 16) (hs : List (List Nat)) (s : State), (s.tile n).running = true → s.pwr n = 3 → hs.length = 16 →
    ((∀ h ∈ hs, (lutOf h).isSome = true) → completes (.sourceRunComplete n hs) s (fun t =>
      t.pwr n = 4 ∧ (t.tile n).running = false ∧ (t.tile n).liveFrom = some (s.time.frame + 1) ∧
      (t.tile n).lutsNew.length = 16 ∧ t.flag (Reg.tileCalCtl n) 1 = false ∧ t.mem = s.mem)) ∧
    ((∃ h ∈ hs, lutOf h = none) → completes (.sourceRunComplete n hs) s (fun t =>
      t.pwr n = 5 ∧ t.fld (Reg.tileStatus n) 7 4 = 3 ∧ t.mem = s.mem))) ∧
  (∀ (n k : Fin 16) (h l : List Nat) (s : State), let g := histOf (sget [] k (s.tile n).bgHist) h
    s.pwr n = 4 → (s.tcfg n (Reg.tileCalCtl n)).getLsbD 0 = true →
    (s.tcfg n (Reg.tileCalCtl n)).getLsbD 2 = false → (s.tile n).running = false → lutOf g = some l →
    (∀ r, r < 384 → nth l r ≤ nth (sget [] k (s.tile n).luts) r + 2 ∧ nth (sget [] k (s.tile n).luts) r ≤ nth l r + 2) →
    completes (.bgHistogramComplete n k h) s (fun t => sget [] k (t.tile n).bgNew = l ∧ (t.tile n).luts = (s.tile n).luts ∧
      sget [] k (t.tile n).bgHist = [] ∧ t.regs = s.regs ∧ t.mem = s.mem)) ∧
  (∀ (n : Fin 16) (a b : Fin 3) (w : Word) (r : List (Nat × Word)) (s : State), (s.tile n).cbus = (Reg.tileThr n, w) :: r →
    (s.tile n).cbusHeld = [] → completes (.tileCommand n a b) s (fun v => ∃ t : State, v = t.waitsAgain ∧
      t.out = s.out ++ [.tileFrame n (Reg.tileThr n) w] ∧ (t.tile n).cbus ++ (t.tile n).cbusMore = r ++ (s.tile n).cbusMore ∧
      (a ≠ 2 ∨ b ≠ 2 → t.tcfg n (Reg.tileThr n) = w ∧ (t.tile n).thrNew = true) ∧
      (a = 2 → b = 2 → t.tcfg n (Reg.tileThr n) = s.tcfg n (Reg.tileThr n) ∧
        t.fld (Reg.tlnkCbus n) 15 0 = Nat.min (s.fld (Reg.tlnkCbus n) 15 0 + 1) 65535) ∧
      sameRegsBut [Reg.tlnkCbus n, Reg.sticky Pg.tlnk] s t ∧ t.mem = s.mem))

/-- O28. A tile goes from OFF through RAMP and CONFIG to CALIB on its switch-on, answer and read-back, and to FAULT on a failure. -/
def Obligations.TilesPowerUpStepByStep : Prop :=
  let others := fun (n : Fin 16) (s t : State) => (∀ m : Fin 16, m ≠ n → t.pwr m = s.pwr m) ∧ t.mem = s.mem ∧
    samePagesBut [Pg.tile n, Pg.tlnk, Pg.sys] s t
  let afterHeld := fun (n : Fin 16) (P : State → Prop) (t : State) => ∃ u, P u ∧ ((u.tile n).cbusHeld = [] → t.regs = u.regs ∧
    t.mem = u.mem ∧ t.link n = u.link n ∧ t.det.chans = u.det.chans ∧ t.tile n = u.tile n) ∧ t = u.drainHeld n
  let fault := fun (n : Fin 16) (code : Nat) (s t : State) => t.pwr n = 5 ∧ t.fld (Reg.tileStatus n) 7 4 = code ∧
    t.flag (Reg.intStat (Pg.tile n)) 1 = true ∧ t.lst n = 0 ∧ (∀ c : Fin 128, t.chan n c = {}) ∧ others n s t
  (∀ (n : Fin 16) (a : Nat) (s : State), (s.tile n).onAt = some a →
    (s.pwr n ≠ 0 ∨ s.tilesWanted = false ∨ s.flag (Reg.tileCtl n) 8 = true → completes (.tileSwitchOn n) s (fun t =>
      t.pwr n = s.pwr n ∧ (t.tile n).onAt = none ∧ t.regs = s.regs ∧ t.mem = s.mem)) ∧
    (s.pwr n = 0 → s.tilesWanted = true → s.flag (Reg.tileCtl n) 8 = false → completes (.tileSwitchOn n) s (fun t =>
    t.pwr n = 1 ∧ t.fld (Reg.tileStatus n) 7 4 = 0 ∧ (t.tile n).onAt = none ∧ (t.tile n).mismatches = 0 ∧
    (t.tile n).rampAt = t.time.up ∧ others n s t))) ∧
  (∀ (n : Fin 16) (s : State), s.pwr n = 1 → completes (.tileAnswer n) s (fun t => afterHeld n (fun u =>
    u.pwr n = 2 ∧ (∀ k ∈ coveredWords n, u.tcfg n k = s.rd k) ∧ u.lst n = 1 ∧ (u.link n).huntAt = s.time.up ∧ others n s u) t)) ∧
  (∀ (n : Fin 16) (w : Word) (s : State), s.pwr n = 2 →
    (w = s.tileCheck n → completes (.tileReadbackCheck n w) s (fun t =>
      t.pwr n = 3 ∧ (t.tile n).runReq = true ∧ (t.tile n).monFrom = s.time.frame ∧ others n s t)) ∧
    (w ≠ s.tileCheck n → (s.tile n).mismatches = 0 → completes (.tileReadbackCheck n w) s (fun t => afterHeld n (fun u =>
      u.pwr n = 2 ∧ (u.tile n).mismatches = 1 ∧ (∀ k ∈ coveredWords n, u.tcfg n k = s.rd k) ∧ u.regs = s.regs ∧ u.mem = s.mem) t)) ∧
    (w ≠ s.tileCheck n → (s.tile n).mismatches ≠ 0 → completes (.tileReadbackCheck n w) s (fun t => afterHeld n (fun u => fault n 2 s u) t))) ∧
  (∀ (n : Fin 16) (s : State), s.pwr n = 1 → completes (.tileAnswerTimeout n) s (fun t => afterHeld n (fun u => fault n 1 s u) t)) ∧
  (∀ (n : Fin 16) (s : State), 1 ≤ s.pwr n → s.pwr n ≤ 4 → completes (.tileOvercurrent n) s (fun t => afterHeld n (fun u => fault n 4 s u) t))

/-- O29. Lane lock, lock loss, hunting, re-striping, lane return and lane masking move a tile link between its states. -/
def Obligations.LinkLanesLockAndRestripe : Prop :=
  let frame := fun (s t : State) => samePagesBut [Pg.tlnk, Pg.sys] s t ∧ t.mem = s.mem
  let active := fun (n : Fin 16) (s : State) => s.fld (Reg.tlnkLstat n) 11 8
  let locked := fun (n : Fin 16) (s : State) => s.fld (Reg.tlnkLstat n) 15 12
  let disabled := fun (n : Fin 16) (s : State) => s.fld (Reg.tlnkCtl n) 3 0
  let near := fun (n : Fin 16) (s : State) =>
    (∀ i j : Fin 4, sget 0 i.val (s.link n).skew - sget 0 j.val (s.link n).skew ≤ 16) ∧
    (∀ a ∈ (s.link n).statusRx, ∀ b ∈ (s.link n).statusRx, a.2 = b.2)
  let told := fun (n : Fin 16) (f lanes : Nat) (s t : State) => (s.tile n).cbus.length < 64 → (s.tile n).cbusMore = [] →
    2 ≤ s.pwr n → s.pwr n ≤ 4 → (t.tile n).cbus = (s.tile n).cbus ++ [(Reg.tlnkLstat n, word (f * 16 + lanes))]
  (∀ (n : Fin 16) (l : Fin 4) (k : Int) (s : State), s.lst n ≠ 0 → s.flag (Reg.tlnkLstat n) (12 + l) = false →
    completes (.laneBlockLock n ⟨l, k⟩) s (fun t => t.flag (Reg.tlnkLstat n) (12 + l) = true ∧
      sget 0 l (t.link n).lockedAt = s.time.up ∧ sget 0 l (t.link n).skew = k ∧ (s.lst n ≠ 1 → t.lst n = s.lst n) ∧
      (s.lst n = 1 → disabled n s = 0 → locked n s + 2 ^ l.val = 15 → near n t →
        t.lst n = 2 ∧ active n t = 15 ∧ (t.link n).carryFrom = s.time.frame + 1) ∧
      (s.lst n = 1 → disabled n s = 0 → locked n s + 2 ^ l.val = 15 → ¬ near n t → t.lst n = 1) ∧ frame s t)) ∧
  (∀ (n : Fin 16) (l : Fin 4) (h : Nat) (s : State),
    (s.flag (Reg.tlnkLstat n) (12 + l) = true → s.flag (Reg.tlnkCtl n) l = false → s.lst n = 2 → locked n s = 15 → disabled n s = 0 →
      completes (.laneLockLoss n l h) s (fun t => t.lst n = 4 ∧ t.flag (Reg.tlnkLstat n) (12 + l) = false ∧
        (t.link n).lossless = false ∧ (t.link n).changeAt = some ((s.time.mtime + 8192 + 65535) / 65536) ∧
        (t.link n).changeTo = 15 - 2 ^ l.val ∧ active n t = active n s ∧
        told n ((s.time.mtime + 8192 + 65535) / 65536) (15 - 2 ^ l.val) s t ∧
        (t.link n).told = some ((s.time.mtime + 8192 + 65535) / 65536, 15 - 2 ^ l.val) ∧ t.flag (Reg.sticky Pg.tlnk) 17 = true ∧ frame s t)) ∧
    (s.flag (Reg.tlnkLstat n) (12 + l) = true → s.flag (Reg.tlnkCtl n) l = true → completes (.laneLockLoss n l h) s (fun t =>
      t.lst n = s.lst n ∧ t.flag (Reg.tlnkLstat n) (12 + l) = false ∧
      t.fld (Reg.tlnkLockLoss n) (8 * l + 7) (8 * l) = Nat.min (s.fld (Reg.tlnkLockLoss n) (8 * l + 7) (8 * l) + 1) 255 ∧ frame s t)) ∧
    (s.flag (Reg.tlnkLstat n) (12 + l) = false → completes (.laneLockLoss n l h) s (fun t =>
      t.fld (Reg.tlnkSyncErr n) (8 * l + 7) (8 * l) = Nat.min (s.fld (Reg.tlnkSyncErr n) (8 * l + 7) (8 * l) + h) 255 ∧
      sameRegsBut [Reg.tlnkSyncErr n] s t ∧ t = { s with regs := t.regs }))) ∧
  (∀ (n : Fin 16) (s : State), s.lst n = 1 → s.time.running = true →
    (popCount 4 (s.lanesUp n) = 3 → completes (.linkHuntTimeout n) s (fun t =>
      t.lst n = 3 ∧ active n t = s.lanesUp n ∧ t.flag (Reg.intStat Pg.tlnk) n = true ∧ frame s t)) ∧
    (s.lanesUp n = 15 → s.deskewed n = true → completes (.linkHuntTimeout n) s (fun t =>
      t.lst n = 2 ∧ active n t = 15 ∧ frame s t)) ∧
    (s.lanesUp n = 15 → s.deskewed n = false → completes (.linkHuntTimeout n) s (fun t =>
      t.link n = s.link n ∧ t.regs = s.regs ∧ t.mem = s.mem)) ∧
    (popCount 4 (s.lanesUp n) < 3 →
      ((s.link n).downSent = false → completes (.linkHuntTimeout n) s (fun t =>
        t.lst n = 1 ∧ (t.link n).downSent = true ∧ t.flag (Reg.intStat Pg.tlnk) (16 + n) = true ∧ frame s t)) ∧
      ((s.link n).downSent = true → completes (.linkHuntTimeout n) s (fun t =>
        t.link n = s.link n ∧ t.regs = s.regs ∧ t.mem = s.mem)))) ∧
  (∀ (n : Fin 16) (f : Nat) (s : State), s.lst n = 4 → (s.link n).changeAt = some f →
    (Nat.land (s.link n).changeTo (s.lanesUp n) = (s.link n).changeTo → completes (.linkRestripe n) s (fun t =>
      t.lst n = (if (s.link n).changeTo = 15 then 2 else 3) ∧ active n t = (s.link n).changeTo % 16 ∧
      (t.link n).changeAt = none ∧ (t.link n).lossless = false ∧
      ((s.link n).told = some (f, (s.link n).changeTo) → (t.link n).own = none) ∧
      ((s.link n).told = none → (s.link n).own = none → active n s ≠ (s.link n).changeTo → (t.link n).own = some (active n s)) ∧
      frame s t)) ∧
    (Nat.land (s.link n).changeTo (s.lanesUp n) ≠ (s.link n).changeTo → completes (.linkRestripe n) s (fun t =>
      (t.link n).changeAt = none ∧ t.flag (Reg.intStat Pg.tlnk) (16 + n) = true ∧ frame s t))) ∧
  (∀ (n : Fin 16) (s : State), s.lst n = 3 → Nat.land (s.lanesUp n) (15 - active n s) ≠ 0 →
    completes (.laneReturnTimer n) s (fun t => t.lst n = 4 ∧ active n t = active n s ∧ (t.link n).lossless = true ∧
      (t.link n).changeTo = 15 ∧ (t.link n).changeAt = some ((t.time.mtime + 8192 + 65535) / 65536) ∧
      told n ((t.time.mtime + 8192 + 65535) / 65536) 15 s t ∧ frame s t)) ∧
  (∀ (d : Dom) (n : Fin 16) (v : Word) (s : State), s.takes d (Reg.tlnkCtl n) v = true →
    (1 < popCount 4 (wfld v 3 0) → completes (.laneDisWrite d n v) s (fun t =>
      t.flag (Reg.sticky Pg.tlnk) 0 = true ∧ sameRegsBut [Reg.sticky Pg.tlnk, Reg.ownStwOverride] s t ∧
      t = { s with regs := t.regs })) ∧
    (∀ l : Fin 4, wfld v 3 0 = 2 ^ l.val → disabled n s = 0 → s.lst n = 2 → completes (.laneDisWrite d n v) s (fun t =>
      disabled n t = 2 ^ l.val ∧ t.lst n = 4 ∧ (t.link n).lossless = true ∧ (t.link n).changeTo = 15 - 2 ^ l.val ∧
      (t.link n).changeAt = some ((s.time.mtime + 8192 + 65535) / 65536) ∧
      told n ((s.time.mtime + 8192 + 65535) / 65536) (15 - 2 ^ l.val) s t ∧
      samePagesBut [Pg.tlnk, Pg.sys, Pg.own] s t ∧ t.mem = s.mem)))

/-- O30. Frames close with headers, words and count blocks reach the hub, and intake passes each word to the path of its mode. -/
def Obligations.TileFramesReachIntake : Prop :=
  let badSync := fun (n : Fin 16) (l : Fin 4) (s t : State) =>
    t.fld (Reg.tlnkSyncErr n) (8 * l + 7) (8 * l) = Nat.min (s.fld (Reg.tlnkSyncErr n) (8 * l + 7) (8 * l) + 1) 255 ∧
    sameRegsBut [Reg.tlnkSyncErr n] s t ∧ t.mem = s.mem
  let turned := fun (n : Fin 16) (s : State) => { s.link n with turn := ((s.link n).turn + 1) % (s.stripe n).length }
  let mayStart := fun (n : Fin 16) (l : Fin 4) (s : State) => (s.stripe n).contains l.val = false ∨ s.laneOf n = l.val
  (∀ (n : Fin 16) (s : State), s.pwr n = 4 → (s.tile n).liveFrom.isSome = true →
    completes (.tileFrameClose n) s (fun t => let f := (s.tile n).sendFrame + 1
      (t.tile n).sendFrame = f ∧ (t.tile n).countDue = true ∧
      (∃ w0 w1 hs, (t.tile n).headers = hs ++ [(f, w0, w1)] ∧
        hs.map (fun h => (h.1, h.2.1)) = (s.tile n).headers.map (fun h => (h.1, h.2.1)) ∧
        dfld w0 47 0 = f % 2 ^ 48 ∧ dfld w0 63 60 = n) ∧
      samePagesBut [Pg.tile n, Pg.tlnk, Pg.sys] s t ∧ t.mem = s.mem)) ∧
  (∀ (n : Fin 16) (l : Fin 4) (s : State), s.lst n ≠ 0 → (s.stripe n).contains l.val = true → s.laneOf n = l.val →
    let due := (s.link n).status.contains l.val = true ∧ 50688 ≤ s.creditNow n
    (¬ due → ∀ c f : Nat, s.arbTile n = some (c, f) →
      let u := (s.takeWord n c).1
      let w := (s.takeWord n c).2
      let took := fun (t : State) => t.det.chans = u.det.chans ∧ (t.tile n).tstore = (u.tile n).tstore ∧
        (t.tile n).rr = (c + 1) % 129 ∧ t.out = s.out ++ [.tileBlock n l 1 w]
      (∀ g, (s.link n).own = none → (s.link n).requester = true → (s.link n).holds = some g → (s.link n).closedTo ≤ g →
        completes (.tileLinkBlock n l 0) s (fun t => (t.link n).buf = (s.link n).buf ++ [(g, w)] ∧
          (t.link n).received = (s.link n).received + 1 ∧ (t.link n).turn = (turned n s).turn ∧
          took t ∧ t.regs = s.regs ∧ t.mem = s.mem)) ∧
      ((s.link n).requester = false ∨ (s.link n).own.isSome = true →
        completes (.tileLinkBlock n l 0) s (fun t => took t ∧ t.link n = turned n s ∧ t.regs = s.regs ∧ t.mem = s.mem)) ∧
      completes (.tileLinkBlock n l 1) s (fun t => took t ∧ t.link n = turned n s ∧ badSync n l s t) ∧
      completes (.tileLinkBlock n l 2) s (fun t => took t ∧ t.link n = turned n s ∧ t.regs = s.regs ∧ t.mem = s.mem)) ∧
    (¬ due → s.arbTile n = none → completes (.tileLinkBlock n l 0) s (fun t =>
      t.out = s.out ++ [.tileBlock n l 2 0] ∧ t.link n = turned n s ∧ t.tile n = s.tile n ∧ t.det.chans = s.det.chans ∧
      t.regs = s.regs ∧ t.mem = s.mem)) ∧
    (due → 2 ≤ s.lst n → completes (.tileLinkBlock n l 0) s (fun t => (t.link n).credit = s.creditNow n - 16896 ∧
      (t.link n).status.contains l.val = false ∧ (t.link n).turn = (turned n s).turn ∧
      ((s.link n).own = none → s.flag (Reg.tlnkLstat n) (12 + l) = true →
        sget 0 l.val (t.link n).statusRx = (s.link n).statusFrame % 65536) ∧
      t.tile n = s.tile n ∧ t.det.chans = s.det.chans ∧ t.regs = s.regs ∧ t.mem = s.mem))) ∧
  (∀ (n : Fin 16) (l : Fin 4) (s : State),
    (s.lst n = 0 → completes (.tileLinkBlock n l 0) s (fun t => t = s)) ∧
    (s.lst n ≠ 0 → (s.stripe n).contains l.val = false → completes (.tileLinkBlock n l 0) s (fun t =>
      t = { s with out := s.out ++ [.tileBlock n l 2 0] })) ∧
    (s.lst n ≠ 0 → (s.stripe n).contains l.val = true → s.laneOf n ≠ l.val → completes (.tileLinkBlock n l 0) s (fun t =>
      t = ((s.oneBlock n 0).toLane n l 3).oneBlock n 0))) ∧
  (∀ (n : Fin 16) (l : Fin 4) (f : Nat) (w0 w1 : DWord) (r : List (Nat × DWord × DWord)) (s : State),
    (s.tile n).headers = (f, w0, w1) :: r → s.holdsBefore n f = false → s.lst n ≠ 0 → mayStart n l s →
    let gone := fun (u : State) => (u.tile n).headers = r ∧ (u.link n).holds = (s.link n).holds ∧ u.det.headers = s.det.headers ∧
      u.mem = s.mem
    (s.lst n = 1 ∨ (s.link n).own.isSome = true ∨ (s.link n).requester = false ∨ f < (s.link n).carryFrom ∨ 3 < dfld w0 59 56 →
      completes (.frameHeaderRx ⟨n, l, 0⟩) s (fun t => ∃ u : State, t = u.tailDrain ∧ gone u ∧ u.regs = s.regs)) ∧
    completes (.frameHeaderRx ⟨n, l, 2⟩) s (fun t => ∃ u : State, t = u.tailDrain ∧ gone u ∧ u.regs = s.regs) ∧
    completes (.frameHeaderRx ⟨n, l, 1⟩) s (fun t => ∃ u : State, t = u.tailDrain ∧ gone u ∧ badSync n l s u) ∧
    (2 ≤ s.lst n → (s.link n).own = none → (s.link n).requester = true → (s.link n).carryFrom ≤ f → dfld w0 59 56 ≤ 3 →
      let whole := dfld w1 63 50 = (s.link n).received ∨ f - 1 ∈ (s.link n).lossFrames
      completes (.frameHeaderRx ⟨n, l, 0⟩) s (fun v => ∃ t : State, v = t.tailDrain ∧ (t.tile n).headers = r ∧
        (t.link n).holds = some f ∧ (t.link n).received = 0 ∧ sget (0, 0) (f * 16 + n) t.det.headers = (w0, w1) ∧
        t.out = s.out ++ [.tileBlock n (s.laneOf n) 2 w0, .tileBlock n ((s.stripe n).getD (turned n s).turn 0) 2 w1] ∧
        (whole → t.det.incomplete = s.det.incomplete ∧ sameRegsBut [Reg.tlnkWaitMax] s t) ∧
        (¬ whole → t.det.incomplete = s.det.incomplete ++ [(f - 1, n.val)] ∧
          t.nat (Reg.tlnkMissFrames n) = Nat.min (s.nat (Reg.tlnkMissFrames n) + 1) 0xFFFFFFFF ∧
          t.nat (Reg.tlnkMissWords n) = Nat.min (s.nat (Reg.tlnkMissWords n) + (dfld w1 63 50 - (s.link n).received)) 0xFFFFFFFF) ∧
        (t.link n).credit = s.creditNow n - 33792 ∧ (t.link n).status = s.stripe n ∧ (t.link n).statusFrame = f % 65536 ∧
        t.mem = s.mem))) ∧
  (∀ (n : Fin 16) (l : Fin 4) (s : State), (s.tile n).countDue = true → (s.link n).requester = true →
    let ks := (s.tile n).counts.take 14
    let rest := (s.tile n).counts.drop 14
    let drawn := fun (t : State) => (t.tile n).countDue = decide (rest ≠ []) ∧ (t.tile n).counts = rest ∧
      (t.link n).credit = s.creditNow n - 16896 ∧ t.mem = s.mem
    (s.creditNow n < 50688 → ∀ e : Fin 3, completes (.countBlockRx ⟨n, l, e⟩) s (fun t => t = s)) ∧
    (50688 ≤ s.creditNow n → mayStart n l s →
      completes (.countBlockRx ⟨n, l, 2⟩) s (fun t => drawn t ∧ t.regs = s.regs) ∧
      completes (.countBlockRx ⟨n, l, 1⟩) s (fun t => drawn t ∧ badSync n l s t) ∧
      ((s.link n).own = none → (∀ k ∈ ks, k ∈ reported n) → (rest ≠ [] ∨ s.tileReadback n = s.tileCheck n) →
        completes (.countBlockRx ⟨n, l, 0⟩) s (fun t => drawn t ∧
          (∀ k ∈ ks, k ≠ Reg.tileCalStat n → t.rd k = s.tsd k) ∧ sameRegsBut ks s t)))) ∧
  (∀ (n : Fin 16) (h : Nat) (s : State), (s.link n).requester = true → (s.link n).holds = some h → s.time.running = true →
    let f := Nat.max h (s.link n).closedTo
    completes (.intakeCloseDeadline n) s (fun v => ∃ t : State, v = t.tailDrain ∧ (t.link n).closedTo = f + 1 ∧ t.flag (Reg.sticky Pg.tlnk) 19 = true ∧
      t.time.mtime = Nat.max s.time.mtime ((f + 1) * 65536 + 4096) ∧
      sameRegsBut [Reg.sticky Pg.tlnk, Reg.tlnkWaitMax] s t ∧ t.mem = s.mem)) ∧
  (∀ (n f : Nat) (w : DWord) (s : State), s.islandLive 2 = true → s.arbIntake = some (n, f, w) → s.tailTakes f = false →
    s.acq.tailStop = none →
    (s.modeOf f = 1 → completes .hitWordIntake s (fun t => t.det.idleWords = s.det.idleWords + 1 ∧
      (t.link n).buf = (s.link n).buf.drop 1 ∧ sameRegsBut [Reg.tlnkWaitMax] s t ∧ t.mem = s.mem)) ∧
    (s.modeOf f = 2 ∨ s.modeOf f = 5 → completes .hitWordIntake s (fun t =>
      sget [] (n / 4) t.eng.q = sget [] (n / 4) s.eng.q ++ [⟨n, f, s.modeOf f, w, none⟩] ∧
      (t.link n).buf = (s.link n).buf.drop 1 ∧ sameRegsBut [Reg.tlnkWaitMax] s t ∧ t.mem = s.mem)) ∧
    (s.modeOf f = 3 →
      ((s.sealedOff 2 || s.sealedOff 4) = true → completes .hitWordIntake s (fun t =>
        (t.link n).buf = (s.link n).buf.drop 1 ∧ t.acq.ring = s.acq.ring ∧ t.xfers = s.xfers ∧ t.mem = s.mem)) ∧
      ((s.sealedOff 2 || s.sealedOff 4) = false → s.passes 2 4 = false → completes .hitWordIntake s (fun t =>
        (t.link n).buf = (s.link n).buf.drop 1 ∧ t.acq = s.acq ∧ t.xfers = s.xfers ++ [.hit n f w] ∧
        sameRegsBut [Reg.tlnkWaitMax] s t ∧ t.mem = s.mem)) ∧
      (s.passes 2 4 = true → s.passes 4 18 = true → s.acq.skip = none → s.flag Reg.seccInject 31 = false →
        s.acq.ring.length + s.acq.staged.length < 655360 → completes .hitWordIntake s (fun t =>
          ∃ p, p < 655360 ∧ (∀ r ∈ s.acq.ring ++ s.acq.staged, r.place ≠ p) ∧ t.acq.ring = s.acq.ring ++ [⟨n, f, p, false⟩] ∧
          (∀ i, i < 8 → t.mem.byte (memKey 0 (s.ringAddr p + i)) = some (w.extractLsb' (8 * i) 8)) ∧
          (∀ k, k < memKey 0 (s.ringAddr p) ∨ memKey 0 (s.ringAddr p + 8) ≤ k →
            t.mem.byte k = s.mem.byte k ∧ sget 0 k t.mem.flips = sget 0 k s.mem.flips) ∧
          sameRegsBut [Reg.tlnkWaitMax] s t))))

/-- O31. AUX edges open a 1.6 ns span, pile up or are near edges; enabled units hold a first edge and give the signed interval at the second. -/
def Obligations.AuxEdgesAndIntervals : Prop :=
  let rising := fun (l : Fin 4) (high : Bool) (s : State) => high != s.flag Reg.tiuAuxCtl l
  (∀ (l : Fin 4) (tick : Nat) (b : Fin 256) (high : Bool) (s : State), let T := tick * 256 + b.val
    (∀ o, s.tiu.aux = some o → o.last + 819 < T) →
    completes (.auxEdge l tick b high) s (fun t =>
      t.tiu.aux = some ⟨l, T, t.time.wacc, t.time.xacc, T, false⟩ ∧ (s.time.xtal = false → t.tiu.units = s.tiu.units) ∧ samePagesBut [Pg.time, Pg.tiu] s t ∧ t.mem = s.mem) ∧
    (∀ u : Fin 4, let c := Reg.tiuCtl u
      s.flag c 0 = true → s.time.xtal = true →
      ((s.tiuUnit u).held = none → s.fld c 5 4 = l → edgeFits (s.fld c 7 6) (rising l high s) = true →
        completes (.auxEdge l tick b high) s (fun t => (t.tiuUnit u).held = some ⟨false, T⟩ ∧ t.fld (Reg.tiuStat u) 1 0 = 1)) ∧
      (∀ h : TiuHeld, (s.tiuUnit u).held = some h → h.isStop = false → T ≤ h.at' + 2 ^ 48 → s.fld c 9 8 = l →
        edgeFits (s.fld c 11 10) (rising l high s) = true → (s.tiuUnit u).queue.length < 16 →
        completes (.auxEdge l tick b high) s (fun t => (t.tiuUnit u).held = none ∧
          (∃ r, (t.tiuUnit u).queue = (s.tiuUnit u).queue ++ [r] ∧ r.value = (s.tiuScale u ((T : Int) - (h.at' : Int))).1 ∧
            (s.flag c 1 = false → r.value = satSigned 49 ((T : Int) - (h.at' : Int))) ∧ r.first = h.at' / 256) ∧
          t.flag (Reg.intStat Pg.tiu) u = true)))) ∧
  (∀ (l : Fin 4) (tick : Nat) (b : Fin 256) (high : Bool) (o : AuxOpen) (s : State), s.tiu.aux = some o →
    let T := tick * 256 + b.val
    T ≤ o.last + 819 →
    ((o.line = l.val ∨ o.more = true ∨ o.at' + 819 < T) → completes (.auxEdge l tick b high) s (fun t =>
      t.fld Reg.tiuAuxPile (8 * l + 7) (8 * l) = Nat.min (s.fld Reg.tiuAuxPile (8 * l + 7) (8 * l) + 1) 255 ∧
      t.tiu = { s.tiu with aux := some { o with last := T, more := true } } ∧ sameRegsBut [Reg.tiuAuxPile] s t ∧ t.mem = s.mem)) ∧
    (o.line ≠ l.val → o.more = false → o.at' ≤ T → T ≤ o.at' + 819 → completes (.auxEdge l tick b high) s (fun t =>
      t.fld Reg.tiuAuxNear (8 * l + 7) (8 * l) = Nat.min (s.fld Reg.tiuAuxNear (8 * l + 7) (8 * l) + 1) 255 ∧
      t.tiu.aux = some { o with last := T, more := true } ∧ samePagesBut [Pg.time, Pg.tiu] s t ∧ t.mem = s.mem ∧
      (∀ u : Fin 4, let c := Reg.tiuCtl u
        s.flag c 0 = true → s.time.xtal = true → (s.tiuUnit u).held = some ⟨false, o.at'⟩ → s.fld c 9 8 = l →
        edgeFits (s.fld c 11 10) (rising l high s) = true → s.flag c 1 = false → (s.tiuUnit u).queue.length < 16 →
        (t.tiuUnit u).held = none ∧ ∃ r, (t.tiuUnit u).queue = (s.tiuUnit u).queue ++ [r] ∧ r.value = ((T - o.at' : Nat) : Int) ∧
          r.flags.testBit 2 = true)))) ∧
  (∀ (u : Fin 4) (h : TiuHeld) (s : State), (s.tiuUnit u).held = some h → (s.tiuUnit u).queue.length < 16 →
    completes (.tiuOverflow u) s (fun t => (t.tiuUnit u).held = none ∧
      (∃ r, (t.tiuUnit u).queue = (s.tiuUnit u).queue ++ [r] ∧ r.flags.testBit 3 = true ∧
        r.value = (s.tiuScale u (if h.isStop then -281474976710655 else 281474976710655)).1 ∧
        (s.flag (Reg.tiuCtl u) 1 = false → r.value = if h.isStop then -281474976710655 else 281474976710655)) ∧
      samePagesBut [Pg.tiu] s t ∧ t.mem = s.mem)) ∧
  (∀ (d : Dom) (u : Fin 4) (v : Word) (s : State), let c := Reg.tiuCtl u
    s.takes d c v = true →
    (s.flag c 0 = false → v.getLsbD 0 = false → completes (.tiuCtlWrite d u v) s (fun t =>
      t.flag c 0 = false ∧ t.fld c 5 4 = wfld v 5 4 ∧ (t.tiuUnit u).held = none ∧ (t.tiuUnit u).queue = (s.tiuUnit u).queue ∧
      samePagesBut [Pg.tiu, Pg.own] s t ∧ t.mem = s.mem)) ∧
    (s.flag c 0 = true → (s.rd c ^^^ v) &&& 0x1FF2 ≠ 0 → completes (.tiuCtlWrite d u v) s (fun t =>
      t.flag (Reg.sticky Pg.tiu) 0 = true ∧ t.flag c 0 = v.getLsbD 0 ∧ t.rd c &&& 0xFFFFFFFE = s.rd c &&& 0xFFFFFFFE ∧
      (v.getLsbD 0 = true → t.tiu = s.tiu) ∧ (t.tiuUnit u).queue = (s.tiuUnit u).queue ∧
      (v.getLsbD 0 = false → (t.tiuUnit u).held = none) ∧ samePagesBut [Pg.tiu, Pg.own] s t ∧ t.mem = s.mem)))

/-- O32. A message of another slot with a valid copy on an enabled pair is heard, checked and acted on by its type. -/
def Obligations.TbusMessagesAreReceived : Prop :=
  let heard := fun (src : Fin 16) (p : Nat) (s t : State) =>
    t.tbus.heard.find? (fun e => decide (e.1 = src.val)) = some (src.val, s.time.up) ∧
    t.fld Reg.tbusRxOk (16 * p + 15) (16 * p) = (s.fld Reg.tbusRxOk (16 * p + 15) (16 * p) + 1) % 65536 ∧
    t.flag Reg.tbusStatus (10 + p) = true ∧ t.mem = s.mem ∧ t.time = s.time ∧ samePagesBut [Pg.tbus, Pg.time] s t
  let counted := fun (src : Fin 16) (q : Fin 256) (t : State) =>
    t.tbus.refSeq.find? (fun e => decide (e.1 = src.val)) = some (src.val, q.val)
  (∀ (src : Fin 16) (ok : BitVec 2) (q : Fin 256) (f0 f1 : Int) (p : Nat) (s : State), src.val ≠ s.slot →
    s.tbusCopy (s.tbusIn src ok f0 f1) = some p →
    completes (.tbusNullRx src ok q f0 f1) s (fun t => heard src p s t ∧ counted src q t ∧
      t.rd64 Reg.tbusRxLastLo = s.rd64 Reg.tbusRxLastLo ∧ t.trig = s.trig) ∧
    (∀ (arg : Fin 256) (tick : Nat), (s.sealedOff 3 = true → completes (.tbusAcceptRx src ok q f0 f1 arg tick) s (fun t =>
      t.trig = s.trig ∧ t.mem = s.mem)) ∧
      (s.sealedOff 3 = false → completes (.tbusAcceptRx src ok q f0 f1 arg tick) s (fun t =>
      heard src p s t ∧ counted src q t ∧ t.rd64 Reg.tbusRxLastLo = tbusPayload 2 src q arg tick ∧
      t.trig = { s.trig with fly := s.trig.fly ++ [(1, s.fullTick (tick % 2 ^ 40), arg.val)] }))) ∧
    (∀ (arg : Fin 256) (tick : Nat), (s.sealedOff 4 = true → completes (.tbusAlertRx src ok q f0 f1 arg tick) s (fun t =>
      t.trig = s.trig ∧ t.mem = s.mem)) ∧
      (s.sealedOff 4 = false → completes (.tbusAlertRx src ok q f0 f1 arg tick) s (fun t =>
      heard src p s t ∧ counted src q t ∧ t.rd64 Reg.tbusRxLastLo = tbusPayload 3 src q arg tick ∧
      t.trig = { s.trig with alerts := s.trig.alerts ++ [(3, s.fullTick (tick % 2 ^ 40), arg.val)] }))) ∧
    (∀ f : Nat, f < 2 ^ 51 → s.flag Reg.timeSyncCtl 1 = true → s.time.running = true → s.now < 2 ^ 64 →
      ((f * 8192 + src.val * 512 + 32 : Nat) : Int) - ((if p = 0 then f0 else f1) + 128) / 256 +
        (((s.fld (Reg.tbusOffset p) 15 0 + 128) / 256 : Nat) : Int) = (s.now : Int) →
      completes (.tbusSyncRx src ok f0 f1 f) s (fun t => heard src p s t ∧
        t.flag Reg.timeStatus 0 = true ∧ t.fld Reg.timeStatus 5 4 = 2 ∧ t.rd64 Reg.timeSyncDiffLo = 0)) ∧
    (s.slot = 0 → completes (.tbusMeasureRx src ok q f0 f1) s (fun t => heard src p s t ∧ counted src q t ∧
      ∃ b0 b1, t.tbus.replies.find? (fun e => decide (e.1 = src.val)) = some (src.val, b0, b1) ∧
        ∀ k : Fin 2, ok.getLsbD k = true → s.flag Reg.tbusCtl (2 + k) = true →
          (if k = 0 then b0 else b1) = s.tbusDelay src (if k = 0 then f0 else f1))) ∧
    (∀ (slot : Fin 16) (b0 b1 : Int), slot.val = s.slot → src.val = 0 → s.flag Reg.tbusCalCtl 0 = true →
      s.time.up < s.tbus.calStart + 200000000 → completes (.tbusMeasureReplyRx src ok q f0 f1 slot (b0, b1)) s (fun t =>
        heard src p s t ∧ counted src q t ∧
        ∀ k : Fin 2, (s.tbusIn src ok f0 f1).getLsbD k = true → s.flag Reg.tbusCtl (2 + k) = true → sget 0 k.val s.tbus.count < 256 →
          let a := s.tbusDelay 0 (if k = 0 then f0 else f1)
          let b := if k = 0 then b0 else b1
          sget 0 k.val t.tbus.count = sget 0 k.val s.tbus.count + 1 ∧
          sget 0 k.val t.tbus.sumAdd = sget 0 k.val s.tbus.sumAdd + (a + b) ∧
          sget 0 k.val t.tbus.sumSub = sget 0 k.val s.tbus.sumSub + (a - b)))) ∧
  (∀ (src : Fin 16) (ok : BitVec 2) (q : Fin 256) (f0 f1 : Int) (arg : Fin 256) (tick f : Nat) (s : State), src.val = s.slot →
    completes (.tbusNullRx src ok q f0 f1) s (fun t => t = s) ∧ completes (.tbusAcceptRx src ok q f0 f1 arg tick) s (fun t => t = s) ∧
    completes (.tbusSyncRx src ok f0 f1 f) s (fun t => t = s) ∧ completes (.tbusMeasureRx src ok q f0 f1) s (fun t => t = s)) ∧
  (∀ (p : Fin 2) (s : State), s.flag Reg.tbusCtl 1 = true → s.flag Reg.tbusCtl (2 + p) = true →
    completes (.tbusRxCrcFail p false) s (fun t =>
      t.fld Reg.tbusRxCrc (16 * p + 15) (16 * p) = Nat.min (s.fld Reg.tbusRxCrc (16 * p + 15) (16 * p) + 1) 65535 ∧
      sameRegsBut [Reg.tbusRxCrc] s t ∧ t = { s with regs := t.regs }) ∧
    completes (.tbusRxCrcFail p true) s (fun t => t = s)) ∧
  (∀ (src : Fin 16) (u : Nat) (s : State), s.tbus.heard.find? (fun e => decide (e.1 = src.val)) = some (src.val, u) →
    s.time.running = true → completes (.tbusSenderTimeout src) s (fun t => (∀ e ∈ t.tbus.refSeq, e.1 ≠ src.val) ∧
      (∀ e ∈ t.tbus.refSeq, e ∈ s.tbus.refSeq) ∧ u + 131072 ≤ t.time.up ∧ samePagesBut [Pg.tbus] s t ∧ t.mem = s.mem))

/-- O33. The own slot carries the queued message or NULL; TX_CMD queues; the delay compensation starts, completes or fails. -/
def Obligations.TbusSendsAndCalibrates : Prop :=
  let copy := fun (p w c : Nat) (s : State) => if s.flag Reg.tbusCtl (2 + p) then
      some (w, (((c * 8192 + s.slot * 512 + 32) * 256 : Nat) : Int) -
        (if s.flag Reg.tbusStatus 8 then ((s.fld (Reg.tbusOffset p) 15 0 : Nat) : Int) else 0))
    else none
  let onlyTbus := fun (s t : State) => samePagesBut [Pg.tbus] s t ∧ t.mem = s.mem
  (∀ s : State, completes .tbusSlotTx s (fun t => ∃ c, t.tbus.nextCycle = c + 1 ∧ s.tbus.nextCycle ≤ c ∧
    s.time.mtime ≤ c * 8192 + s.slot * 512 ∧ onlyTbus s t ∧
    (s.flag Reg.tbusCtl 0 = false → t.out = s.out ∧ t.tbus.txq = s.tbus.txq) ∧
    (s.flag Reg.tbusCtl 0 = true → s.tbusAllowed = true → s.tbus.owed = [] → s.flag Reg.tbusCalCtl 0 = false →
      (s.tbus.txq = [] → let w := tbusPayload 0 s.slot (s.tbus.seq.getD 255) 0 0
        t.out = s.out ++ [.tbus (copy 0 w c s) (copy 1 w c s)] ∧ t.tbus.seq = s.tbus.seq) ∧
      (∀ type arg tick, s.tbus.txq = [(type, arg, tick)] → type = 2 ∨ type = 3 → s.tbus.sent < s.tbMax →
        let q := match s.tbus.seq with
          | some n => (n + 1) % 256
          | none => 0
        let w := tbusPayload type s.slot q arg (tick % 2 ^ 40)
        t.out = s.out ++ [.tbus (copy 0 w c s) (copy 1 w c s)] ∧
        t.tbus.txq = [] ∧ t.tbus.seq = some q ∧ t.rd Reg.tbusTxSent = s.rd Reg.tbusTxSent + 1)))) ∧
  (∀ (d : Dom) (v : Word) (s : State), s.takes d Reg.tbusTxCmd v = true → v.getLsbD 31 = true →
    let type := wfld v 19 16
    (type = 2 ∨ type = 3 → s.tbus.txq.length < 16 → completes (.tbusTxCmd d v) s (fun t =>
      t.tbus = { s.tbus with txq := s.tbus.txq ++ [(type, wfld v 7 0, s.rd64 Reg.tbusTxTickLo)] } ∧
      sameRegsBut [Reg.ownStwOverride] s t ∧ t.mem = s.mem)) ∧
    (type = 2 ∨ type = 3 → 16 ≤ s.tbus.txq.length → completes (.tbusTxCmd d v) s (fun t => t.tbus = s.tbus ∧
      t.nat Reg.tbusTxDrop = Nat.min (s.nat Reg.tbusTxDrop + 1) 0xFFFFFFFF ∧ t.flag (Reg.intStat Pg.tbus) 3 = true ∧
      sameRegsBut [Reg.tbusTxDrop, Reg.intStat Pg.tbus, Reg.sticky Pg.tbus, Reg.ownStwOverride] s t ∧ t.mem = s.mem)) ∧
    (type = 0 ∨ 3 < type ∨ (type = 1 ∧ s.slot ≠ 0) → completes (.tbusTxCmd d v) s (fun t => t.tbus = s.tbus ∧
      t.flag (Reg.sticky Pg.tbus) 0 = true ∧ sameRegsBut [Reg.sticky Pg.tbus, Reg.ownStwOverride] s t ∧ t.mem = s.mem))) ∧
  (∀ (w : Option (Dom × Word)) (s : State), s.flag Reg.tbusCalCtl 0 = false →
    (match w with
      | none => s.fld Reg.tbusCalCtl 31 16 ≠ 0
      | some (d, v) => s.takes d Reg.tbusCalCtl v = true ∧ v.getLsbD 0 = true) →
    completes (.tbusCalGo w) s (fun t => t.tbus.sumAdd = [] ∧ t.tbus.sumSub = [] ∧ t.tbus.count = [] ∧
      t.tbus.calStart = t.time.up ∧ t.flag Reg.tbusCalCtl 0 = decide (s.slot ≠ 0) ∧
      (s.slot = 0 → t.rd (Reg.tbusOffset 0) = 0 ∧ t.rd (Reg.tbusOffset 1) = 0 ∧ t.flag Reg.tbusStatus 8 = true) ∧
      samePagesBut [Pg.tbus, Pg.own] s t ∧ t.mem = s.mem)) ∧
  (∀ s : State, s.flag Reg.tbusCalCtl 0 = true →
    (256 ≤ sget 0 0 s.tbus.count → 256 ≤ sget 0 1 s.tbus.count → completes .tbusCalDone s (fun t =>
      (∀ p : Fin 2, t.rd (Reg.tbusOffset p) = word (unsigned 16 (halfMean (sget 0 p.val s.tbus.sumSub) 256) * 65536 +
        unsigned 16 (halfMean (sget 0 p.val s.tbus.sumAdd) 256))) ∧
      t.flag Reg.tbusCalCtl 0 = false ∧ t.flag Reg.tbusStatus 8 = true ∧ t.flag (Reg.intStat Pg.tbus) 0 = true ∧ onlyTbus s t)) ∧
    (s.calFull = true → completes .tbusCalFail s (fun t => t = s)) ∧
    (s.calFull = false → completes .tbusCalFail s (fun t => t.flag Reg.tbusCalCtl 0 = false ∧ t.flag (Reg.intStat Pg.tbus) 1 = true ∧
      (∀ p : Fin 2, t.rd (Reg.tbusOffset p) = s.rd (Reg.tbusOffset p)) ∧ onlyTbus s t))) ∧
  (∀ w : Nat, w < 2 ^ 64 → tbusRead (tbusBytes w) = some w ∧
    (∀ rd : Bool, (tbusLine rd w).length = 128 ∧ (tbusLine rd w).take 8 = List.replicate 8 none ∧ none ∉ (tbusLine rd w).drop 8))

/-- O34. Fast-path reports fill the rules' windows and fire them; frame markers and blocks queue and leave on the primitive lanes. -/
def Obligations.TriggerRulesAndPrimitives : Prop :=
  let hist := fun (d : Nat) (pe : BitVec 16) (s : State) =>
    (s.trig.hist ++ (List.range 16).flatMap (fun i => if pe.getLsbD i then [] else
      ((List.range 4).map (fun c => (d, i, c, sget 0 (d * 4 + c) (s.tile i).dec))).filter (fun e => decide (e.2.2.2 ≠ 0)))).filter
        (fun e => decide (d < e.1 + 65))
  let lanes := fun (s : State) => [16, 17].filter (fun n => s.laneOn n)
  (∀ (d : Nat) (pe : BitVec 16) (s : State), completes (.fastPathReport d pe) s (fun t =>
    t.trig.hist = hist d pe s ∧ t.mem = s.mem ∧
    t.nat Reg.trigFpErr = Nat.min (s.nat Reg.trigFpErr + popCount 16 pe.toNat) 0xFFFFFFFF ∧
    samePagesBut [Pg.trig, Pg.coinc, Pg.tpath, Pg.tbus] s t ∧
    (s.modeNow = 0 ∨ s.flag (Reg.pageCtl Pg.coinc) 0 = false →
      t.trig = { s.trig with hist := hist d pe s } ∧ t.tbus = s.tbus ∧ sameRegsBut [Reg.trigFpErr, Reg.intStat Pg.trig] s t) ∧
    (s.modeNow ≠ 0 → s.flag (Reg.pageCtl Pg.coinc) 0 = true → ∀ r : Fin 8, s.flag (Reg.coincRctl r) 31 = true →
      sget 0 r.val s.trig.until' ≤ d →
      let s1 := { s with trig := { s.trig with hist := hist d pe s } }
      let hold := s.fld (Reg.coincRhold r) 15 0
      (s1.ruleMet r (s1.ruleSums r d (sget 0 r.val s.trig.until')) = true →
        t.rd (Reg.coincRfires r) = s.rd (Reg.coincRfires r) + 1 ∧ t.flag (Reg.intStat Pg.coinc) r = true ∧
        sget 0 r.val t.trig.until' = d + (if s.compat then Nat.max hold 160 else hold) ∧
        (s.flag (Reg.coincRctl r) 30 = true → s.sealedOff 3 = false → (0, d, r.val) ∈ t.trig.fly)) ∧
      (s1.ruleMet r (s1.ruleSums r d (sget 0 r.val s.trig.until')) = false →
        t.rd (Reg.coincRfires r) = s.rd (Reg.coincRfires r) ∧ sget 0 r.val t.trig.until' = sget 0 r.val s.trig.until')))) ∧
  (∀ s : State, let f := if s.trig.marked < s.time.frame then s.time.frame else s.time.frame + 1
    (s.trig.tpq.length < 32 → completes .tpFrameMarker s (fun t =>
      t.trig = { s.trig with marked := f, tpq := s.trig.tpq ++ [(true, f)] } ∧
      t.fld Reg.tpathQpeak 5 0 = Nat.max (s.fld Reg.tpathQpeak 5 0) (s.trig.tpq.length + 1) ∧
      sameRegsBut [Reg.tpathQpeak] s t ∧ t.mem = s.mem)) ∧
    (32 ≤ s.trig.tpq.length → completes .tpFrameMarker s (fun t =>
      t.trig = { s.trig with marked := f } ∧ t.nat Reg.tpathDrop = Nat.min (s.nat Reg.tpathDrop + 1) 0xFFFFFFFF ∧
      sameRegsBut [Reg.tpathDrop, Reg.intStat Pg.tpath, Reg.sticky Pg.tpath] s t ∧ t.mem = s.mem))) ∧
  (∀ (p : Nat) (r : List (Bool × Nat)) (s : State),
    let line := fun (ns : List Nat) (k : Nat) (w : DWord) => ([16, 17].filter (fun n => decide (2 ≤ s.ust n))).map (fun n =>
      if n ∈ ns then Output.laneUnit n 0 k w else .laneUnit n 0 1 idleWord)
    (s.islandLive 20 = false → completes .tpBlockSend s (fun t => t = s)) ∧
    (s.islandLive 20 = true →
      (s.trig.tpq = (true, p) :: r → completes .tpBlockSend s (fun t => t.trig = { s.trig with tpq := r } ∧ t.regs = s.regs ∧
        t.mem = s.mem ∧ (∀ n ∈ lanes s, (t.ul n).tpOn = true) ∧
        t.out = s.out ++ line (lanes s) 5 (BitVec.ofNat 64 (0x4B * 2 ^ 56 + p % 2 ^ 48)))) ∧
      (s.trig.tpq = (false, p) :: r → p < 2 ^ 64 → completes .tpBlockSend s (fun t => t.trig = { s.trig with tpq := r } ∧
        t.rd Reg.tpathSent = s.rd Reg.tpathSent + 1 ∧ t.rd64 Reg.tpathLastLo = p ∧
        sameRegsBut [Reg.tpathSent, Reg.tpathLastLo, Reg.tpathLastLo + 4] s t ∧ t.mem = s.mem ∧
        t.out = s.out ++ line ((lanes s).filter (fun n => (s.ul n).tpOn)) 0 (BitVec.ofNat 64 p))) ∧
      (s.trig.tpq = [] → s.compat = false → sget [] 4 s.lane.cc = [] →
        completes .tpBlockSend s (fun t => t = { s with out := s.out ++ line [] 1 idleWord }))))

/-- O35. Accepts set out, are counted, judged and routed by mode; the latency ring admits, serves and expires. -/
def Obligations.AcceptsReachTheRing : Prop :=
  (∀ (d : Dom) (v : Word) (s : State), s.takes d Reg.trigAccGo v = true → v.getLsbD 31 = true →
    (s.sealedOff 3 = false → completes (.hostAccept d v) s (fun t =>
      t.trig = { s.trig with fly := s.trig.fly ++ [(3, s.rd64 Reg.trigAccAtLo, wfld v 7 0)] } ∧
      sameRegsBut [Reg.ownStwOverride] s t ∧ t.mem = s.mem)) ∧
    (s.sealedOff 3 = true → completes (.hostAccept d v) s (fun t => t.trig = s.trig ∧
      sameRegsBut [Reg.trigXlost, Reg.sticky Pg.trig, Reg.ownStwOverride] s t ∧ t.mem = s.mem))) ∧
  (∀ (src : Fin 5) (pre post : List (Nat × Nat × Nat)) (k tick id : Nat) (s : State),
    s.trig.fly = pre ++ (k, tick, id) :: post → k % 8 = src.val → (∀ x ∈ pre, x.1 % 8 ≠ src.val) →
    let q := { s.trig with fly := pre ++ post }
    (s.crosses (acceptIsland k) 3 = false → completes (.acceptArrive src) s (fun t => t = s)) ∧
    (s.crosses (acceptIsland k) 3 = true →
    (s.flag Reg.trigAccCtl src = false → completes (.acceptArrive src) s (fun t => t = { s with trig := q })) ∧
    (s.flag Reg.trigAccCtl src = true → completes (.acceptArrive src) s (fun t =>
      t.rd (Reg.trigAccCount src) = s.rd (Reg.trigAccCount src) + 1 ∧ t.mem = s.mem ∧ t.time = s.time ∧
      (s.now + 65536 < tick → t.trig = q ∧ t.nat Reg.trigAccFuture = Nat.min (s.nat Reg.trigAccFuture + 1) 0xFFFFFFFF ∧
        sameRegsBut [Reg.trigAccCount src, Reg.trigAccFuture, Reg.intStat Pg.trig, Reg.sticky Pg.trig] s t) ∧
      (tick ≤ s.now + 65536 → 64 ≤ s.trig.router.length → t.trig = q ∧
        t.nat Reg.trigAccDrop = Nat.min (s.nat Reg.trigAccDrop + 1) 0xFFFFFFFF ∧
        sameRegsBut [Reg.trigAccCount src, Reg.trigAccDrop, Reg.intStat Pg.trig, Reg.sticky Pg.trig] s t) ∧
      (tick ≤ s.now + 65536 → s.trig.router.length < 64 →
        t.trig = { q with router := s.trig.router ++ [(src.val, tick, id)] } ∧ sameRegsBut [Reg.trigAccCount src] s t))))) ∧
  (∀ (k tick id : Nat) (r : List (Nat × Nat × Nat)) (s : State), s.trig.router = (k, tick, id) :: r → k < 5 →
    let m := s.modeOf (frameOf tick)
    let lo := tick - s.fld (Reg.lringWin k) 15 0
    let hi := tick + s.fld (Reg.lringWin k) 31 16
    (m ≠ 3 → m ≠ 4 → completes .acceptRoute s (fun t => t.trig = { s.trig with router := r } ∧
      t.nat Reg.trigAccUnused = Nat.min (s.nat Reg.trigAccUnused + 1) 0xFFFFFFFF ∧
      sameRegsBut [Reg.trigAccUnused] s t ∧ t.mem = s.mem ∧ t.acq = s.acq)) ∧
    (m = 3 → completes .acceptRoute s (fun t => t.trig = { s.trig with router := r } ∧ t.flag (Reg.intStat Pg.trig) 0 = true ∧
      t.mem = s.mem ∧ sameRegsBut [Reg.intStat Pg.trig, Reg.lringStatus, Reg.lringLateCount, Reg.lringDropCount,
        Reg.intStat Pg.lring, Reg.sticky Pg.lring] s t ∧
      ((∃ g, s.acq.skip = some g ∧ s.time.frame ≤ g) → t.acq = s.acq ∧ sameRegsBut [Reg.intStat Pg.trig] s t) ∧
      ((∀ g, s.acq.skip = some g → g < s.time.frame) → (s.now < (frameOf lo + 4) * 65536 → s.acq.pend.length < 64 →
        t.acq = { s.acq with pend := s.acq.pend ++ [⟨k, tick, id, lo, hi⟩] } ∧
        t.fld Reg.lringStatus 14 8 = s.acq.pend.length + 1) ∧
      ((frameOf lo + 4) * 65536 ≤ s.now → t.acq = s.acq ∧
        t.nat Reg.lringLateCount = Nat.min (s.nat Reg.lringLateCount + 1) 0xFFFFFFFF) ∧
      (s.now < (frameOf lo + 4) * 65536 → 64 ≤ s.acq.pend.length → t.acq = s.acq ∧
        t.nat Reg.lringDropCount = Nat.min (s.nat Reg.lringDropCount + 1) 0xFFFFFFFF))))) ∧
  (∀ s : State, s.memStill = true → completes .lringServe s (fun t => t = s)) ∧
  (∀ (p : PendAcc) (s : State), s.memStill = false → s.ringNext = some p → completes .lringServe s (fun t =>
    t.acq.pend = s.acq.pend.erase p ∧ t.rd Reg.lringServed = s.rd Reg.lringServed + 1 ∧
    t.acq.ring.map (fun r => r.place) = s.acq.ring.map (fun r => r.place) ∧
    (∃ v, t.evb.evs = s.evb.evs ++ [v] ∧ v.num = s.evb.nextNum ∧ v.kind = 1 ∧ v.tick = p.tick ∧ v.accId = p.id ∧
      v.accSrc = p.src) ∧
    samePagesBut [Pg.secc, Pg.evb, Pg.lring] s t ∧ t.mem = s.mem ∧ t.time = s.time)) ∧
  (∀ s : State, completes .lringExpire s (fun t =>
    (∀ r ∈ t.acq.ring, r ∈ s.acq.ring) ∧ (∀ r ∈ s.acq.ring, s.time.frame < r.frame + 4 → r ∈ t.acq.ring) ∧
    (s.acq.pend = [] → ∀ r ∈ t.acq.ring, s.time.frame < r.frame + 4) ∧
    t.acq.pend = s.acq.pend ∧ sameRegsBut [Reg.lringStatus] s t ∧ t.mem = s.mem))

/-- O36. The Hamper store opens records on armed triggers, ends windows, re-arms, holds, writes complete records and releases them. -/
def Obligations.HamperRecordsOpenCloseAndStay : Prop :=
  (∀ (k tick id : Nat) (q : List (Nat × Nat × Nat)) (s : State), s.trig.router = (k, tick, id) :: q →
    s.modeOf (frameOf tick) = 4 → s.hampState ≠ 0 → s.acq.stop = none → (∀ w, s.acq.last = some w → w.2 + 1600 ≤ tick) →
    let pre := s.fld Reg.hampWin 15 0
    let lo := tick - Nat.min pre (tick - s.acq.arm)
    let hi := tick + s.fld Reg.hampWin 31 16
    s.now < (frameOf lo + 4) * 65536 → s.acq.arm ≤ tick →
    (s.flag Reg.hampCtl 0 = false → s.hampFull = false → completes .acceptRoute s (fun t =>
      t.acq = { s.acq with
        arm := hi + 1600
        recs := s.acq.recs ++ [{ src := k, id := id, seq := s.nat Reg.hampSeq, tick := tick, lo := lo, hi := hi, pre := pre,
                                 snap := s.nat Reg.hampMissed }]
        last := some (lo, hi)
        dead := s.acq.dead ++ [hi] } ∧
      t.hampState = (if s.hampState = 3 then 3 else 2) ∧ t.rd Reg.hampSeq = s.rd Reg.hampSeq + 1 ∧
      sameRegsBut [Reg.hampStatus, Reg.hampSeq, Reg.intStat Pg.trig] s t ∧ t.mem = s.mem)) ∧
    (s.flag Reg.hampCtl 0 = true → completes .acceptRoute s (fun t =>
      t.nat Reg.hampMissed = Nat.min (s.nat Reg.hampMissed + 1) 0xFFFFFFFF ∧ t.acq.recs = s.acq.recs ∧
      t.hampState = s.hampState ∧ samePagesBut [Pg.trig, Pg.hamp] s t ∧ t.mem = s.mem))) ∧
  (∀ (w : Nat × Nat) (s : State), s.acq.last = some w →
    (s.hampState = 2 → completes .hampWindowEnd s (fun t => t.hampState = 3 ∧ (s.time.running = true → w.2 ≤ t.now) ∧
      t.acq = s.acq ∧ sameRegsBut [Reg.hampStatus] s t ∧ t.mem = s.mem)) ∧
    (s.hampState = 3 → completes .hampRearm s (fun t => t.hampState = (if s.flag Reg.hampCtl 0 then 4 else 1) ∧
      (s.time.running = true → w.2 + 1600 ≤ t.now) ∧ t.acq = s.acq ∧ sameRegsBut [Reg.hampStatus] s t ∧ t.mem = s.mem))) ∧
  (∀ (r : HampRec) (rest : List HampRec) (s : State), s.acq.recs = r :: rest → s.intakeClosed (frameOf (r.hi - 1)) = true → s.passes 4 18 = true →
    (let base := s.fld Reg.hampBase 9 0 * 65536
     let off := s.acq.storePos
     off + 64 ≤ s.hampSize → s.hampUsed + 64 ≤ s.hampSize →
      completes .hampRecordComplete s (fun t => t.acq.recs = rest ∧ t.flag (Reg.intStat Pg.hamp) 0 = true ∧
        (∃ n, 64 ≤ n ∧ n % 64 = 0 ∧ n + s.hampUsed ≤ s.hampSize ∧ t.acq.storePos = (off + n) % s.hampSize ∧
          t.acq.store = s.acq.store ++ if s.flag Reg.hampCtl 1 then [(off, n)] else []) ∧
        (s.flag Reg.hampCtl 1 = true → t.evb = s.evb) ∧
        (s.flag Reg.hampCtl 1 = false → ∃ v, t.evb.evs = s.evb.evs ++ [v] ∧ v.kind = 2 ∧ v.tick = r.tick ∧ v.lo = r.lo ∧
          v.hi = r.hi ∧ v.recSeq = r.seq) ∧
        (∀ i, i < 8 → t.mem.byte (memKey 0 (base + off + 8 + i)) = some (BitVec.ofNat 8 (r.tick / 256 ^ i))) ∧
        (∀ k, k < memKey 0 base ∨ memKey 0 (base + s.hampSize) ≤ k →
          t.mem.byte k = s.mem.byte k ∧ sget 0 k t.mem.flips = sget 0 k s.mem.flips) ∧
        samePagesBut [Pg.hamp, Pg.evb, Pg.secc] s t))) ∧
  (∀ (d : Dom) (v : Word) (s : State), s.takes d Reg.hampCtl v = true →
    (s.hampState = 1 → s.flag Reg.hampCtl 0 = false → v.getLsbD 0 = true → completes (.hampHoldWrite d v) s (fun t =>
      t.hampState = 4 ∧ t.flag Reg.hampCtl 0 = true ∧ t.flag Reg.hampCtl 1 = s.flag Reg.hampCtl 1 ∧
      samePagesBut [Pg.hamp, Pg.own] s t ∧ t.acq = s.acq ∧ t.mem = s.mem)) ∧
    (s.hampState = 4 → s.flag Reg.hampCtl 0 = true → v.getLsbD 0 = false → completes (.hampHoldWrite d v) s (fun t =>
      t.hampState = 1 ∧ t.flag Reg.hampCtl 0 = false ∧ t.flag Reg.hampCtl 1 = s.flag Reg.hampCtl 1 ∧
      samePagesBut [Pg.hamp, Pg.own] s t ∧ t.acq = { s.acq with arm := Nat.max s.acq.arm s.now } ∧ t.mem = s.mem))) ∧
  (∀ (d : Dom) (v : Word) (s : State), s.takes d Reg.hampRelease v = true → completes (.hampRelease d v) s (fun t =>
    t.acq = { s.acq with store := s.acq.store.drop (wfld v 16 0) } ∧
    t.rd Reg.hampHeld = word (s.acq.store.drop (wfld v 16 0)).length ∧
    sameRegsBut [Reg.hampHeld, Reg.hampFree, Reg.hampRead, Reg.ownStwOverride] s t ∧ t.mem = s.mem))

/-- O37. Alerts take a free freeze slot or are dropped, slots become HELD and are released; a page that waits 16 frames is written. -/
def Obligations.TailSlotsPinAndRelease : Prop :=
  let few := fun (s : State) => ∀ x ∈ s.acq.slots, x.1 < 4
  (∀ (d : Dom) (v : Word) (s : State), s.takes d Reg.tailFreezeGo v = true → v.getLsbD 31 = true →
    (s.sealedOff 4 = true → completes (.tailFreezeGo d v) s (fun t => t.trig = s.trig ∧ samePagesBut [Pg.lring, Pg.own] s t ∧
      t.mem = s.mem)) ∧
    (s.sealedOff 4 = false → completes (.tailFreezeGo d v) s (fun t =>
      t.trig = { s.trig with alerts := s.trig.alerts ++ [(0, s.rd64 Reg.tailFreezeAtLo, wfld v 7 0)] } ∧
      sameRegsBut [Reg.ownStwOverride] s t ∧ t.mem = s.mem))) ∧
  (∀ (src tick code : Nat) (r : List (Nat × Nat × Nat)) (s : State), s.trig.alerts = (src, tick, code) :: r → few s →
    let f := frameOf tick
    let lo := f - s.nat Reg.tailLookback
    let hi := f + s.nat Reg.tailLookahead
    let on := s.variant = .t ∧ s.flag Reg.tailAlertCtl (src % 8) = true
    (s.crosses (alertIsland src) 4 = false → completes .tailAlert s (fun t => t = s)) ∧
    (s.crosses (alertIsland src) 4 = true →
    (¬ on → completes .tailAlert s (fun t => t = { s with trig := { s.trig with alerts := r } })) ∧
    (on → (∀ x ∈ s.acq.slots, ¬ (x.2.1 ≤ lo ∧ hi ≤ x.2.2)) → tick ≤ s.now + 65536 → tick < 2 ^ 64 →
      (∃ i, i < 4 ∧ ∀ x ∈ s.acq.slots, x.1 ≠ i) → completes .tailAlert s (fun t =>
        ∃ i, i < 4 ∧ (∀ x ∈ s.acq.slots, x.1 ≠ i) ∧ t.acq = { s.acq with slots := sins i (lo, hi) s.acq.slots } ∧
          t.slotState i = 1 ∧ t.fld (Reg.tailFstat i) 18 16 = src % 8 ∧ t.fld (Reg.tailFstat i) 7 0 = code % 256 ∧
          t.rd64 (Reg.tailFalertLo i) = tick ∧ t.trig = { s.trig with alerts := r } ∧ samePagesBut [Pg.tail] s t ∧
          t.mem = s.mem)) ∧
    (on → ((∃ x ∈ s.acq.slots, x.2.1 ≤ lo ∧ hi ≤ x.2.2) ∨ s.now + 65536 < tick ∨ ∀ i, i < 4 → ∃ x ∈ s.acq.slots, x.1 = i) →
      completes .tailAlert s (fun t => t.acq = { s.acq with alertDrop := s.acq.alertDrop + 1 } ∧
        t.flag (Reg.intStat Pg.tail) 2 = true ∧ t.trig = { s.trig with alerts := r } ∧ samePagesBut [Pg.tail] s t ∧
        t.mem = s.mem)))) ∧
  (∀ (i : Fin 4) (s : State), s.acq.tailStop = none → s.slotState i = 1 →
    (s.tailRunning = false ∨ (s.intakeClosed (sget (0, 0) i.val s.acq.slots).2 = true ∧ ∀ p ∈ s.acq.pages,
      (sget (0, 0) i.val s.acq.slots).2 < p.f1 ∨ p.f2.getD p.f1 < (sget (0, 0) i.val s.acq.slots).1)) →
    completes (.tailSlotHeld i) s (fun t => t.slotState i = 2 ∧ t.flag (Reg.tailFstat i) 29 = true ∧
      t.flag (Reg.intStat Pg.tail) 0 = true ∧ sameRegsBut [Reg.tailFstat i, Reg.intStat Pg.tail] s t ∧
      t = { s with regs := t.regs })) ∧
  (∀ (d : Dom) (i : Fin 4) (v : Word) (s : State), s.takes d (Reg.tailFrelease i) v = true → v.getLsbD 0 = true →
    s.slotState i ≠ 0 → few s → completes (.tailSlotRelease d i v) s (fun t => t.slotState i = 0 ∧
      t.acq.slots = s.acq.slots.filter (fun x => decide (x.1 ≠ i.val)) ∧ samePagesBut [Pg.tail, Pg.decc, Pg.lring, Pg.own] s t) ∧
    (s.flag Reg.tailStatus 1 = false → completes (.tailSlotRelease d i v) s (fun t => t.acq = { s.acq with slots := s.acq.slots.filter (fun x => decide (x.1 ≠ i.val)) } ∧
      samePagesBut [Pg.tail, Pg.own] s t ∧ t.mem = s.mem))) ∧
  (∀ (n : Fin 16) (p : TailPage) (s : State), s.acq.tailStop = none → s.tailOpen n = some p → p.opened + 16 ≤ s.time.frame →
    s.flag Reg.tailStatus 1 = false → few s → p.words.length ≤ 256 → p.f1 < 2 ^ 48 →
    (s.tailFree (s.tailRegion.2 - s.tailRegion.1) s.acq.pos = none → completes (.tailPageTimeout n) s (fun t =>
      t.flag Reg.tailStatus 1 = true ∧ (∃ x, t.tailOpen n = some x ∧ x.words = p.words ∧ x.due = true) ∧
      t = { s with regs := t.regs, acq := { s.acq with pages := t.acq.pages } } ∧ samePagesBut [Pg.tail] s t)) ∧
    (∀ q : Nat, s.tailFree (s.tailRegion.2 - s.tailRegion.1) s.acq.pos = some q → s.sealedOff 4 = true ∨ s.sealedOff 19 = true →
      completes (.tailPageTimeout n) s (fun t => t.mem = s.mem ∧ t.tailOpen n = none ∧
        t.rd Reg.tailWritten = s.rd Reg.tailWritten + 1 ∧ samePagesBut [Pg.tail, Pg.decc, Pg.lring] s t)) ∧
    (∀ q : Nat, s.tailFree (s.tailRegion.2 - s.tailRegion.1) s.acq.pos = some q → s.passes 4 19 = true → completes (.tailPageTimeout n) s (fun t =>
      (∀ i j, i < p.words.length → j < 8 → t.mem.byte (memKey 25 (q * 2048 + 8 * i + j)) =
        some ((p.words.getD i 0).extractLsb' (8 * j) 8)) ∧
      mdF1 (t.pageMeta q) = p.f1 ∧ mdTile (t.pageMeta q) = n ∧ t.tailOpen n = none ∧
      t.rd Reg.tailWritten = s.rd Reg.tailWritten + 1 ∧
      (∀ k, k < memKey 25 (q * 2048) ∨ memKey 25 (q * 2048 + 2048) ≤ k → t.mem.byte k = s.mem.byte k) ∧
      t.mem.flips = s.mem.flips ∧ (∀ k, k ≠ q → t.pageMeta k = s.pageMeta k) ∧ samePagesBut [Pg.tail, Pg.decc] s t)))

/-- O38. Extraction requests queue or are refused; one begins with its head, passes frames, ends with its trailer and reports. -/
def Obligations.TailExtractionFeedsAStream : Prop :=
  let key := fun (r : XReq) => 0x8000 + r.id
  (∀ (d : Dom) (v : Word) (s : State), s.takes d Reg.tailXCtl v = true → v.getLsbD 31 = true →
    let a := s.rd64 Reg.tailXStartLo
    let b := s.rd64 Reg.tailXEndLo
    let ts := s.fld Reg.tailXTiles 15 0
    let q := wfld v 21 16
    let good := a < b ∧ ts ≠ 0 ∧ s.flag (Reg.qdevCtl q) 0 = true ∧ s.flag (Reg.qdevCtl q) 8 = true ∧ s.acq.reqs.length < 4
    (good → completes (.tailExtractRequest d v) s (fun t =>
      t.acq = { s.acq with reqs := s.acq.reqs ++ [⟨a, b, ts, q, wfld v 14 0⟩] } ∧
      t.fld Reg.tailXStat 2 0 = s.acq.reqs.length + 1 ∧ sameRegsBut [Reg.tailXStat, Reg.ownStwOverride] s t ∧
      t.mem = s.mem)) ∧
    (¬ good → completes (.tailExtractRequest d v) s (fun t => t.acq = s.acq ∧ t.flag (Reg.sticky Pg.tail) 0 = true ∧
      sameRegsBut [Reg.sticky Pg.tail, Reg.ownStwOverride] s t ∧ t.mem = s.mem))) ∧
  (∀ s : State, s.xLive = false → completes .tailExtract s (fun t => t = s)) ∧
  (∀ (r : XReq) (rest : List XReq) (s : State), s.xLive = true → s.acq.tailStop = none → s.acq.cur = none → s.acq.reqs = r :: rest →
    s.rle (key r) = {} → completes .tailExtract s (fun t =>
      t.acq.cur = some { req := r, next := frameOf r.start } ∧ t.acq.reqs = rest ∧
      (t.rle (key r)).input = leBytes 8 r.start ++ leBytes 8 r.stop ++ leBytes 8 (r.tiles % 65536 * 2 ^ 32 + r.id % 32768) ∧
      t.flag Reg.tailXStat 8 = true ∧ sameRegsBut [Reg.tailXStat] s t ∧ t.mem = s.mem)) ∧
  (∀ (c : XCur) (s : State), s.xLive = true → s.acq.tailStop = none → s.tailRunning = false → s.acq.cur = some c → c.fed = false →
    s.xWaits c.req.queue = false → (s.rle (key c.req)).ended = false →
    (s.xNext c.next = none → completes .tailExtract s (fun t => t.acq.cur = some { c with fed := true } ∧
      t.rle (key c.req) = { s.rle (key c.req) with
        input := (s.rle (key c.req)).input ++ leBytes 8 (c.words % 2 ^ 32 * 2 ^ 32 + c.gaps % 2 ^ 32)
        ended := true } ∧
      t.regs = s.regs ∧ t.mem = s.mem)) ∧
    (∀ f : Nat, s.xNext c.next = some f → f ≤ frameOf (c.req.stop - 1) → (∀ x ∈ s.acq.slots, x.1 < 4) →
      completes .tailExtract s (fun t =>
        (∃ n g, t.acq.cur = some { c with next := f + 1, words := n, gaps := g } ∧ c.words ≤ n ∧ c.gaps ≤ g) ∧
        samePagesBut [Pg.tail, Pg.decc, Pg.rle, Pg.lring] s t))) ∧
  (∀ (c : XCur) (s : State), s.acq.cur = some c → c.fed = true → s.rle (key c.req) = {} → s.xWaits c.req.queue = false →
    completes .tailExtractDone s (fun t => t.acq = { s.acq with cur := none } ∧ t.rd Reg.tailXWords = word c.words ∧
      t.rd Reg.tailXDone = s.rd Reg.tailXDone + 1 ∧ t.flag (Reg.intStat Pg.tail) 1 = true ∧
      t.flag Reg.tailXStat 8 = false ∧
      sameRegsBut [Reg.tailXWords, Reg.tailXDone, Reg.intStat Pg.tail, Reg.tailXStat] s t ∧ t.mem = s.mem))

/-- O39. The compressor codes determined input and closes streams; the dispatcher deals words in rotation and markers to 24 engines. -/
def Obligations.CompressorCodesAndDispatcherDeals : Prop :=
  (∀ (key : Nat) (s : State), let x := s.rle key
    (rleCode x.ended x.input = none → completes (.rleInput key) s (fun t => t = s)) ∧
    (∀ (cw : List Byte) (n : Nat), rleCode x.ended x.input = some (cw, n) → rleCode x.ended (x.input.drop n) = none →
      x.size = 0 ∨ x.coded.length + 6 ≤ x.size - 16 →
      completes (.rleInput key) s (fun t => t.rle key = { x with
          size := if x.size = 0 then s.rleSize else x.size
          input := x.input.drop n, coded := x.coded ++ cw, raw := x.raw ++ x.input.take n } ∧
        t.regs = s.regs ∧ t.mem = s.mem ∧ t.que = s.que)) ∧
    (x.ended = true → x.input = [] → x.size ≠ 0 → completes (.rleStreamEnd key) s (fun t => t.rle key = {} ∧
      t.rd Reg.rleBlocks = s.rd Reg.rleBlocks + 1 ∧
      (0x10000 ≤ key → s.flag Reg.evbRleq 31 = true → t.que.packets = s.que.packets ++
        [{ queue := s.fld Reg.evbRleq 5 0, src := 1, payload := rleBlock (rleNum key) x.seq x.size true x.coded x.raw, last := true }]) ∧
      (0x10000 ≤ key → s.flag Reg.evbRleq 31 = false → t.que = s.que) ∧
      (key < 0x10000 → ∀ c, s.acq.cur = some c → t.que.packets = s.que.packets ++
        [{ queue := c.req.queue, src := 2, payload := rleBlock (rleNum key) x.seq x.size true x.coded x.raw, last := true,
           waits := true }]) ∧
      samePagesBut [Pg.rle] s t ∧ t.mem = s.mem))) ∧
  (∀ (j : Fin 4) (w : DealWord) (r : List DealWord) (s : State), sget [] j.val s.eng.q = w :: r →
    let k := sget 0 j.val s.eng.rot
    let e := engAt j k
    let ctx := if dfld w.word 56 54 ≤ 3 then s.nbrContext w.mode (w.tile * 128 + dfld w.word 63 57) w.frame else (0, 0)
    let dealt := fun (t : State) => sget [] j.val t.eng.q = r ∧ sget 0 j.val t.eng.rot = (k + 1) % 24
    (s.markerFirst j w.frame = true → completes (.dispatchWord j) s (fun t => t = s)) ∧
    (s.markerFirst j w.frame = false → s.islandLive (dealIsland w.mode) = false →
      completes (.dispatchWord j) s (fun t => t = s)) ∧
    (s.markerFirst j w.frame = false → k < 24 → s.islandLive (dealIsland w.mode) = true →
    let shut := s.sealedOff (engIsland e) || s.sealedOff (dealIsland w.mode)
    (shut = false → s.fab.stopped.getLsbD (engIsland e) = true → completes (.dispatchWord j) s (fun t =>
      dealt t ∧ (∃ n, (∀ m, w.ev = some m → n = m) ∧ t.eng.cross = s.eng.cross ++
        [(e, { mode := w.mode, frame := w.frame, tile := w.tile, word := w.word, ctxA := ctx.1, ctxB := ctx.2, ev := some n })]) ∧
      t.eng.engs = s.eng.engs ∧ samePagesBut [Pg.evb] s t ∧ t.mem = s.mem)) ∧
    (shut = false → s.fab.stopped.getLsbD (engIsland e) = false → (s.engine e).queue.length < 512 → completes (.dispatchWord j) s (fun t =>
      dealt t ∧ (∃ n, (∀ m, w.ev = some m → n = m) ∧ (t.engine e).queue = (s.engine e).queue ++
        [{ mode := w.mode, frame := w.frame, tile := w.tile, word := w.word, ctxA := ctx.1, ctxB := ctx.2, ev := some n }]) ∧
      (∀ e', e' ≠ e → t.engine e' = s.engine e') ∧ samePagesBut [Pg.ecl (e / 8), Pg.evb] s t ∧ t.mem = s.mem)) ∧
    (shut = true → completes (.dispatchWord j) s (fun t => dealt t ∧
      t.nat (Reg.eclXlost (e / 8)) = Nat.min (s.nat (Reg.eclXlost (e / 8)) + 1) 0xFFFFFFFF ∧
      t.eng.engs = s.eng.engs ∧ samePagesBut [Pg.ecl (e / 8), Pg.evb] s t ∧ t.mem = s.mem)) ∧
    (shut = false → s.fab.stopped.getLsbD (engIsland e) = false → 512 ≤ (s.engine e).queue.length → completes (.dispatchWord j) s (fun t =>
      dealt t ∧ t.nat (Reg.engBypass j) = Nat.min (s.nat (Reg.engBypass j) + 1) 0xFFFFFFFF ∧
      t.flag (Reg.intStat Pg.eng) j = true ∧ t.eng.engs = s.eng.engs ∧ samePagesBut [Pg.eng, Pg.ecl (e / 8), Pg.evb, Pg.secc] s t)))) ∧
  (∀ (j : Fin 4) (f m : Nat) (s : State), s.nextMarker j (sget [] j.val s.eng.todo) [] = some (f, m) →
    (s.islandLive (dealIsland m) = false → completes (.dispatchMarker j) s (fun t => t = s)) ∧
    (s.islandLive (dealIsland m) = true → s.sealedOff (dealIsland m) = false → completes (.dispatchMarker j) s (fun t =>
      sget [] j.val t.eng.todo = (sget [] j.val s.eng.todo).erase (f, m) ∧
      (∀ k, k < 24 → s.sealedOff (engIsland (24 * j + k)) = false → s.fab.stopped.getLsbD (engIsland (24 * j + k)) = false →
        (t.engine (24 * j + k)).queue = (s.engine (24 * j + k)).queue ++ [{ marker := true, mode := m, frame := f }]) ∧
      (∀ e, e / 24 ≠ j.val → t.engine e = s.engine e) ∧
      samePagesBut ([Pg.hamp, Pg.evb, Pg.secc] ++ (List.range 12).map Pg.ecl) s t ∧ (s.eng.out = [] → t.mem = s.mem))))

/-- O40. Each three-register instruction writes its result to d and the flags its row names, in its cycles, and changes nothing else. -/
def Obligations.EngineArithmeticOnRegisters : Prop :=
  ∀ (e : Fin 96) (d a b : Fin 32) (s : State), let x := s.engine e
    let A := x.g a
    let B := x.g b
    let zn := fun (r : Word) => { x.fl with z := decide (r = 0), n := r.msb }
    let zo := fun (r : Word) => { x.fl with z := decide (r = 0) }
    let clamp := fun (z : Int) => if z < -2147483648 then -2147483648 else if 2147483648 ≤ z then 2147483647 else z
    let sat := fun (z : Int) => BitVec.ofInt 32 (clamp z)
    let one := fun (p : Bool) => if p then (1 : Word) else 0
    let runs := fun (fn cost : Nat) => s.runsWord e (encA 0 d a b fn) cost
    let gives := fun (r : Word) (fl : EFlags) (cost : Nat) (t : State) => engineWrote s t e d r fl cost
    (runs 0x00 1 → completes (.add e d a b) s (gives (A + B)
      { zn (A + B) with c := decide (2 ^ 32 ≤ A.toNat + B.toNat), v := decide (A.toInt + B.toInt ≠ (A + B).toInt) } 1)) ∧
    (runs 0x01 1 → completes (.sub e d a b) s (gives (A - B)
      { zn (A - B) with c := decide (B.toNat ≤ A.toNat), v := decide (A.toInt - B.toInt ≠ (A - B).toInt) } 1)) ∧
    (runs 0x02 1 → completes (.and e d a b) s (gives (A &&& B) (zn (A &&& B)) 1)) ∧
    (runs 0x03 1 → completes (.or e d a b) s (gives (A ||| B) (zn (A ||| B)) 1)) ∧
    (runs 0x04 1 → completes (.xor e d a b) s (gives (A ^^^ B) (zn (A ^^^ B)) 1)) ∧
    (runs 0x05 1 → completes (.shl e d a b) s (let r := A <<< (B.toNat % 32)
      gives r (zn r) 1)) ∧
    (runs 0x06 1 → completes (.shr e d a b) s (let r := A >>> (B.toNat % 32)
      gives r (zn r) 1)) ∧
    (runs 0x07 1 → completes (.sar e d a b) s (let r := A.sshiftRight (B.toNat % 32)
      gives r (zn r) 1)) ∧
    (runs 0x08 1 → completes (.min e d a b) s (let r := if A.toInt ≤ B.toInt then A else B
      gives r (zn r) 1)) ∧
    (runs 0x09 1 → completes (.max e d a b) s (let r := if A.toInt ≤ B.toInt then B else A
      gives r (zn r) 1)) ∧
    (runs 0x0A 1 → completes (.adds e d a b) s (let z := A.toInt + B.toInt
      gives (sat z) { zn (sat z) with q := x.fl.q || decide (clamp z ≠ z) } 1)) ∧
    (runs 0x0B 1 → completes (.subs e d a b) s (let z := A.toInt - B.toInt
      gives (sat z) { zn (sat z) with q := x.fl.q || decide (clamp z ≠ z) } 1)) ∧
    (runs 0x0C 1 → completes (.slt e d a b) s (let r := one (decide (A.toInt < B.toInt))
      gives r (zo r) 1)) ∧
    (runs 0x0D 1 → completes (.sltu e d a b) s (let r := one (decide (A.toNat < B.toNat))
      gives r (zo r) 1)) ∧
    (runs 0x10 2 → completes (.mul e d a b) s (gives (A * B) (zn (A * B)) 2))

/-- O41. Lane, shift-immediate, bit-field and immediate instructions write their result and flags; bit-field bits past bit 31 are open. -/
def Obligations.EngineLanesImmediatesAndFields : Prop :=
  ∀ (e : Fin 96) (d a b c : Fin 32) (imm : BitVec 16) (s : State), let x := s.engine e
    let A := x.g a
    let B := x.g b
    let S := imm.signExtend 32
    let U := imm.setWidth 32
    let zn := fun (r : Word) => { x.fl with z := decide (r = 0), n := r.msb }
    let zo := fun (r : Word) => { x.fl with z := decide (r = 0) }
    let qf := fun (q : Bool) => { x.fl with q := x.fl.q || q }
    let clamp := fun (lo hi z : Int) => if z < lo then lo else if hi < z then hi else z
    let h := fun (w : Word) (i : Nat) => w.extractLsb' (16 * i) 16
    let o := fun (w : Word) (i : Nat) => w.extractLsb' (8 * i) 8
    let c16 := clamp (-32768) 32767
    let c8 := clamp 0 255
    let gives := fun (r : Word) (fl : EFlags) (t : State) => engineWrote s t e d r fl 1
    let aRuns := fun (op b fn : Nat) => s.runsWord e (encA op d a b fn) 1
    let bRuns := fun (op : Nat) => s.runsWord e (encB op d a imm) 1
    let two := fun (f : Nat → Int) (t : State) => ∃ r, gives r (qf ((List.range 2).any (fun i => decide (c16 (f i) ≠ f i)))) t ∧
      ∀ i, i < 2 → h r i = BitVec.ofInt 16 (c16 (f i))
    let four := fun (f : Nat → Int) (t : State) => ∃ r, gives r (qf ((List.range 4).any (fun i => decide (c8 (f i) ≠ f i)))) t ∧
      ∀ i, i < 4 → o r i = BitVec.ofInt 8 (c8 (f i))
    (aRuns 0 b 0x20 → completes (.addh2s e d a b) s (two (fun i => (h A i).toInt + (h B i).toInt))) ∧
    (aRuns 0 b 0x21 → completes (.subh2s e d a b) s (two (fun i => (h A i).toInt - (h B i).toInt))) ∧
    (aRuns 0 b 0x22 → completes (.addb4u e d a b) s (four (fun i => ((o A i).toNat : Int) + ((o B i).toNat : Int)))) ∧
    (aRuns 0 b 0x23 → completes (.subb4u e d a b) s (four (fun i => ((o A i).toNat : Int) - ((o B i).toNat : Int)))) ∧
    (aRuns 0 b 0x24 → completes (.maxh2 e d a b) s (fun t => ∃ r, gives r x.fl t ∧
      ∀ i, i < 2 → h r i = if (h A i).toInt < (h B i).toInt then h B i else h A i)) ∧
    (aRuns 0 b 0x25 → completes (.minh2 e d a b) s (fun t => ∃ r, gives r x.fl t ∧
      ∀ i, i < 2 → h r i = if (h A i).toInt < (h B i).toInt then h A i else h B i)) ∧
    (aRuns 1 b 0 → completes (.shli e d a b) s (gives (A <<< b.val) (zn (A <<< b.val)))) ∧
    (aRuns 1 b 1 → completes (.shri e d a b) s (gives (A >>> b.val) (zn (A >>> b.val)))) ∧
    (aRuns 1 b 2 → completes (.sari e d a b) s (gives (A.sshiftRight b.val) (zn (A.sshiftRight b.val)))) ∧
    (aRuns 2 b c → completes (.bfx e d a b c) s (fun t => ∃ r, gives r (zo r) t ∧
      (∀ i, i ≤ c.val → b.val + i < 32 → r.getLsbD i = A.getLsbD (b.val + i)) ∧ (∀ i, c.val < i → r.getLsbD i = false))) ∧
    (aRuns 3 b c → completes (.bfi e d a b c) s (fun t => ∃ r, gives r x.fl t ∧ ∀ i, i < 32 →
      r.getLsbD i = if b.val ≤ i ∧ i ≤ b.val + c.val then A.getLsbD (i - b.val) else (x.g d).getLsbD i)) ∧
    (bRuns 0x08 → completes (.addi e d a imm) s (gives (A + S)
      { zn (A + S) with c := decide (2 ^ 32 ≤ A.toNat + S.toNat), v := decide (A.toInt + imm.toInt ≠ (A + S).toInt) })) ∧
    (bRuns 0x09 → completes (.andi e d a imm) s (gives (A &&& U) (zn (A &&& U)))) ∧
    (bRuns 0x0A → completes (.ori e d a imm) s (gives (A ||| U) (zn (A ||| U)))) ∧
    (bRuns 0x0B → completes (.xori e d a imm) s (gives (A ^^^ U) (zn (A ^^^ U)))) ∧
    (s.runsWord e (encB 0x0C d a imm) 1 → completes (.lui e d imm) s (gives (word (imm.toNat * 65536)) x.fl)) ∧
    (bRuns 0x0D → completes (.sltui e d a imm) s (let r : Word := if A.toNat < imm.toNat then 1 else 0
      gives r (zo r))) ∧
    (bRuns 0x0E → completes (.slti e d a imm) s (let r : Word := if A.toInt < imm.toInt then 1 else 0
      gives r (zo r)))

/-- O42. Loads give the bytes at the computed address, stores change exactly their bytes of cluster memory, AMOADD does both. -/
def Obligations.EngineLoadsAndStores : Prop :=
  ∀ (e : Fin 96) (d a b : Fin 32) (imm : BitVec 16) (s : State), let x := s.engine e
    let code := 1 + e.val / 8
    let cell := fun (adr : Nat) => decodeCell (s.mem.byte (memKey code adr)) (sget 0 (memKey code adr) s.mem.flips)
    let reads := fun (adr n : Nat) => ∀ i, i < n → (cell (adr + i)).ue = false
    let value := fun (adr n : Nat) => leNat ((List.range n).map (fun i => (cell (adr + i)).val))
    let ok := fun (A : Word) (n : Nat) => A.toNat < 0x40000 ∧ A.toNat % n = 0
    let at' := x.g a + imm.signExtend 32
    let hidx := x.hit.tile * 128 + dfld x.hit.word 63 57
    let loads := fun (A : Word) (n : Nat) (w : Word) (cost : Nat) => s.runsWord e w cost ∧ ok A n ∧ reads A.toNat n
    let gets := fun (r : Word) (cost : Nat) (t : State) => engineWrote s t e d r x.fl cost
    let stored := fun (A : Word) (n v : Nat) (t : State) =>
      (∀ i, i < n → t.mem.byte (memKey code (A.toNat + i)) = some (BitVec.ofNat 8 (v / 256 ^ i))) ∧
      (∀ k, k < memKey code A.toNat ∨ memKey code (A.toNat + n) ≤ k →
        t.mem.byte k = s.mem.byte k ∧ sget 0 k t.mem.flips = sget 0 k s.mem.flips) ∧ engineFrame s t e
    let stores := fun (A : Word) (n : Nat) (w : Word) => s.runsWord e w 1 ∧ ok A n ∧ s.flag Reg.seccInject 31 = false
    let goes := fun (cost : Nat) (t : State) => t.engine e = { x with pc := (x.pc + 1) % 4096, used := x.used + cost }
    let B := fun (op : Nat) => encB op d a imm
    (loads at' 4 (B 0x10) 2 → completes (.ldw e d a imm) s (gets (word (value at'.toNat 4)) 2)) ∧
    (loads at' 2 (B 0x11) 2 → completes (.ldh e d a imm) s (gets ((BitVec.ofNat 16 (value at'.toNat 2)).signExtend 32) 2)) ∧
    (loads at' 2 (B 0x12) 2 → completes (.ldhu e d a imm) s (gets (word (value at'.toNat 2)) 2)) ∧
    (loads at' 1 (B 0x13) 2 → completes (.ldb e d a imm) s (gets (word (value at'.toNat 1)) 2)) ∧
    (pairOk d = true → loads at' 8 (B 0x14) 3 → completes (.ldd e d a imm) s (fun t =>
      (t.engine e).pair d = BitVec.ofNat 64 (value at'.toNat 8) ∧
      (∀ k, k ≠ d.val → k ≠ d.val + 1 → (t.engine e).g k = x.g k) ∧ (t.engine e).fl = x.fl ∧
      (t.engine e).pc = (x.pc + 1) % 4096 ∧ engineFrame s t e ∧ t.mem = s.mem)) ∧
    (let A := x.g a + word (2 * hidx)
     loads A 2 (encA 0x15 d a b 0) 2 → completes (.ldhx e d a) s (gets ((BitVec.ofNat 16 (value A.toNat 2)).signExtend 32) 2)) ∧
    (let A := x.g a + word (4 * hidx)
     loads A 4 (encA 0x16 d a b 0) 2 → completes (.ldwx e d a) s (gets (word (value A.toNat 4)) 2)) ∧
    (stores at' 4 (B 0x18) → completes (.stw e d a imm) s (fun t => stored at' 4 (x.g d).toNat t ∧ goes 1 t)) ∧
    (stores at' 2 (B 0x19) → completes (.sth e d a imm) s (fun t => stored at' 2 (x.g d).toNat t ∧ goes 1 t)) ∧
    (stores at' 1 (B 0x1A) → completes (.stb e d a imm) s (fun t => stored at' 1 (x.g d).toNat t ∧ goes 1 t)) ∧
    (pairOk d = true → stores at' 8 (B 0x1B) → completes (.std e d a imm) s (fun t =>
      stored at' 8 (x.pair d).toNat t ∧ goes 1 t)) ∧
    (let A := x.g a
     loads A 4 (encA 0x1D d a b 0) 3 → s.flag Reg.seccInject 31 = false → completes (.amoadd e d a b) s (fun t =>
      let v := word (value A.toNat 4)
      stored A 4 (v + x.g b).toNat t ∧
      (∀ k, (t.engine e).g k = if k = d ∧ d ≠ 0 then v else x.g k) ∧ (t.engine e).fl = x.fl ∧
      (t.engine e).pc = (x.pc + 1) % 4096)) ∧
    (∀ (n : Nat) (c : Instr), (n = 4 ∧ c = Instr.ldw e d a imm ∧ s.runsWord e (B 0x10) 2) ∨ (n = 4 ∧ c = Instr.stw e d a imm ∧ s.runsWord e (B 0x18) 1) →
      ¬ ok at' n → x.sent = true → x.cut = false → (∀ u, x.unit = some u → u.marker = false) → completes c s (fun t =>
        t.nat (Reg.eclExceptions (e / 8) (e % 8)) = Nat.min (s.nat (Reg.eclExceptions (e / 8) (e % 8)) + 1) 0xFFFFFFFF ∧
        t.fld (Reg.eclEstat (e / 8) (e % 8)) 15 8 = (if 0x40000 ≤ at'.toNat then 3 else 4) ∧
        t.rd (Reg.eclExcPc (e / 8) (e % 8)) = word x.pc ∧ (t.engine e).pc = x.loop ∧ (t.engine e).regs = x.regs ∧
        engineFrame s t e ∧ t.mem = s.mem))

/-- O43. A load of a cluster is accepted or refused and copies SRAM bytes; MEM_DATA writes and reads the word at MEM_ADDR and steps it. -/
def Obligations.ClusterLoadsAndMemoryPort : Prop :=
  let cell := fun (s : State) (code adr : Nat) =>
    decodeCell (s.mem.byte (memKey code adr)) (sget 0 (memKey code adr) s.mem.flips)
  (∀ (d : Dom) (n : Fin 12) (v : Word) (s : State), s.takes d (Reg.eclLoadCtl n) v = true → v.getLsbD 31 = true →
    (s.loadRefused n = false → completes (.engineLoad d n v) s (fun t =>
      t.flag (Reg.eclLoadCtl n) 31 = true ∧ t.flag (Reg.eclLoadCtl n) 0 = false ∧
      t.eload n = { src := s.rd (Reg.eclLoadSrc n), dst := s.rd (Reg.eclLoadDst n), len := s.rd (Reg.eclLoadLen n) } ∧
      sameRegsBut [Reg.eclLoadCtl n, Reg.ownStwOverride] s t ∧
      t = { s with regs := t.regs, eng := { s.eng with loads := t.eng.loads } })) ∧
    (s.loadRefused n = true → completes (.engineLoad d n v) s (fun t => t.flag (Reg.sticky (Pg.ecl n)) 0 = true ∧
      t.flag (Reg.eclLoadCtl n) 31 = s.flag (Reg.eclLoadCtl n) 31 ∧
      sameRegsBut [Reg.eclLoadCtl n, Reg.sticky (Pg.ecl n), Reg.ownStwOverride] s t ∧ t = { s with regs := t.regs }))) ∧
  (∀ (n : Fin 12) (s : State), let len := wfld (s.eload n).len 18 0
    let src := (s.eload n).src.toNat
    let off := wfld (s.eload n).dst 17 0
    (s.islandLive (5 + n.val) = false ∨ s.memStill = true → completes (.engineLoadDone n) s (fun t => t = s)) ∧
    (s.islandLive (5 + n.val) = true → s.memStill = false → s.sealedOff (5 + n.val) = false → s.sealedOff 18 = false →
    s.flag (Reg.eclLoadCtl n) 31 = true → (s.eload n).dst.getLsbD 31 = false → s.flag Reg.seccInject 31 = false →
    (∀ i, i < len → (cell s 0 (src + i)).ue = false) → completes (.engineLoadDone n) s (fun t =>
      (∀ i, i < len → t.mem.byte (memKey (1 + n.val) (off + i)) = some (cell s 0 (src + i)).val) ∧
      (∀ k, k < memKey (1 + n.val) off ∨ memKey (1 + n.val) (off + len) ≤ k →
        t.mem.byte k = s.mem.byte k ∧ sget 0 k t.mem.flips = sget 0 k s.mem.flips) ∧
      t.flag (Reg.eclLoadCtl n) 31 = false ∧ t.flag (Reg.eclLoadCtl n) 0 = true ∧ t.flag (Reg.intStat (Pg.ecl n)) 24 = true ∧
      t.eng = s.eng ∧ samePagesBut [Pg.secc, Pg.ecl n] s t))) ∧
  (∀ (r : Requester) (n : Fin 12) (v : Word) (s : State), let k := Reg.eclMemAddr n
    let im := s.flag k 31
    let code := if im then 13 + n.val else 1 + n.val
    let a := (if im then s.fld k 26 24 * 0x4000 else 0) + 4 * s.fld k 17 2
    (im = true → 4 * s.fld k 17 2 < 0x4000 ∧ s.clusterStopped n = true) → s.asks r = true →
    (s.takes (s.reqDomain r) (Reg.eclMemData n) v = true → (∀ b, r ≠ .steward b) → s.flag Reg.seccInject 31 = false →
      completes (.memDataAccess r n (some v)) s (fun t =>
        (∀ i, i < 4 → t.mem.byte (memKey code (a + i)) = some (v.extractLsb' (8 * i) 8)) ∧
        (∀ j, j < memKey code a ∨ memKey code (a + 4) ≤ j →
          t.mem.byte j = s.mem.byte j ∧ sget 0 j t.mem.flips = sget 0 j s.mem.flips) ∧
        t.fld k 17 2 = (s.fld k 17 2 + 1) % 65536 ∧ sameRegsBut [k, Reg.eclMemData n, Reg.ownStwOverride] s t)) ∧
    (s.reads r (Reg.eclMemData n) = true → (∀ e ∈ s.fab.latch, e.1 ≠ reqIdx r) →
      (∀ i, i < 4 → (cell s code (a + i)).ue = false) → completes (.memDataAccess r n none) s (fun t =>
        t.out = s.out ++ [.readData r (Reg.eclMemData n)
          (word (leNat ((List.range 4).map (fun i => (cell s code (a + i)).val))))] ∧
        t.fld k 17 2 = (s.fld k 17 2 + 1) % 65536 ∧ samePagesBut [Pg.secc, Pg.ecl n] s t ∧ t.mem = s.mem)))

/-- O44. Branches move the PC, special values, time and hit-field instructions write d and their flags, reserved selectors raise exception 1. -/
def Obligations.EngineBranchesAndValues : Prop :=
  ∀ (e : Fin 96) (d a b cond : Fin 32) (disp : BitVec 22) (s : State), let x := s.engine e
    let next := (x.pc + 1) % 4096
    let target := (((next : Int) + disp.toInt) % 4096).toNat
    let hidx := x.hit.tile * 128 + dfld x.hit.word 63 57
    let F := x.fl
    let holds := [true, F.z, !F.z, F.n != F.v, F.n == F.v, !F.c, F.c, F.k, !F.k, F.q].getD cond false
    let cost := if holds then 2 else 1
    let run := fun (fn : Nat) => s.runsWord e (encA 0x30 d a b fn) 1
    let gives := fun (r : Word) (fl : EFlags) (t : State) => engineWrote s t e d r fl 1
    let P := x.pair a
    let Q := x.pair b
    let diff := (P - Q).toInt
    let lim := if 2147483647 < diff then (0x7FFFFFFF : Word) else if diff < -2147483647 then 0x80000000 else BitVec.ofInt 32 diff
    let code := 1 + e.val / 8
    let A := x.g b + word (2 * hidx)
    let cell := fun (adr : Nat) => decodeCell (s.mem.byte (memKey code adr)) (sget 0 (memKey code adr) s.mem.flips)
    let lead := dfld P 53 30
    let k := leNat ((List.range 2).map (fun i => (cell (A.toNat + i)).val))
    let corr := decide (dfld P 56 54 = 0 ∨ dfld P 56 54 = 3) && !P.getLsbD 1
    let ctx := if a = 0 then x.hit.ctxA else x.hit.ctxB
    let dist : Int := (dfld x.hit.word 53 30 : Int) - ((wfld ctx 23 0 : Int) - (if ctx.getLsbD 30 then 2 ^ 24 else 0))
    let close := ctx.getLsbD 31 && decide (dist.natAbs < (x.g b).toNat)
    (∀ h : cond.val < 10, s.runsWord e (encC 0x20 cond disp) cost → completes (.br e ⟨cond, by omega⟩ disp) s (fun t =>
      t.engine e = { x with pc := if holds then target else next, used := x.used + cost } ∧ engineFrame s t e ∧ t.mem = s.mem)) ∧
    (s.runsWord e (encC 0x21 0 disp) 2 → completes (.call e disp) s (fun t => (t.engine e).g 31 = word next ∧
      (∀ j, j ≠ 31 → (t.engine e).g j = x.g j) ∧
      t.engine e = { x with regs := (t.engine e).regs, pc := target, used := x.used + 2 } ∧ engineFrame s t e ∧ t.mem = s.mem)) ∧
    (s.runsWord e (encA 0x22 d a b 0) 2 → completes (.ret e) s (fun t =>
      t.engine e = { x with pc := (x.g 31).toNat % 4096, used := x.used + 2 } ∧ engineFrame s t e ∧ t.mem = s.mem)) ∧
    (a.val ≤ 16 → run 3 → completes (.movs e d a) s (gives (([word hidx, word x.frame, word (x.frame / 2 ^ 32 % 2 ^ 16),
      x.hit.ctxA, x.hit.ctxB, word (match x.limit with
        | some l => l - (x.used + 1)
        | none => 0), word e, word x.mode] ++ (List.range 8).map (fun i => x.params.getD i 0) ++ [F.bits]).getD a 0) F)) ∧
    (16 < a.val → run 3 → x.sent = true → x.cut = false → (∀ u, x.unit = some u → u.marker = false) →
      completes (.movs e d a) s (fun t => t.fld (Reg.eclEstat (e / 8) (e % 8)) 15 8 = 1 ∧
        t.nat (Reg.eclExceptions (e / 8) (e % 8)) = Nat.min (s.nat (Reg.eclExceptions (e / 8) (e % 8)) + 1) 0xFFFFFFFF ∧
        (t.engine e).pc = x.loop ∧ (t.engine e).regs = x.regs ∧ engineFrame s t e ∧ t.mem = s.mem)) ∧
    (run 4 → completes (.movk e d) s (gives (if F.k then 1 else 0) F)) ∧
    (run 5 → pairOk d = true → pairOk a = true → completes (.tfull e d a) s (fun t =>
      (t.engine e).pair d = BitVec.ofNat 64 (x.frame * 2 ^ 24 + lead) ∧
      (∀ j, j ≠ d.val → j ≠ d.val + 1 → (t.engine e).g j = x.g j) ∧
      t.engine e = { x with regs := (t.engine e).regs, pc := next, used := x.used + 1 } ∧ engineFrame s t e ∧ t.mem = s.mem)) ∧
    (run 6 → pairOk a = true → pairOk b = true → completes (.tsub e d a b) s (gives lim
      { F with n := lim.msb, v := decide (2147483647 < diff ∨ diff < -2147483647), z := decide (P = Q), k := decide (P = Q) })) ∧
    (run 7 → pairOk a = true → A.toNat + 2 ≤ 0x40000 → A.toNat % 2 = 0 → (∀ i, i < 2 → (cell (A.toNat + i)).ue = false) →
      completes (.walk e d a b) s (gives
        (if corr then word lead - word ((dfld P 29 18 * k + 2048) / 4096) else word lead) { F with k := corr })) ∧
    (run 8 → a.val ≤ 1 → completes (.near e d a b) s (gives (if close then 1 else 0) { F with k := close })) ∧
    (run 9 → b.val < 8 → pairOk a = true → completes (.hfld e d a b) s (gives (word
      ([dfld P 63 57, dfld P 56 54, lead, dfld P 29 18, dfld P 17 2, dfld P 1 0, hidx, x.hit.tile].getD b 0)) F))

/-- O45. HITGET ends a unit, waits, starts programs and takes units; output words join events or streams; accepts, alerts and cut-offs follow. -/
def Obligations.EngineUnitsAndOutput : Prop :=
  ∀ (e : Fin 96) (d a b : Fin 32) (imm : BitVec 16) (s : State), let x := s.engine e
    let at' := fun (w : Word) => s.engRuns e = true ∧ (s.engFetch e).2 = some w
    let same := fun (t : State) => engineFrame s t e ∧ t.mem = s.mem
    let next := (x.pc + 1) % 4096
    let W : DWord := x.g b ++ x.g a
    let c := sget (0, 0) x.mode x.counts
    let went := fun (t : State) => (t.engine e).pc = next ∧ (t.engine e).used = x.used + 1 ∧ (t.engine e).regs = x.regs ∧
      (t.engine e).fl = x.fl
    let tick := unsigned 64 ((x.frame * 65536 : Nat) + (x.g a).toInt)
    let src := 4 + 8 * (e.val / 8)
    let lost := fun (t : State) => t.nat (Reg.eclXlost (e / 8)) = Nat.min (s.nat (Reg.eclXlost (e / 8)) + 1) 0xFFFFFFFF
    (at' (encA 0x30 d a b 0) → x.waiting = true →
      (x.queue = [] → completes (.hitget e d) s (fun t => t.engine e = x ∧ same t)) ∧
      (∀ (u : EUnit) (rest : List EUnit), x.queue = u :: rest → x.prog = some u.mode → pairOk d = true →
        (u.marker = false → 1 ≤ x.budget → completes (.hitget e d) s (fun t => let y := t.engine e
          y.queue = rest ∧ y.unit = some u ∧ y.hit = u ∧ y.frame = u.frame ∧ y.waiting = false ∧ y.used = 1 ∧ y.sent = false ∧
          y.pc = next ∧ y.pair d = u.word ∧ (∀ k, k ≠ d.val → k ≠ d.val + 1 → y.g k = x.g k) ∧
          y.fl = { x.fl with k := false, q := false } ∧
          sget (0, 0) u.mode y.counts = ((sget (0, 0) u.mode x.counts).1 + 1, (sget (0, 0) u.mode x.counts).2) ∧
          t.rd (Reg.eclHits (e / 8) (e % 8)) = s.rd (Reg.eclHits (e / 8) (e % 8)) + 1 ∧ same t)) ∧
        (u.marker = true → 2 ≤ x.budget → completes (.hitget e d) s (fun t => let y := t.engine e
          y.queue = rest ∧ y.unit = some u ∧ y.hit = x.hit ∧ y.frame = u.frame ∧ y.waiting = false ∧ y.used = 2 ∧
          y.pc = x.mark ∧ y.pair d = BitVec.ofNat 64 (u.frame % 2 ^ 48) ∧ y.counts = x.counts ∧ same t))) ∧
      (∀ (u : EUnit) (rest : List EUnit), x.queue = u :: rest → x.prog ≠ some u.mode → 2 ≤ u.mode → u.mode ≤ 5 → completes (.hitget e d) s (fun t =>
        let y := t.engine e
        let entry := Reg.engProg2Entry + (u.mode - 2) * 8
        y.prog = some u.mode ∧ y.queue = x.queue ∧ y.unit = none ∧ y.regs = [] ∧ y.fl = {} ∧ y.pc = s.fld entry 11 0 ∧
        y.loop = s.fld entry 27 16 ∧ y.waiting = false ∧ y.used = 0 ∧ same t))) ∧
    (∀ u : EUnit, at' (encA 0x30 d a b 0) → x.waiting = false → x.unit = some u → u.marker = false → x.queue = [] →
      completes (.hitget e d) s (fun t => t.engine e = { x with waiting := true } ∧ same t)) ∧
    (∀ (u : EUnit) (n : Nat) (v : Ev) (i : Instr), (i = .hitput e a b ∧ s.runsWord e (encA 0x30 d a b 1) 1) ∨
        (i = .emit e 0 a b ∧ s.runsWord e (encA 0x30 0 a b 2) 1) →
      x.unit = some u → u.marker = false → u.ev = some n → s.ev? n = some v → v.forced = false → v.tag < 512 →
      (∃ p, p < s.fld Reg.evbStore 25 16 * 8192 ∧ p ∉ s.storeUsed) → s.flag Reg.seccInject 31 = false → c.2 + 1 ≤ c.1 + 8 →
      let on := fun (t : State) => (t.engine e).sent = true ∧ sget (0, 0) x.mode (t.engine e).counts = (c.1, c.2 + 1) ∧ went t
      (s.sealedOff 17 = true → completes i s (fun t => t.evb = s.evb ∧ t.xfers = s.xfers ∧ lost t ∧ on t ∧ same t)) ∧
      (s.sealedOff (engIsland e) = false → s.sealedOff 17 = false → s.passes (engIsland e) 17 = false → completes i s (fun t =>
        t.xfers = s.xfers ++ [.out ⟨e, n, u.frame, 0, u.tile, 0, W⟩] ∧ t.evb = s.evb ∧ on t ∧ same t)) ∧
      (s.passes (engIsland e) 17 = true → s.framesBefore u.frame = true → completes i s (fun t => t.eng.out = outInsert ⟨e, n, u.frame, 0, u.tile, 0, W⟩ s.eng.out ∧
        t.evb = s.evb ∧ on t ∧ same t)) ∧
      (s.passes (engIsland e) 17 = true → s.passes 17 18 = true → s.framesBefore u.frame = false → completes i s (fun t => ∃ p, p < s.fld Reg.evbStore 25 16 * 8192 ∧ p ∉ s.storeUsed ∧
        t.ev? n = some { v with words := v.words ++ [⟨u.frame, 0, u.tile, 0, p⟩] } ∧
        (let adr := s.fld Reg.evbStore 9 0 * 65536 + 8 * p
         (∀ j, j < 8 → t.mem.byte (memKey 0 (adr + j)) = some (W.extractLsb' (8 * j) 8)) ∧
         (∀ k, k < memKey 0 adr ∨ memKey 0 (adr + 8) ≤ k →
           t.mem.byte k = s.mem.byte k ∧ sget 0 k t.mem.flips = sget 0 k s.mem.flips)) ∧
        on t ∧ engineFrame s t e))) ∧
    (let key := rleKey e (s.fld (Reg.eclCtl (e / 8) (e % 8)) 14 0)
     s.runsWord e (encA 0x30 1 a b 2) 1 → c.2 + 1 ≤ c.1 + 8 → (s.rle key).ended = false →
      completes (.emit e 1 a b) s (fun t => (t.rle key).input = (s.rle key).input ++ leBytes 8 W.toNat ∧ (t.engine e).sent = true ∧
        sget (0, 0) x.mode (t.engine e).counts = (c.1, c.2 + 1) ∧ went t ∧ same t)) ∧
    (s.runsWord e (encA 0x30 1 a b 2) 1 → c.1 + 8 < c.2 + 1 → completes (.emit e 1 a b) s (fun t =>
      t.nat (Reg.eclCapdrops (e / 8) (e % 8)) = Nat.min (s.nat (Reg.eclCapdrops (e / 8) (e % 8)) + 1) 0xFFFFFFFF ∧
      t.engine e = { x with pc := next, used := x.used + 1 } ∧ t.acq = s.acq ∧ t.evb = s.evb ∧ same t)) ∧
    (imm.toNat < 256 → s.runsWord e (encB 0x31 d a imm) 1 → completes (.acc e a imm) s (fun t =>
      t.engine e = { x with pc := next, used := x.used + 1 } ∧ same t ∧
      (s.sealedOff 3 = false → t.trig = { s.trig with fly := s.trig.fly ++ [(src, tick, imm.toNat)] }) ∧
      (s.sealedOff 3 = true → t.trig = s.trig ∧ lost t))) ∧
    (imm.toNat < 256 → s.runsWord e (encB 0x32 d a imm) 1 → completes (.alrt e a imm) s (fun t =>
      t.engine e = { x with pc := next, used := x.used + 1 } ∧ same t ∧
      (s.sealedOff 4 = false → t.trig = { s.trig with alerts := s.trig.alerts ++ [(src, tick, imm.toNat)] }) ∧
      (s.sealedOff 4 = true → t.trig = s.trig ∧ lost t))) ∧
    (∀ w : Word, at' w → x.waiting = false → x.fits (engCost x w) = false → ¬ (wfld w 31 26 = 0x30 ∧ wfld w 10 0 = 0) →
      (let cutOff := fun (t : State) => (t.engine e).pc = x.loop ∧ (t.engine e).cut = true ∧
         t.nat (Reg.eclOverruns (e / 8) (e % 8)) = Nat.min (s.nat (Reg.eclOverruns (e / 8) (e % 8)) + 1) 0xFFFFFFFF ∧
         t.flag (Reg.intStat (Pg.ecl (e / 8))) (e % 8) = true ∧ t.rd (Reg.eclExcPc (e / 8) (e % 8)) = word x.pc ∧ same t
       (x.unit = none → completes (.engineStartCutoff e) s cutOff) ∧
       (∀ u : EUnit, x.unit = some u → u.marker = false → x.sent = true ∨ x.cut = true → completes (.engineCutoff e) s cutOff)))

/-- O46. A complete event is written out, becomes a packet or is judged for its lanes; forced and dropped events are counted. -/
def Obligations.EventsCompleteAndAreAdmitted : Prop :=
  let only := fun (s t : State) => samePagesBut [Pg.evb, Pg.secc] s t ∧ t.time = s.time
  let outside := fun (s t : State) => let base := s.fld Reg.evbStore 9 0 * 65536
    ∀ k, k < memKey 0 base ∨ memKey 0 (base + s.fld Reg.evbStore 25 16 * 65536) ≤ k →
      t.mem.byte k = s.mem.byte k ∧ sget 0 k t.mem.flips = sget 0 k s.mem.flips
  let freed := fun (n : Nat) (t : State) => ∀ w ∈ t.evb.evs, w.num = n → w.tag = 512
  let up := fun (r : Nat) (s t : State) => t.nat r = Nat.min (s.nat r + 1) 0xFFFFFFFF
  ∀ (tag : Fin 512) (v : Ev) (s : State), s.evTag? tag = some v → v.prio < 4 → s.flag Reg.seccInject 31 = false →
    (s.memStill = true → v.complete = false → completes (.eventComplete tag) s (fun t => t = s) ∧
      completes (.eventForced tag) s (fun t => t = s)) ∧
    (s.memStill = false → v.complete = false → s.evPassed v = true → (∀ w ∈ s.evb.evs, w.num = v.num → w = v) →
        (∀ w ∈ s.evb.evs, w.complete = true → w.isQ = false) →
      (v.storeDrop = true → completes (.eventComplete tag) s (fun t => freed v.num t ∧ up Reg.evbStoreDrop s t ∧
        up (Reg.evbDrop v.prio) s t ∧ t.que = s.que ∧ only s t ∧ t.mem = s.mem)) ∧
      (∀ body heads : List Nat, v.storeDrop = false → (s.evPlace v.num (s.evWords v) 0).2 = some (body, heads) →
        (v.isQ = false → completes (.eventComplete tag) s (fun t =>
          (∃ w ∈ t.evb.evs, w.num = v.num ∧ w.tag = v.tag ∧ w.complete = true ∧ w.body = body ∧ w.heads = heads) ∧
          t.que = s.que ∧ only s t ∧ outside s t)) ∧
        (v.isQ = true → v.offered = false → s.evTurn v = true → completes (.eventComplete tag) s (fun t =>
          (∃ w ∈ t.evb.evs, w.num = v.num ∧ w.tag = v.tag ∧ w.complete = true ∧ w.offered = true) ∧
          (∃ p, t.que.packets = s.que.packets ++ [p] ∧ p.queue = v.dnum ∧ p.src = 0 ∧ p.waits = false ∧ p.ev = some v.num) ∧ only s t ∧
          outside s t)))) ∧
    (s.memStill = false → v.complete = false → completes (.eventForced tag) s (fun t => up Reg.evbForced s t ∧
      t.flag (Reg.intStat Pg.evb) 3 = true ∧ (∀ w ∈ t.evb.evs, w.num = v.num → w.forced = true ∧ (w.tag = 512 ∨ w.complete = true)) ∧
      (s.time.running = true → v.hi + 524288 ≤ t.now) ∧ samePagesBut [Pg.evb, Pg.secc] s t ∧ outside s t)) ∧
    (v.complete = true → v.isQ = false → s.evTurn v = true → v.dnum < 4 →
      let g := v.dnum
      let bytes := 8 * v.body.length
      let closed := s.flag Reg.evbStatus g = true ∨ s.fld Reg.ulnkGstat (4 * g + 3) (4 * g) = 0
      let full := s.fld Reg.evbLimit (8 * v.prio + 7) (8 * v.prio) * 16384 < s.nat (Reg.evbGqBytes g) + bytes
      let short := sget 0 g s.evb.allow < v.heads.length
      completes (.eventAdmit tag) s (fun t => freed v.num t ∧ samePagesBut [Pg.evb] s t ∧ t.mem = s.mem ∧ t.que = s.que ∧
        (closed ∨ (¬ short ∧ full) → up Reg.evbLaneDrop s t ∧ up (Reg.evbDrop v.prio) s t ∧ t.evb.lanes = s.evb.lanes) ∧
        (¬ closed ∧ short → up Reg.evbHdrDrop s t ∧ up (Reg.evbDrop v.prio) s t ∧ t.evb.lanes = s.evb.lanes) ∧
        (¬ closed ∧ ¬ short ∧ ¬ full → sget [] g t.evb.lanes = sget [] g s.evb.lanes ++ [⟨v.evseq, v.prio, v.body, v.heads⟩] ∧
          sget 0 g t.evb.allow = sget 0 g s.evb.allow - v.heads.length ∧ t.rd Reg.evbEvents = s.rd Reg.evbEvents + 1 ∧
          t.rd (Reg.evbGqBytes g) = s.rd (Reg.evbGqBytes g) + word bytes)))

/-- O47. A queue is enabled or refused, flushed, disabled; its writer places, drops or keeps a packet; credit and interrupts follow. -/
def Obligations.QueuesEnableFlushAndPlacePackets : Prop :=
  let epoch := fun (q : Fin 64) (s t : State) =>
    t.fld (Reg.qdevStat q) 31 28 = (s.fld (Reg.qdevStat q) 31 28 + 1) % 16 ∧ t.rd (Reg.qdevWptr q) = 0 ∧
    t.dq q = { s.dq q with used := 0, cplw := 0, pseq := 0, wptr2 := 0, used2 := 0, cons := none }
  let flushed := fun (q : Fin 64) (s t : State) => t.fld (Reg.qdevStat q) 31 28 = (s.fld (Reg.qdevStat q) 31 28 + 1) % 16 ∧
    t.rd (Reg.qdevWptr q) = 0 ∧ (t.dq q).used = 0 ∧ (t.dq q).cplw = 0 ∧ (t.dq q).pseq = 0 ∧ (t.dq q).cons = none ∧
    t.flag (Reg.intStat Pg.qdev) 0 = true
  let differ := fun (q : Fin 64) (s t : State) => s.qMismatch q = true →
    t.flag (Reg.qdevStat q) 23 = true ∧ t.nat Reg.queMismatches = Nat.min (s.nat Reg.queMismatches + 1) 0xFFFFFFFF
  let only := fun (s t : State) => samePagesBut [Pg.qdev, Pg.que, Pg.own] s t ∧ t.mem = s.mem ∧ t.que.packets = s.que.packets
  (∀ (d : Dom) (q : Fin 64) (v : Word) (s : State), let k := Reg.qdevCtl q
    (s.takes d k (setBit v 0 true) = true → s.qOn q = false →
      (s.qRefused q (setBit (setBit v 0 true) 31 false) = false → completes (.queueEnable d q v) s (fun t =>
        t.qOn q = true ∧ epoch q s t ∧ only s t)) ∧
      (s.qRefused q (setBit (setBit v 0 true) 31 false) = true → completes (.queueEnable d q v) s (fun t =>
        t.qOn q = false ∧ t.flag (Reg.sticky Pg.qdev) 0 = true ∧ t.que = s.que ∧ only s t))) ∧
    (s.takes d k (setBit v 0 false) = true → s.qOn q = true → completes (.queueDisable d q v) s (fun t => t.qOn q = false ∧ flushed q s t)) ∧
    (s.takes d k (setBit v 31 true) = true → v.getLsbD 0 = true → s.qOn q = true →
      completes (.queueFlush d q v) s (fun t => t.qOn q = true ∧ flushed q s t)) ∧
    (s.takes d k (setBit v 0 false) = true → s.qOn q = true → s.qHead q = none → completes (.queueDisable d q v) s (fun t =>
      t.qOn q = false ∧ epoch q s t ∧ t.flag (Reg.intStat Pg.qdev) 0 = true ∧ differ q s t ∧ only s t)) ∧
    (s.takes d k (setBit v 31 true) = true → v.getLsbD 0 = true → s.qOn q = true → s.qHead q = none →
      completes (.queueFlush d q v) s (fun t =>
        t.qOn q = true ∧ epoch q s t ∧ t.flag (Reg.intStat Pg.qdev) 0 = true ∧ differ q s t ∧ only s t))) ∧
  (∀ (q : Fin 64) (p : Packet) (s : State), s.qHead q = some p →
    let g := packetGranules p.payload.length
    let shut := (17 :: s.qIslands q).any (fun i => s.sealedOff i)
    let popped := fun (t : State) => t.que.packets = dropHead q s.que.packets
    let fits := g ≤ s.qGranules q ∧ p.payload.length ≤ 2 ^ 24 ∧ s.qMismatch q = false
    let dropped := fun (t : State) => popped t ∧ t.nat (Reg.qdevDrop q) = Nat.min (s.nat (Reg.qdevDrop q) + 1) 0xFFFFFFFF ∧
      sameRegsBut [Reg.qdevDrop q, Reg.sticky Pg.qdev] s t ∧ t.mem = s.mem
    let after := fun (P : State → Prop) (t : State) => ∃ u, P u ∧ t = u.evWritten p ∧ (p.ev = none → t = u) ∧
      ∀ n, p.ev = some n → ∀ w ∈ t.evb.evs, w.num = n → w.tag = 512
    (s.qOn q = false → completes (.queuePacket q) s (after dropped)) ∧
    (fits → s.qRoom q g = false → s.qOn q = true → s.portAnswers (s.qPort q) = true →
      (p.waits = false → completes (.queuePacket q) s (after dropped)) ∧ (p.waits = true → completes (.queuePacket q) s (fun t => t = s))) ∧
    (fits → s.qRoom q g = true → s.portAnswers (s.qPort q) = true → s.qStill q = true → completes (.queuePacket q) s (fun t => t = s)) ∧
    (fits → s.qRoom q g = true → s.portAnswers (s.qPort q) = true → s.qStill q = false → shut = true → completes (.queuePacket q) s
      (after (fun t => popped t ∧ t.mem = s.mem ∧ t.out = s.out ∧ sameRegsBut [Reg.queXlost] s t ∧
        (s.fab.inReset.getLsbD 17 = false → t.nat Reg.queXlost = Nat.min (s.nat Reg.queXlost + 1) 0xFFFFFFFF)))) ∧
    (fits → s.qRoom q g = true → s.portAnswers (s.qPort q) = true → s.qStill q = false → shut = false → s.qBulk q = false → s.flag Reg.seccInject 31 = false →
      let skip := s.qSkip q g
      let w := if skip = 0 then s.nat (Reg.qdevWptr q) else 0
      let adr := s.fld (Reg.qdevBase q) 20 0 * 4096 + w * 64
      let n := p.payload.length
      completes (.queuePacket q) s (after (fun t => popped t ∧
        (∀ i, i < 4 → t.mem.byte (memKey 0 (adr + i)) = some (BitVec.ofNat 8 (n / 256 ^ i))) ∧
        (∀ i, i < n → t.mem.byte (memKey 0 (adr + 8 + i)) = p.payload[i]?) ∧
        (∀ k, k < memKey 0 adr ∨ memKey 0 (adr + g * 64) ≤ k →
          t.mem.byte k = s.mem.byte k ∧ sget 0 k t.mem.flips = sget 0 k s.mem.flips) ∧
        t.rd (Reg.qdevWptr q) = word (if w + g = s.qGranules q then 0 else w + g) ∧
        t.rd (Reg.qdevPackets q) = s.rd (Reg.qdevPackets q) + 1 ∧
        (t.dq q).used = ((s.dq q).used + g + skip) % 2 ^ 32 ∧ (t.dq q).cplw = ((s.dq q).cplw + 1) % 2 ^ 32 ∧
        (t.dq q).pseq = ((s.dq q).pseq + 1) % 2 ^ 32 ∧
        (∃ bs, t.out = s.out ++ [.hostWrite (s.qPort q) (s.rd64 (Reg.qdevCplLo q) + (s.dq q).cplw % s.qEntries q * 16) bs] ∧
          bs.length = 16 ∧ bs.take 4 = leBytes 4 n) ∧
        samePagesBut [Pg.qdev, Pg.que, Pg.evb] s t)))) ∧
  (∀ (q : Fin 64) (ok : Bool) (grant done : Word) (ep : Byte) (s : State), s.qOn q = true →
    let x := s.dq q
    (s.fab.stopped.getLsbD (22 + (s.qPort q).val) = true → completes (.consBlockRead q ok grant done ep) s (fun t => t = s)) ∧
    (s.fab.stopped.getLsbD (22 + (s.qPort q).val) = false →
    (ok = true → s.portAnswers (s.qPort q) = true → ep.toNat = s.fld (Reg.qdevStat q) 31 28 →
      (grant.toNat + 2 ^ 32 - x.used % 2 ^ 32) % 2 ^ 32 ≤ s.qGranules q →
      (x.cplw + 2 ^ 32 - done.toNat % 2 ^ 32) % 2 ^ 32 < 2 ^ 31 → completes (.consBlockRead q ok grant done ep) s (fun t =>
        t.dq q = { x with cons := some (grant.toNat, done.toNat), readAt := some t.time.up } ∧
        (s.time.running = true → s.qReadDue q ≤ t.time.up) ∧ t.rd Reg.queConsReads = s.rd Reg.queConsReads + 1 ∧
        samePagesBut [Pg.qdev, Pg.que] s t ∧ t.mem = s.mem)) ∧
    (ok = false → completes (.consBlockRead q ok grant done ep) s (fun t =>
      t.dq q = { x with readAt := some t.time.up } ∧ (s.time.running = true → s.qReadDue q ≤ t.time.up) ∧
      t.flag (Reg.qdevStat q) 20 = true ∧ t.flag (Reg.intStat Pg.qdev) 1 = true ∧
      t.rd Reg.queConsReads = s.rd Reg.queConsReads + 1 ∧ samePagesBut [Pg.qdev, Pg.que] s t ∧ t.mem = s.mem)))) ∧
  (∀ (q : Fin 64) (u : Nat) (s : State), (s.dq q).noticeAt = some u → s.fld (Reg.qdevMod q) 31 16 ≠ 0 →
    s.fld (Reg.qdevMod q) 15 0 ≠ 0 → completes (.queueIrqTimer q) s (fun t =>
      t.dq q = { s.dq q with notices := 0, noticeAt := none } ∧ t.regs = s.regs ∧ t.mem = s.mem ∧
      (∀ (p : Fin 2) (vec : Nat), s.portAnswers p = true → s.msixEn p = true → s.routeOf p (0xC0 + q.val) = some vec →
        s.inService p vec = false → (p.val, q.val) ∈ t.fab.pulses)))

/-- O48. Uplink lanes train, lose lock and retire with the link's mode following; events and superframes go out on the link and its lanes. -/
def Obligations.UplinkTrainsAndSends : Prop :=
  (
  let prios := fun (s : State) => ∀ (g : Nat), ∀ v ∈ (s.lg g).tx, v.prio < 4
  let pages := [Pg.ulnk, Pg.evb, Pg.sys, Pg.own] ++ (List.range 18).map (fun n => Pg.utx n)
  let only := fun (s t : State) => samePagesBut pages s t ∧ t.mem = s.mem
  let trains := fun (n a : Nat) (s t : State) => t.ust n = 1 ∧ t.fld (Reg.utxState n) 5 4 = a ∧
    t.rd (Reg.utxTrains n) = s.rd (Reg.utxTrains n) + 1 ∧ (∀ m, m < 18 → m ≠ n → t.ust m = s.ust m) ∧ only s t
  let fails := fun (n : Nat) (s t : State) => let a := s.fld (Reg.utxState n) 5 4
    if a < 3 then trains n (a + 1) s t
    else t.ust n = 4 ∧ t.flag (Reg.intStat (Pg.utx n)) 2 = true ∧ (∀ m, m < 18 → m ≠ n → t.ust m = s.ust m) ∧ only s t
  (∀ (n : Fin 18) (s : State), prios s →
    (s.ust n = 1 → completes (.utxSerialiserLock n) s (fun t => t.ust n = 2 ∧ t.flag (Reg.utxState n) 9 = true ∧
      (∀ m, m < 18 → m ≠ n.val → t.ust m = s.ust m) ∧ only s t)) ∧
    (s.ust n = 1 → completes (.utxTrainTimeout n) s (fun t => t.flag (Reg.intStat (Pg.utx n)) 3 = true ∧ fails n s t ∧
      (s.time.running = true → (s.ul n).attAt + 2000000 ≤ t.time.up))) ∧
    (s.ust n = 2 → completes (.utxWaitTimeout n) s (fun t =>
      (if (s.ul n).dlm = true ∨ s.flag Reg.ulnkBlindPolicy 0 = false then fails n s t
       else t.ust n = 5 ∧ (∀ m, m < 18 → m ≠ n.val → t.ust m = s.ust m) ∧ only s t) ∧
      (s.time.running = true → (s.ul n).attAt + 200000000 ≤ t.time.up))) ∧
    (s.ust n = 4 → completes (.utxParkRetry n) s (fun t => trains n 3 s t ∧
      (s.time.running = true → (s.ul n).entAt + 2000000000 ≤ t.time.up))) ∧
    (∀ u : Nat, s.ust n = 5 → (s.ul n).dlmAt = some u → completes (.utxBlindTimeout n) s (fun t => trains n 0 s t ∧
      (s.time.running = true → u + 200000000 ≤ t.time.up))) ∧
    completes (.utxTxFault n) s (fun t => t.flag (Reg.intStat (Pg.utx n)) 3 = true ∧
      t.flag (Reg.sticky (Pg.utx n)) 16 = true ∧ t.flag (Reg.utxState n) 9 = false ∧
      (if s.ust n = 3 then trains n 0 s t else t.ust n = s.ust n ∧ only s t)) ∧
    (∀ (d : Dom) (v : Word), s.takes d (Reg.utxCmd n) v = true → v.getLsbD 0 = true → s.ust n ≠ 0 →
      completes (.utxCmdRetrain d n v) s (fun t => trains n 0 s t))) ∧
  (∀ (d : Dom) (v : Word) (s : State), prios s → s.takes d Reg.ulnkLaneEn v = true →
    completes (.laneEnWrite d v) s (fun t => only s t ∧ ∀ n, n < 18 →
      (v.getLsbD n = true → (t.ul n).pendOff = false ∧ t.ust n = (if s.ust n = 0 ∧ s.flag Reg.guardLanes n = true ∧
        s.flag Reg.guardFLanes n = true ∧ s.lane.released = true then 1 else s.ust n)) ∧
      (v.getLsbD n = false → s.flag Reg.ulnkLaneEn n = true → s.ust n ≠ 0 →
        (if n < 16 ∧ s.laneOn n = true then t.ust n = s.ust n ∧ (t.ul n).pendOff = true else t.ust n = 0)))) ∧
  (∀ (g : Fin 4) (f : Nat) (s : State), (s.lg g).change = some f → completes (.groupRestripe g) s (fun t =>
    t.gActive g = s.laneAvail g ∧ (t.lg g).change = none ∧ (t.lg g).paused = false ∧ (t.lg g).tx = (s.lg g).tx ∧
    (∀ i, i < 4 → (s.ul (4 * g + i)).pendOff = true → t.ust (4 * g + i) = 0) ∧
    (s.time.running = true → f * 65536 ≤ t.now) ∧ only s t)) ∧
  (∀ (d : Dom) (v : Word) (s : State), prios s → s.takes d Reg.ulnkCtl v = true → v.getLsbD 0 ≠ s.compat →
    (2 ≤ s.modeNow ∨ s.flag Reg.modePend 31 = true → completes (.compatWrite d v) s (fun t => t.compat = s.compat ∧
      t.flag (Reg.sticky Pg.ulnk) 0 = true ∧ t.lane = s.lane ∧
      sameRegsBut [Reg.sticky Pg.ulnk, Reg.ownStwOverride] s t ∧ t.mem = s.mem)) ∧
    (s.modeNow < 2 → s.flag Reg.modePend 31 = false → completes (.compatWrite d v) s (fun t => t.compat = v.getLsbD 0 ∧
      (∀ n, n < 18 → t.ust n = if s.ust n = 0 then 0 else 1) ∧ only s t))))
  ∧ (
  (∀ (g : Fin 4) (v : LaneEv) (r : List LaneEv) (s : State), sget [] g.val s.evb.lanes = v :: r →
    let still := s.memStill || s.fab.stopped.getLsbD 17 || s.fab.stopped.getLsbD 20
    let shut := s.sealedOff 17 || s.sealedOff 20
    ((s.lg g).paused = true ∨ s.gActive g = 0 ∨ still = true → completes (.laneEventSend g) s (fun t => t = s)) ∧
    ((s.lg g).paused = false → s.gActive g ≠ 0 → still = false → shut = true → completes (.laneEventSend g) s (fun t =>
      sget [] g.val t.evb.lanes = r ∧ t.lane = s.lane ∧
      t.rd (Reg.evbGqBytes g) = word (s.nat (Reg.evbGqBytes g) - 8 * v.body.length) ∧
      samePagesBut [Pg.evb, Pg.ulnk] s t ∧ t.mem = s.mem ∧ t.out = s.out)) ∧
    ((s.lg g).paused = false → s.gActive g ≠ 0 → still = false → shut = false → v.prio < 4 → completes (.laneEventSend g) s (fun t =>
      sget [] g.val t.evb.lanes = r ∧ (∃ w, (t.lg g).tx = (s.lg g).tx ++ [w] ∧ w.evseq = v.evseq ∧ w.prio = v.prio ∧
        w.bytes = 8 * v.body.length ∧ w.begun = false) ∧
      (∀ h : Fin 4, h ≠ g → t.lg h = s.lg h) ∧ samePagesBut [Pg.secc, Pg.evb] s t ∧ t.mem = s.mem ∧ t.out = s.out))) ∧
  (∀ s : State, let f := s.time.frame
    let k := if s.lane.sfFrame = f then s.lane.sfc else 0
    s.islandLive 20 = false ∨ (if s.compat then 8 else 117) ≤ k → completes .uplinkSuperframe s (fun t => t = s)) ∧
  (∀ s : State, let f := s.time.frame
    let k := if s.lane.sfFrame = f then s.lane.sfc else 0
    let place := f * 65536 + k * (if s.compat then 8192 else 561)
    s.islandLive 20 = true → k < (if s.compat then 8 else 117) → completes .uplinkSuperframe s (fun t =>
      t.lane.sfFrame = f ∧ t.lane.sfc = k + 1 ∧ (s.time.running = true → place ≤ t.now) ∧
      (∃ new, t.out = s.out ++ new) ∧
      (∀ (g i : Fin 4), (s.lg g).tx = [] → 2 ≤ s.ust (4 * g + i) →
        .laneUnit (4 * g + i) 0 2 (BitVec.ofNat 64 (packFields [(8, 0x33), (2, i), (2, g), (4, s.gActive g),
          (4, s.fld Reg.ulnkGstat (16 + 4 * g + 3) (16 + 4 * g)), (4, 0), (16, f), (16, 0xFFFF), (8, k)])) ∈ t.out) ∧
      (∀ (g i : Fin 4), (s.lg g).tx = [] → 2 ≤ s.ust (4 * g + i) →
        (s.compat = true → .laneIdle (4 * g + i) 1 511 ∈ t.out) ∧
        (s.compat = false → sget [] g.val s.lane.cc = [] → k < 116 →
          .laneIdle (4 * g + i) 1 1 ∈ t.out ∧ .laneIdle (4 * g + i) 2 83 ∈ t.out)) ∧
      (∀ g : Fin 4, (s.lg g).tx = [] → t.lg g = { s.lg g with told := (t.lg g).told } ∧
        (k + 1 = (if s.compat then 8 else 117) →
          (t.lg g).told = some (f + 1, s.fld Reg.ulnkGstat (16 + 4 * g + 3) (16 + 4 * g))) ∧ t.rd (Reg.evbGqBytes g) = s.rd (Reg.evbGqBytes g)) ∧
      sameRegsBut ((List.range 4).map (fun g => Reg.evbGqBytes g)) s t ∧ t.mem = s.mem)) ∧
  (∀ (st st' : Nat) (data : Bool) (w : DWord) (bs : List Bool), (lineBlock st data w).length = 66 ∧
    (lineBlock st data w).take 2 = [data, !data] ∧ (descramble st' (scramble st bs)).drop 58 = bs.drop 58))

/-- O49. The scrubber fills, checks and corrects; error buckets, injection and row retirement act as the protection rules say. -/
def Obligations.MemoryProtectionScrubsAndCounts : Prop :=
  (
  let cell := fun (s : State) (k : Nat) => decodeCell (s.mem.byte k) (sget 0 k s.mem.flips)
  let asWas := fun (s t : State) (k : Nat) => t.mem.byte k = s.mem.byte k ∧ sget 0 k t.mem.flips = sget 0 k s.mem.flips
  (∀ (d : Dom) (m : Fin 3) (v : Word) (s : State), let w := setFld v 1 0 m
    let c := if m = 0 then Instr.scrubCheck d v else if m = 1 then Instr.scrubScrub d v else Instr.scrubFill d v
    s.takes d Reg.scrubCtl w = true → w.getLsbD 31 = true →
    (s.scrubRefused w = false → completes c s (fun t => t.fld Reg.scrubStat 2 0 = 1 ∧ t.flag Reg.scrubCtl 31 = true ∧
      t.mem = { s.mem with scrub := some ⟨wfld v 12 8, m.val, wfld v 5 4, s.rd64 Reg.scrubStartLo, s.rd64 Reg.scrubEndLo,
        s.time.up⟩ } ∧ sameRegsBut [Reg.scrubCtl, Reg.scrubStat, Reg.ownStwOverride] s t)) ∧
    (s.scrubRefused w = true → completes c s (fun t => t.flag (Reg.sticky Pg.scrub) 0 = true ∧ t.mem = s.mem ∧
      sameRegsBut [Reg.scrubCtl, Reg.sticky Pg.scrub, Reg.ownStwOverride] s t))) ∧
  (∀ (ticks : Nat) (o : ScrubOp) (s : State), s.mem.scrub = some o → s.flag Reg.seccInject 31 = false →
    s.flag Reg.deccInject 31 = false → o.mem < 26 →
    let u := scrubUnit o.mem
    let inside := fun (k : Nat) => memKey o.mem o.lo ≤ k ∧ k < memKey o.mem o.hi
    let reported := fun (t : State) => t.mem.scrub = none ∧ t.fld Reg.scrubStat 2 0 = 2 ∧ t.flag Reg.scrubCtl 31 = false ∧
      t.flag (Reg.intStat Pg.scrub) 0 = true ∧ samePagesBut [Pg.scrub, Pg.secc, Pg.decc] s t ∧
      (s.time.running = true → o.start + ticks ≤ t.time.up) ∧
      (o.mem < 25 → o.mode < 2 → t.rd Reg.scrubRead = word ((o.hi - o.lo) / u)) ∧ (o.mode = 2 → t.rd Reg.scrubRead = 0)
    (o.mode = 2 → completes (.scrubDone ticks) s (fun t => reported t ∧
      (∀ k, inside k → t.mem.byte k = if o.pat = 1 then none
        else some (BitVec.ofNat 8 ((if o.pat = 0 then 0 else s.nat Reg.scrubPattern) / 2 ^ (8 * (k % 4))))) ∧
      (∀ k, ¬ inside k → asWas s t k))) ∧
    (o.mode = 0 → completes (.scrubDone ticks) s (fun t => reported t ∧ ∀ k, asWas s t k)) ∧
    (o.mode = 1 → o.mem < 25 → (o.hi - o.lo) % u = 0 → completes (.scrubDone ticks) s (fun t => reported t ∧
      (∀ k, inside k → (cell s k).corr = true → t.mem.byte k = some (cell s k).val ∧ sget 0 k t.mem.flips = 0) ∧
      (∀ k, inside k → (cell s k).ue = false → (cell t k).ue = false ∧ (cell t k).val = (cell s k).val) ∧
      (∀ k, ¬ inside k ∨ (cell s k).ue = true → asWas s t k)))))
  ∧ (
  (∀ (k : Fin 26) (s : State), let c := (bucketRegs k).1
    let st := (bucketRegs k).2.1
    s.fld c 15 0 ≠ 0 → completes (.bucketLeak k) s (fun t => t.fld st 15 0 = s.fld st 15 0 - 1 ∧
      sameRegsBut [st, Reg.intStat (bucketPage k)] s t ∧ sameMemory s t ∧ s.now ≤ t.now)) ∧
  (∀ (d : Dom) (v : Word) (s : State), v.getLsbD 31 = true →
    (s.takes d Reg.seccInject v = true → completes (.seccInjectArm d v) s (fun t =>
      t.flag Reg.seccInject 31 = true ∧ t.fld Reg.seccInject 12 0 = wfld v 12 0 ∧
      (wfld v 28 24 ≤ 24 → t.fld Reg.seccInject 28 24 = wfld v 28 24) ∧
      sameRegsBut [Reg.seccInject, Reg.sticky Pg.secc, Reg.ownStwOverride] s t ∧ t.mem = s.mem)) ∧
    (s.takes d Reg.deccInject v = true → completes (.deccInjectArm d v) s (fun t =>
      t.flag Reg.deccInject 31 = true ∧ t.fld Reg.deccInject 6 0 = wfld v 6 0 ∧
      sameRegsBut [Reg.deccInject, Reg.ownStwOverride] s t ∧ t.mem = s.mem))) ∧
  (∀ (d : Dom) (r : Fin 32) (v : Word) (s : State), let k := Reg.deccRemap r
    let good := wfld v 27 22 ≤ 34 ∧ (s.flag k 31 = true → (s.rd k ^^^ v) &&& 0x0FFFFFFF = 0)
    s.takes d k v = true →
    (good → completes (.remapWrite d r v) s (fun t => t.rd k &&& 0x8FFFFFFF = v &&& 0x8FFFFFFF ∧
      sameRegsBut [k, Reg.ownStwOverride] s t ∧ t.mem = s.mem)) ∧
    (¬ good → completes (.remapWrite d r v) s (fun t => t.flag (Reg.sticky Pg.decc) 0 = true ∧
      t.flag k 31 = v.getLsbD 31 ∧ (s.flag k 31 = true → t.fld k 27 0 = s.fld k 27 0) ∧
      (s.flag k 31 = false → t.fld k 27 22 = s.fld k 27 22 ∧ t.fld k 21 0 = wfld v 21 0) ∧
      sameRegsBut [k, Reg.sticky Pg.decc, Reg.ownStwOverride] s t ∧ t.mem = s.mem))) ∧
  (∀ (d : Dom) (v : Word) (s : State), s.takes d Reg.deccRetireCtl v = true → v.getLsbD 31 = true →
    let n := s.fld Reg.deccRetireCount 16 0
    let base := s.fld Reg.deccRetireBase 12 0 * 2 ^ 20
    (s.tailRunning = true → completes (.retireLoad d v) s (fun t => t.flag (Reg.sticky Pg.decc) 0 = true ∧ t.mem = s.mem)) ∧
    (∀ bs : List Byte, s.tailRunning = false → base + 4 * n ≤ 2 ^ 33 → (s.dramRead base (4 * n)).2 = (bs, false) →
      let l := (List.range n).map (fun i => leNat ((bs.drop (4 * i)).take 4))
      retireListOk l = true → completes (.retireLoad d v) s (fun t =>
        (∀ p, segGet p t.mem.retired = if p ∈ l then 1 else 0) ∧ t.mem = { s.mem with retired := t.mem.retired } ∧
        samePagesBut [Pg.decc, Pg.tail, Pg.own] s t))) ∧
  (∀ (d : Dom) (v : Word) (s : State), s.takes d Reg.deccRetireAdd v = true → v.getLsbD 31 = true →
    let next := s.tailFree (s.tailRegion.2 - s.tailRegion.1) s.acq.pos
    let marked := fun (t : State) => ∀ p, segGet p t.mem.retired = if p = wfld v 21 0 then 1 else segGet p s.mem.retired
    (s.tailRunning = false ∨ s.acq.pages = [] ∨ next ≠ some (wfld v 21 0) → completes (.retireAdd d v) s (fun t => marked t ∧
      t.mem = { s.mem with retired := t.mem.retired } ∧ t.acq = s.acq ∧
      sameRegsBut [Reg.deccRetired, Reg.tailPages, Reg.ownStwOverride] s t)) ∧
    (∀ (x : TailPage) (r : List TailPage), s.tailRunning = true → s.acq.pages = x :: r → next = some (wfld v 21 0) →
      (∀ y ∈ s.acq.slots, y.1 < 4) → completes (.retireAdd d v) s (fun t => marked t ∧ t.tailOpen x.tile = none ∧
        samePagesBut [Pg.tail, Pg.decc, Pg.lring, Pg.own] s t))))

/-- O50. Converters are enabled, triggered and deliver results; excitation changes are counted; blanking pauses; records go to the DMA ring. -/
def Obligations.SlowControlConvertsAndRecords : Prop :=
  let only := fun (s t : State) => samePagesBut [Pg.slow, Pg.own] s t ∧ t.mem = s.mem
  (∀ (d : Dom) (c : Fin 2) (v : Word) (s : State), let k := Reg.slowConv c
    let len := wfld v 28 24
    s.takes d k (setBit v 31 true) = true → s.flag k 31 = false → 1 ≤ len → len ≤ 16 →
    (s.convRefused c len = false → completes (.converterEnable d c v) s (fun t => t.flag k 31 = true ∧
      (t.conv c).busy = !v.getLsbD 30 ∧ (t.conv c).pos = 0 ∧
      (∀ i, i < 16 → (t.sch (16 * c + i)).count = 0 ∧ t.rd (Reg.slowIndex (16 * c + i)) = 0 ∧
        t.rd (Reg.slowGoodDiag (16 * c + i)) = 0xFFFFFFFF ∧ t.flag (Reg.slowStatus (16 * c + i)) 0 = decide (i < len)) ∧
      (∀ i, i < 16 → t.sch (16 * (1 - c.val) + i) = s.sch (16 * (1 - c.val) + i)) ∧ only s t)) ∧
    (s.convRefused c len = true → completes (.converterEnable d c v) s (fun t => t.flag k 31 = false ∧
      t.flag (Reg.sticky Pg.slow) 0 = true ∧ t.slow = s.slow ∧ only s t))) ∧
  (∀ s : State, s.crosses 0 27 = false → completes .converterTrigger s (fun t => t = s)) ∧
  (∀ (c : Fin 2) (a : TimeAct) (pre post : List TimeAct) (s : State), s.crosses 0 27 = true →
    s.time.acts = pre ++ a :: post → (∀ b ∈ pre, b.code ≠ 2) → a.code = 2 → a.arg % 4 = 2 ^ c.val →
    let k := Reg.slowConv c
    let on := s.flag k 31 = true ∧ s.flag k 30 = true
    let ends := s.passEnds c && (s.conv c).again.isNone
    let taken := fun (t : State) => t.time = { s.time with acts := pre ++ post } ∧ t.mem = s.mem
    (on → (s.conv c).busy = false → completes .converterTrigger s (fun t => taken t ∧ (t.conv c).busy = true ∧
      (t.conv c).pos = 0 ∧ sameRegsBut [Reg.slowStatusA] s t)) ∧
    (on → (s.conv c).busy = true → ends = true → completes .converterTrigger s (fun t => taken t ∧ (t.conv c).again.isSome = true ∧
      t.conv c = { s.conv c with again := (t.conv c).again } ∧ sameRegsBut [Reg.slowStatusA] s t)) ∧
    (on → (s.conv c).busy = true → ends = false → completes .converterTrigger s (fun t => taken t ∧ t.slow = s.slow ∧
      t.nat Reg.slowTrigMiss = Nat.min (s.nat Reg.slowTrigMiss + 1) 0xFFFFFFFF ∧
      sameRegsBut [Reg.slowTrigMiss, Reg.intStat Pg.slow] s t)) ∧
    (¬ on → completes .converterTrigger s (fun t => taken t ∧ t.slow = s.slow ∧ t.flag (Reg.timeCmpStat a.unit) 2 = true ∧
      sameRegsBut [Reg.timeCmpStat a.unit] s t))) ∧
  (∀ (c : Fin 2) (inp : ConvIn) (ovl : Bool) (s : State), let x := s.conv c
    let n := 16 * c.val + x.pos
    let vref : Int := if (s.boundTo n).isSome then (inp.ref : Int) else 1250000000
    let gain := if (s.posNeg n).1 ≤ 24 then s.fld (Reg.slowCfg n) 26 24 else 0
    x.busy = true → x.held = none → x.pos < 16 → completes (.conversionComplete c inp ovl) s (fun t =>
      (t.sch n).count = (s.sch n).count + 1 ∧ t.rd (Reg.slowIndex n) = word (s.sch n).count ∧
      (s.diagAt n ((s.sch n).count % 2 ^ 32) = false → ¬ (s.variant = .s ∧ (s.posNeg n).1 = 26) →
        t.flag (Reg.slowLast n) 7 = true ∧
        (∀ k : Int, vref ≠ 0 → inp.diff * ((2 ^ gain * 32768 : Nat) : Int) = k * vref →
          t.fld (Reg.slowLast n) 31 16 = unsigned 16 (satSigned 16 k)) ∧
        (∀ k : Int, 0 < vref → k * vref < inp.diff * ((2 ^ gain * 32768 : Nat) : Int) →
          inp.diff * ((2 ^ gain * 32768 : Nat) : Int) < (k + 1) * vref →
          t.fld (Reg.slowLast n) 31 16 = unsigned 16 (satSigned 16 k) ∨
          t.fld (Reg.slowLast n) 31 16 = unsigned 16 (satSigned 16 (k + 1)))) ∧
      (s.diagAt n ((s.sch n).count % 2 ^ 32) = true → t.rd (Reg.slowLast n) = s.rd (Reg.slowLast n)) ∧
      (s.time.running = true → x.due ≤ t.time.up) ∧ samePagesBut [Pg.slow] s t ∧ t.mem = s.mem)) ∧
  (∀ (d : Dom) (v : Word) (s : State), s.takes d Reg.excCtl v = true → completes (.excChange d v) s (fun t =>
    t.fld Reg.excCtl 7 0 = wfld v 7 0 ∧ t.fld Reg.excStatus 7 0 = wfld v 7 0 ∧
    t.rd Reg.excChanges = s.rd Reg.excChanges + word (popCount 8 (Nat.xor (s.fld Reg.excCtl 7 0) (wfld v 7 0))) ∧
    samePagesBut [Pg.exc, Pg.slow, Pg.own] s t ∧ t.mem = s.mem)) ∧
  (∀ (k : Fin 8) (inn : Bool) (s : State), completes (.excCurrentLimit k inn) s (fun t =>
    t.flag Reg.excStatus (8 + k.val) = inn ∧ (inn = true → t.flag (Reg.intStat Pg.exc) k = true) ∧
    sameRegsBut [Reg.excStatus, Reg.intStat Pg.exc, Reg.sticky Pg.exc] s t ∧ t = { s with regs := t.regs })) ∧
  (∀ s : State, s.slow.pauseAt = none → s.flag Reg.slowCtl 0 = true → completes .blankStart s (fun t =>
    t.slow.blankLow = true ∧ t.slow.pauseAt = some s.time.up ∧ t.flag Reg.slowStatusA 2 = true ∧
    t.fld Reg.slowBlanks 15 0 = Nat.min (s.fld Reg.slowBlanks 15 0 + 1) 65535 ∧
    (∀ c : Fin 2, (s.conv c).busy = true → (t.conv c).held = some s.time.up) ∧ only s t)) ∧
  (∀ (u : Nat) (s : State), s.slow.pauseAt = some u → completes .blankEnd s (fun t => t.slow.blankLow = false ∧
    t.slow.pauseAt = none ∧ t.flag Reg.slowStatusA 2 = false ∧ only s t)) ∧
  (∀ (ok : Bool) (ws : List DWord) (r : List (List DWord)) (s : State), s.slow.recs = ws :: r →
    (s.recLive = false → completes (.dmaRecordWrite ok) s (fun t => t = s)) ∧
    (s.recLive = true →
    let q := if s.slow.rseq = 4294967295 then 1 else s.slow.rseq + 1
    let a := s.rd64 Reg.slowDmaBaseLo + q % 2 ^ s.fld Reg.slowDmaCtl 4 0 * 32
    let bs := (ws.map (fun w => w.toNat) ++ [q]).flatMap (leBytes 8)
    let p : Fin 2 := if s.flag Reg.slowDmaCtl 16 then 1 else 0
    let sram := s.flag Reg.slowDmaCtl 30
    let next := fun (t : State) => t.slow = { s.slow with recs := r, rseq := q }
    (sram = true → a + 32 ≤ 0x3000000 → s.passes 27 18 = true → s.flag Reg.seccInject 31 = false → completes (.dmaRecordWrite ok) s (fun t => next t ∧
      (∀ i, i < bs.length → t.mem.byte (memKey 0 (a + i)) = bs[i]?) ∧
      (∀ k, k < memKey 0 a ∨ memKey 0 (a + bs.length) ≤ k →
        t.mem.byte k = s.mem.byte k ∧ sget 0 k t.mem.flips = sget 0 k s.mem.flips) ∧
      t.rd Reg.slowDmaHead = word q ∧ sameRegsBut [Reg.slowDmaHead] s t)) ∧
    (sram = false → ok = true → s.portAnswers p = true → completes (.dmaRecordWrite ok) s (fun t => next t ∧
      t.out = s.out ++ [.hostWrite p a bs] ∧ t.rd Reg.slowDmaHead = word q ∧ sameRegsBut [Reg.slowDmaHead] s t ∧
      t.mem = s.mem)) ∧
    (sram = false → ok = false ∨ s.portAnswers p = false → completes (.dmaRecordWrite ok) s (fun t => next t ∧ t.out = s.out ∧
      t.nat Reg.slowDmaDrop = Nat.min (s.nat Reg.slowDmaDrop + 1) 0xFFFFFFFF ∧ only s t))))

/-- O51. Servo loops enable, hold, resume and go off by their states; a cycle without measurements computes u, the output codes and x. -/
def Obligations.ServoLoopsRunTheirLaw : Prop :=
  let only := fun (s t : State) => samePagesBut [Pg.servo, Pg.own] s t ∧ t.mem = s.mem
  (∀ (d : Dom) (l : Fin 16) (v : Word) (s : State), let k := Reg.servoCtl l
    (s.takes d k (setBit v 31 true) = true → s.flag k 31 = false → s.lstate l = 0 →
      (s.loopRefused l (setBit v 31 true) = false → completes (.servoLoopEnable d l v) s (fun t => t.flag k 31 = true ∧
        t.lstate l = (if s.modeNow = 0 then 3 else if v.getLsbD 30 then 2 else 1) ∧ t.sl l = { start := (s.sl l).start, tried := (s.sl l).tried } ∧
        t.flag (Reg.servoCode (s.fld (Reg.servoOutsel l) 3 0)) 31 = true ∧
        t.fld (Reg.servoCode (s.fld (Reg.servoOutsel l) 3 0)) 27 24 = l ∧ only s t)) ∧
      (s.loopRefused l (setBit v 31 true) = true → completes (.servoLoopEnable d l v) s (fun t => t.flag k 31 = false ∧
        t.lstate l = 0 ∧ t.flag (Reg.sticky Pg.servo) 0 = true ∧ t.servo = s.servo ∧ only s t))) ∧
    (s.takes d k (setBit v 31 false) = true → s.flag k 31 = true → completes (.servoLoopDisable d l v) s (fun t =>
      t.flag k 31 = false ∧ t.lstate l = 0 ∧ t.fld (Reg.servoStatus l) 10 8 = 0 ∧ only s t)) ∧
    (s.takes d k v = true → s.flag k 31 = true → v.getLsbD 31 = true → s.lstate l = 1 ∨ s.lstate l = 2 →
      s.fld (Reg.servoStatus l) 10 8 = 0 → completes (.servoHold d l v) s (fun t => t.flag k 31 = true ∧
        t.flag k 30 = v.getLsbD 30 ∧ t.lstate l = (if v.getLsbD 30 then 2 else 1) ∧ only s t)) ∧
    (s.takes d (Reg.servoCmd l) v = true → v.getLsbD 0 = true → s.lstate l = 3 → completes (.servoResume d l v) s (fun t =>
      t.lstate l = (if s.flag (Reg.servoStatus l) 8 then 3 else if s.flag k 30 then 2 else 1) ∧
      t.fld (Reg.servoStatus l) 10 9 = 0 ∧ t.fld (Reg.servoStatus l) 31 24 = 0 ∧ t.fld (Reg.servoStatus l) 21 20 = 0 ∧
      t.rd (Reg.servoStaleRun l) = 0 ∧
      sameRegsBut [Reg.servoStatus l, Reg.servoStaleRun l, Reg.ownStwOverride] s t ∧ t.mem = s.mem))) ∧
  (∀ s : State, s.crosses 0 27 = false → completes .servoCycle s (fun t => t = s)) ∧
  (∀ (l : Fin 16) (a : TimeAct) (pre post : List TimeAct) (s : State), s.crosses 0 27 = true →
    s.time.acts = pre ++ a :: post → (∀ b ∈ pre, b.code ≠ 3) → a.code = 3 → a.arg = 2 ^ l.val →
    let nx := (s.dims l).1
    let nu := (s.dims l).2.2
    let out := fun (j : Nat) => s.fld (Reg.servoOutsel l) (8 * j + 3) (8 * j)
    let x := fun (j : Nat) => s.half (Reg.servoX l 0) j
    let r := fun (j : Nat) => s.half (Reg.servoR l) j
    let u := fun (n : Nat) => (stageElem (s.stageShift l 8) 0
      ((List.range nx).map (fun j => -(s.coef l 0xC0 6 n j * x j)) ++ (List.range nu).map (fun j => s.coef l 0xD8 2 n j * r j))).1
    (s.modeNow = 0 ∨ s.lstate l ≠ 1 → completes .servoCycle s (fun t =>
      t = { s with regs := t.regs, time := { s.time with acts := pre ++ post } } ∧ t.flag (Reg.timeCmpStat a.unit) 2 = true ∧
      sameRegsBut [Reg.timeCmpStat a.unit] s t)) ∧
    (s.modeNow ≠ 0 → s.lstate l = 1 → (s.sl l).start = none → (s.sl l).tried = none → 1 ≤ nx → nx ≤ 6 → (s.dims l).2.1 = 0 → nu = 1 ∨ nu = 2 →
      (nu = 2 → out 0 ≠ out 1) → completes .servoCycle s (fun t =>
        let code := fun (j : Nat) => t.fld (Reg.servoCode (out j)) 15 0
        let base := fun (j : Nat) => s.fld (Reg.servoObase (out j)) 15 0
        (∀ n, n < nu → t.half (Reg.servoU l) n = u n ∧
          code n = (clampCode (s.biasWindow (out n)) (Int.toNat (max 0 (min 65535 ((base n : Int) + u n))))).1) ∧
        (∀ n, n < nx → t.half (Reg.servoX l 0) n = (stageElem (s.stageShift l 24) 0
          ((List.range nx).map (fun j => s.coef l 0 6 n j * x j) ++
            (List.range nu).map (fun j => s.coef l 0x48 2 n j * ((code j : Int) - (base j : Int))))).1) ∧
        t.rd (Reg.servoCycles l) = s.rd (Reg.servoCycles l) + 1 ∧ t.lstate l = 1 ∧
        t.time = { s.time with acts := pre ++ post } ∧ samePagesBut [Pg.servo] s t ∧ t.mem = s.mem)))

/-- O52. The light controller ramps, turns on, changes class, regulates headroom and ratio, starts periods, and goes to FAULT and back. -/
def Obligations.CalibrationLightStartsRegulatesAndFaults : Prop :=
  let only := fun (s t : State) => samePagesBut [Pg.light, Pg.own] s t ∧ t.mem = s.mem
  let onlyT := fun (s t : State) => samePagesBut [Pg.light, Pg.own, Pg.time] s t ∧ t.mem = s.mem
  let faults := fun (bit : Nat) (s t : State) => t.lightState = 3 ∧ t.flag Reg.lightFault bit = true ∧ t.light.pulses = [] ∧
    t.fld Reg.lightCounts 31 16 = Nat.min (s.fld Reg.lightCounts 31 16 + 1) 65535 ∧ t.flag (Reg.intStat Pg.light) 0 = true ∧
    only s t
  let changes := fun (c : Nat) (s t : State) => t.lightState = 2 ∧ t.lightClass = c ∧
    t.fld Reg.lightCounts 15 0 = (s.fld Reg.lightCounts 15 0 + 1) % 65536 ∧ t.flag (Reg.intStat Pg.light) 3 = true ∧ only s t
  (∀ (d : Dom) (v : Word) (s : State), s.takes d Reg.lightCtl (setBit v 31 true) = true → s.lightState = 0 →
    (s.modeNow = 5 → s.lightAllow = true → completes (.lightEnable d v) s (fun t => t.lightState = 1 ∧
      t.fld Reg.lightTrim 15 0 = 0x4000 ∧ t.fld Reg.lightStatus 25 16 = Nat.min (s.fld Reg.lightBoost 25 16) s.vmaxUsed ∧
      t.light.rampAt = s.time.up ∧ onlyT s t)) ∧
    (s.modeNow ≠ 5 ∨ s.lightAllow = false → completes (.lightEnable d v) s (fun t => t.lightState = 0 ∧
      t.flag Reg.lightCtl 31 = true ∧ t.light = s.light ∧ onlyT s t))) ∧
  (∀ s : State, s.lightState = 1 →
    (s.time.up ≤ s.light.rampAt + 2000000 → completes .lightRampDone s (fun t => t.lightState = 2 ∧
      t.lightClass = s.fld Reg.lightCtl 1 0 ∧ t.light.headAt = s.time.up + 20000 ∧ only s t)) ∧
    (s.light.rampAt + 2000000 < s.time.up → completes .lightRampDone s (faults 17 s)) ∧
    completes .lightBoostUv s (fun t => faults 17 s t ∧ (s.time.running = true → s.light.rampAt + 2000000 ≤ t.time.up))) ∧
  (∀ (mv : Nat) (s : State), s.lightState = 1 ∨ s.lightState = 2 → s.boostCeil * 40 + 1000 < mv →
    completes (.lightFault none mv) s (faults 16 s)) ∧
  (∀ (k : Fin 8) (mv : Nat) (s : State), s.lightState = 2 → (∃ p ∈ sget [] k.val s.light.pulses, 200 ≤ p.2) →
    let short := s.fld Reg.lightHead 7 0 * 100
    (mv < 200 → completes (.lightFault (some k) mv) s (faults k s)) ∧
    (200 ≤ mv → short < mv → completes (.lightFault (some k) mv) s (faults (8 + k.val) s)) ∧
    (200 ≤ mv → mv ≤ short → completes (.lightFault (some k) mv) s (fun t => t.fld (Reg.lightSvsnk k) 15 0 = mv ∧
      sameRegsBut [Reg.lightSvsnk k] s t ∧ t = { s with regs := t.regs }))) ∧
  (∀ (d : Dom) (v : Word) (s : State), s.takes d Reg.lightCmd v = true → v.getLsbD 0 = true → s.lightState = 3 →
    completes (.lightClear d v) s (fun t => t.rd Reg.lightFault = 0 ∧
      t.lightState = (if s.flag Reg.lightCtl 31 = true ∧ s.modeNow = 5 ∧ s.lightAllow = true then 1 else 0) ∧ only s t)) ∧
  (∀ (d : Dom) (v : Word) (s : State), s.takes d Reg.lightCtl v = true → v.getLsbD 31 = true → s.lightState = 2 →
    wfld v 1 0 ≤ 2 → wfld v 1 0 ≠ s.lightClass → (∀ a ∈ s.time.acts, a.code ≠ 4) →
    completes (.lightClassChange (some (d, v))) s (fun t => changes (wfld v 1 0) s t)) ∧
  (∀ s : State, s.crosses 0 27 = false → completes (.lightClassChange none) s (fun t => t = s)) ∧
  (∀ (a : TimeAct) (pre post : List TimeAct) (s : State), s.crosses 0 27 = true →
    s.time.acts = pre ++ a :: post → (∀ b ∈ pre, b.code ≠ 4) → a.code = 4 →
    (s.lightState = 2 → a.arg % 65536 ≤ 2 → completes (.lightClassChange none) s (fun t => changes (a.arg % 65536) s t ∧
      t.time = { s.time with acts := pre ++ post })) ∧
    (s.lightState ≠ 2 ∨ 2 < a.arg % 65536 → completes (.lightClassChange none) s (fun t => t.flag (Reg.timeCmpStat a.unit) 2 = true ∧
      t = { s with regs := t.regs, time := { s.time with acts := pre ++ post } } ∧ sameRegsBut [Reg.timeCmpStat a.unit] s t))) ∧
  (∀ (volts : List (Fin 8 × Nat)) (v : Nat) (s : State), s.lightState = 2 →
    let e := s.elapse s.light.headAt
    let vs := volts.filter (fun p => s.flag (Reg.lightScfg p.1) 31 && e.stringOn e.time.up p.1)
    let set := s.fld Reg.lightStatus 25 16
    ((∀ p ∈ vs, v ≤ p.2) → (∃ p ∈ vs, p.2 = v) → completes (.headroomTick volts) s (fun t =>
      t.fld Reg.lightStatus 25 16 = (if v < 550 then Nat.min (set + 1) s.vmaxUsed else if 650 < v then set - 1 else set) ∧
      (s.time.running = true → s.light.headAt ≤ t.time.up) ∧ t.light.headAt = t.time.up + 20000 ∧ t.lightState = 2 ∧
      only s t)) ∧
    (vs = [] → completes (.headroomTick volts) s (fun t => t.fld Reg.lightStatus 25 16 = set ∧
      t.flag Reg.lightStatus 8 = false ∧ sameRegsBut [Reg.lightStatus] s t ∧ t.mem = s.mem))) ∧
  (∀ (pd0 pd1 : BitVec 16) (s : State), s.lightState = 2 → s.light.period = 256 →
    let m := Nat.min 65535 (pd1.toNat * 4096 / pd0.toNat)
    let z := (s.fld Reg.lightTrim 15 0 : Int) +
      (4 * ((s.fld Reg.lightRatio 31 16 : Int) - (m : Int))) / ((2 ^ s.fld Reg.lightRatio 11 8 : Nat) : Int)
    let shown := fun (t : State) => t.rd Reg.lightPdAvg = word (pd1.toNat * 65536 + pd0.toNat) ∧ only s t
    (s.flag Reg.lightCtl 8 = false → completes (.ratioCycleEnd pd0 pd1) s (fun t => shown t ∧
      t.rd Reg.lightTrim = s.rd Reg.lightTrim)) ∧
    (s.flag Reg.lightCtl 8 = true → pd0.toNat < s.fld Reg.lightRatio 7 0 → completes (.ratioCycleEnd pd0 pd1) s (fun t =>
      shown t ∧ t.flag Reg.lightStatus 10 = true ∧ t.rd Reg.lightTrim = s.rd Reg.lightTrim)) ∧
    (s.flag Reg.lightCtl 8 = true → s.fld Reg.lightRatio 7 0 ≤ pd0.toNat → pd0 ≠ 0 → completes (.ratioCycleEnd pd0 pd1) s
      (fun t => shown t ∧ t.fld Reg.lightTrim 31 16 = m ∧
        (t.fld Reg.lightTrim 15 0 : Int) = (if z < 0x2000 then 0x2000 else if 0x8000 < z then 0x8000 else z) ∧
        t.flag Reg.lightStatus 9 = decide (z < 0x2000 ∨ 0x8000 < z) ∧ t.flag Reg.lightStatus 10 = false))) ∧
  (∀ s : State, s.lightState = 2 → s.lightClass ≠ 0 → completes .lightPeriodStart s (fun t =>
    t.light.glow = s.rd Reg.lightGlow ∧ t.light.spr = s.rd Reg.lightSprinkle ∧ t.light.cur = s.rd Reg.lightSprCur ∧
    t.light.period = s.light.period % 256 + 1 ∧
    t.light.nextAt = t.time.up + 20 * (if s.lightClass = 1 then 5000 else 4096 * (s.fld Reg.lightSprinkle 23 16 + 1)) ∧
    (s.time.running = true → s.light.nextAt ≤ t.time.up) ∧ only s t))

/-- O53. Kicks and signatures keep a steward; a failed check resets its island; the eligible standby takes over, without one fatal cause 5 arises. -/
def Obligations.StewardsProveThemselvesOrFail : Prop :=
  let reach := fun (k : Nat) (s : State) => s.mayWrite .stw k = true ∧ s.fab.inReset.getLsbD (islandOf k) = false ∧
    s.fab.stopped.getLsbD (islandOf k) = false ∧ s.srst Pg.stw = false ∧ s.islandLive 26 = true ∧ s.inWarm = false
  let only := fun (s t : State) => sameRegsBut [Reg.ownStwOverride] s t ∧ t.mem = s.mem ∧ t.mode = s.mode ∧ t.fab = s.fab
  let fell := fun (b : Fin 2) (s t : State) => let o := 1 - b.val
    let again := s.stwState b ≠ 3 ∧ s.actState = 1 ∧ s.runBank b = s.fld Reg.updAct 16 16
    (¬ again → t.stwState b = 4) ∧ (again → t.stwState b = 1 ∧ t.runBank b = s.confirmed ∧ t.actState = 0 ∧
      (t.steward b).since = t.time.up + 2000000 ∧ t.fld Reg.updLast 3 0 = 6 ∧ t.fld Reg.updOpres 27 24 = 13) ∧
    t.fab.inReset.getLsbD (24 + b.val) = true ∧ (t.steward b).failed = true ∧
    t.flag (Reg.intStat Pg.stw) 2 = true ∧ t.flag (Reg.sticky Pg.stw) 17 = true ∧
    (s.stwState b ≠ 3 → s.stwState o ≠ 1 → t.stwState o = s.stwState o ∧
      samePagesBut [Pg.stw, Pg.sys, Pg.upd, Pg.own] s t ∧ t.mem = s.mem) ∧
    (s.stwState b = 3 → s.stwState o = 2 → s.flag Reg.stwRole 9 = true →
      t.stwState o = 3 ∧ t.fld Reg.stwRole 8 8 = o ∧ t.busyStw = true ∧ t.stw.trAt = t.time.up ∧ t.stw.swapping = false ∧
      t.rd Reg.stwTakeLo = word t.now ∧ t.fld Reg.stwBoot 0 0 = o ∧ t.flag Reg.stwRole 9 = false ∧
      t.nat Reg.stwTakeovers = Nat.min (s.nat Reg.stwTakeovers + 1) 0xFFFFFFFF ∧
      samePagesBut [Pg.stw, Pg.sys, Pg.upd, Pg.own] s t ∧ t.mem = s.mem) ∧
    (s.stwState b = 3 → (s.stwState o = 2 → s.flag Reg.stwRole 9 = false) → (s.stwState o = 1 → (s.steward o).passed = false) →
      s.stwState o ≠ 3 →
      t.activeStw = none ∧ t.mode.fatal.getLsbD 5 = true ∧ (s.mode.fatal.getLsbD 5 = false → t.modeNow = 0))
  let resync := fun (t : State) => ∃ m, t.stw.mir.toActive = [m] ∧ m.kind = 3 ∧ m.seq = 0 ∧ m.good = true
  let failed := fun (b : Fin 2) (check : Nat) (s t : State) => fell b s t ∧ t.fld (diagReg b) 3 0 = 2 ^ check
  (∀ (b : Fin 2) (v : Word) (s : State), s.stwRuns b = true →
    (reach Reg.stwKick s → completes (.stwKick b v) s (fun t => (t.steward b).kickAt = s.time.up ∧
      t.steward (1 - b.val) = s.steward (1 - b.val) ∧ only s t)) ∧
    (reach Reg.stwAluSig s →
      (v = Config.aluKa → completes (.aluSigWrite b v) s (fun t => (t.steward b).sigAt = s.time.up ∧
        t.steward (1 - b.val) = s.steward (1 - b.val) ∧ only s t)) ∧
      (v ≠ Config.aluKa → completes (.aluSigWrite b v) s (failed b 2 s))) ∧
    completes (.stwMemoryError b true) s (failed b 1 s) ∧
    (let n := (s.stwLeak b false 0).fld (diagReg b) 31 16
     let lim := s.fld Reg.stwMemlim 31 16
     (n ≠ lim ∨ lim = 65535 → completes (.stwMemoryError b false) s (fun t =>
       t.fld (diagReg b) 31 16 = Nat.min (n + 1) 65535 ∧ sameRegsBut [diagReg b] s t ∧ t.mem = s.mem)) ∧
     (n = lim → lim < 65535 → completes (.stwMemoryError b false) s (failed b 1 s)))) ∧
  (∀ (b : Fin 2) (s : State),
    let meets := fun (check : Nat) => ∃ c ∈ s.stwDeadlines b, c.1 = check ∧ ∃ d ∈ s.stwDeadlines (1 - b.val), d.2 / 5 = c.2 / 5
    let both := fun (t : State) => (s.actState ≠ 1 → t.stwState 0 = 4 ∧ t.stwState 1 = 4) ∧ t.activeStw = none ∧
      (s.stwState 0 = 3 ∨ s.stwState 1 = 3 → t.mode.fatal.getLsbD 5 = true)
    (meets 0 → completes (.stwWdtExpire b) s both) ∧ (meets 2 → completes (.aluSigTimeout b) s both) ∧
    (¬ meets 0 → s.stwState b = 2 ∨ (s.stwState b = 3 ∧ s.busyStw = false) → completes (.stwWdtExpire b) s (fun t => failed b 0 s t ∧
      (s.time.running = true → (s.steward b).kickAt + s.fld Reg.stwCfg 15 0 * 2000 ≤ t.time.up))) ∧
    (s.stwState b = 3 → s.busyStw = true → completes (.stwWdtExpire b) s (fun t => t = s)) ∧
    (¬ meets 2 → s.stwState b = 2 ∨ s.stwState b = 3 → completes (.aluSigTimeout b) s (fun t => failed b 2 s t ∧
      (s.time.running = true → (s.steward b).sigAt + (s.fld Reg.stwStperiod 15 0 + 1) * 2000000 ≤ t.time.up))) ∧
    (s.stwState b = 1 → (s.steward b).passed = false → ∀ checks : Bool, completes (.stwStartTimeout ⟨b, checks⟩) s (fun t =>
      fell b s t ∧ (s.time.running = true → (s.steward b).since + (if checks then 0 else 200000000) ≤ t.time.up)))) ∧
  (∀ (b : Fin 2) (s : State), s.stwState b = 1 → let o := 1 - b.val
    (s.stwState o = 3 → completes (.stwSelfCheckPass b) s (fun t => t.stwState b = 2 ∧ t.stwState o = 3 ∧
      t.fab.inReset.getLsbD (24 + b.val) = false ∧ resync t ∧ t.stw.mir.clean = true ∧ sameRegsBut [Reg.stwRole, Reg.intStat Pg.stw] s t ∧ t.mem = s.mem)) ∧
    (s.stwState o ≠ 3 → s.stwState o ≠ 1 ∨ s.fld Reg.stwBoot 0 0 = b.val →
      completes (.stwSelfCheckPass b) s (fun t => t.stwState b = 3 ∧ t.fld Reg.stwRole 8 8 = b.val ∧
        t.fld Reg.sysStatus 4 4 = b.val ∧ t.fab.inReset.getLsbD (24 + b.val) = false ∧ t.mode.fatal.getLsbD 5 = false ∧
        (t.steward b).kickAt = t.time.up ∧ (t.steward b).sigAt = t.time.up ∧
        samePagesBut [Pg.stw, Pg.sys, Pg.mode, Pg.upd, Pg.cfg] s t ∧ t.mem = s.mem)) ∧
    (s.stwState o = 1 → s.fld Reg.stwBoot 0 0 ≠ b.val → (s.steward o).passed = false →
      completes (.stwSelfCheckPass b) s (fun t => t.stwState b = 1 ∧ t.stwState o = 1 ∧ (t.steward b).passed = true ∧
        t.regs = s.regs ∧ t.mem = s.mem)))

/-- O54. A takeover completes with its time, a FAILED steward is released, SWAP and its doorbell exchange the roles or are counted as refused. -/
def Obligations.RolesMoveBySwapAndRejoin : Prop :=
  let sat := fun (n : Nat) => Nat.min (n + 1) 0xFFFFFFFF
  let started := fun (b : Nat) (s t : State) => t.stwState b = 1 ∧ (t.steward b).passed = false ∧
    (t.steward b).rejoins = t.time.up :: (s.steward b).rejoins ∧ (t.steward b).since = t.time.up ∧
    t.fld Reg.updBanks (4 + b) (4 + b) = s.bootBank ∧ t.fab.inReset.getLsbD (24 + b) = false
  let rejoined := fun (s t : State) => (∀ b : Fin 2, (s.stwState b = 4 → started b s t) ∧
      (s.stwState b ≠ 4 → t.stwState b = s.stwState b ∧ t.steward b = s.steward b)) ∧ t.time = s.time ∧
    sameRegsBut [Reg.stwRole, Reg.stwRejoins, Reg.updBanks, Reg.ownStwOverride] s t ∧ t.mem = s.mem
  let swapped := fun (a : Nat) (s t : State) => t.stwState (1 - a) = 3 ∧ t.stwState a = 2 ∧ t.fld Reg.stwRole 8 8 = 1 - a ∧
    t.busyStw = true ∧ t.stw.swapping = true ∧ t.stw.trAt = s.time.up ∧ t.rd Reg.stwTakeLo = word s.now ∧
    t.fld Reg.stwBoot 0 0 = 1 - a ∧ t.flag Reg.stwRole 9 = true ∧ (∃ m, t.stw.mir.toActive = [m] ∧ m.kind = 3 ∧ m.seq = 0 ∧ m.good = true) ∧
    sameRegsBut [Reg.stwRole, Reg.sysStatus, Reg.stwTakeLo, Reg.stwTakeHi, Reg.stwBoot, Reg.intStat Pg.stw,
      Reg.ownStwOverride] s t
  let refused := fun (s t : State) => t.nat Reg.stwSwapRefused = sat (s.nat Reg.stwSwapRefused) ∧
    t.flag (Reg.intStat Pg.stw) 5 = true ∧ t.stw = s.stw ∧
    sameRegsBut [Reg.stwSwapRefused, Reg.intStat Pg.stw, Reg.ownStwOverride] s t
  let can := fun (a : Nat) (s : State) => s.flag Reg.stwRole 9 = true ∧ s.busyStw = false ∧ s.stwState (1 - a) = 2
  (∀ (ticks : Nat) (s : State),
    (s.busyStw = true → completes (.takeoverComplete ticks) s (fun t => t.busyStw = false ∧ t.stw.swapping = false ∧
      t.fld Reg.stwTakeUs 15 0 = (ticks + 1999) / 2000 % 65536 ∧ (∀ a, s.activeStw = some a → (t.steward a).kickAt = t.time.up) ∧
      t.nat Reg.stwSwaps = (if s.stw.swapping then sat (s.nat Reg.stwSwaps) else s.nat Reg.stwSwaps) ∧
      (s.stw.swapping = true → t.flag (Reg.intStat Pg.stw) 1 = true) ∧
      (s.time.running = true → s.stw.trAt + ticks ≤ t.time.up) ∧
      sameRegsBut [Reg.stwRole, Reg.stwTakeUs, Reg.stwSwaps, Reg.intStat Pg.stw] s t ∧ t.mem = s.mem)) ∧
    (s.busyStw = false → completes (.takeoverComplete ticks) s (fun t => t = s))) ∧
  (∀ (b : Fin 2) (s : State), s.stwState b = 4 →
    let up := if s.time.running then Nat.max s.time.up ((s.steward b).since + 2000000) else s.time.up
    let past := (s.steward b).rejoins.filter (fun u => decide (up < u + 172800000000000))
    (past.length < s.fld Reg.stwCfg 19 16 → completes (.stwRejoin b) s (fun t => started b s t ∧ t.time.up = up ∧
      t.nat Reg.stwRejoins = sat (s.nat Reg.stwRejoins) ∧
      sameRegsBut [Reg.stwRole, Reg.stwRejoins, Reg.updBanks] s t ∧ t.mem = s.mem)) ∧
    (s.fld Reg.stwCfg 19 16 ≤ past.length → completes (.stwRejoin b) s (fun t => t = s))) ∧
  (∀ (d : Dom) (v : Word) (s : State),
    (s.takes d Reg.stwCmd (setBit v 1 true) = true → v.getLsbD 0 = false → completes (.stwCmdRejoin d v) s (rejoined s)) ∧
    (s.takes d Reg.stwCmd (setBit v 1 true) = true → v.getLsbD 0 = true →
      completes (.stwCmdRejoin d v) s (fun t => ∃ u, rejoined s u ∧ t = u.swapRequest)) ∧
    (v.getLsbD 1 = true → exec (.swap d v) s = exec (.stwCmdRejoin d (setBit v 0 true)) s) ∧
    (s.takes d Reg.stwCmd (setBit v 0 true) = true → v.getLsbD 1 = false → ∀ a, s.activeStw = some a →
      (can a s → completes (.swap d v) s (fun t => swapped a s t ∧ t.mem = s.mem)) ∧
      (¬ can a s → completes (.swap d v) s (fun t => refused s t ∧ t.mem = s.mem)))) ∧
  (∀ (p : Fin 2) (s : State), let a := s.fld Reg.stwSwapDb 25 0
    let stored := fun (t : State) => (∀ j, j < 4 → t.mem.byte (memKey 0 (a + j)) = (leBytes 4 0x53574150)[j]?) ∧
      (∀ k, k < memKey 0 a ∨ memKey 0 (a + 4) ≤ k → t.mem.byte k = s.mem.byte k ∧ sget 0 k t.mem.flips = sget 0 k s.mem.flips)
    (s.portAnswers p = false → completes (.swapDoorbell p) s (fun t => t = s)) ∧
    (s.portAnswers p = true → s.inWin2 p a 4 = false → completes (.swapDoorbell p) s (fun t =>
      t.nat (Reg.pcieWinDeny p) = sat (s.nat (Reg.pcieWinDeny p)) ∧ sameRegsBut [Reg.pcieWinDeny p] s t ∧ t.mem = s.mem)) ∧
    (s.portAnswers p = true → s.inWin2 p a 4 = true → s.doorbellsAt p a ≠ [] →
      let armed := s.flag Reg.stwSwapDb 31 = true ∧ s.flag Reg.stwCfg (24 + p.val) = true
      completes (.swapDoorbell p) s (fun t => t.mem = s.mem ∧
        ∃ u : State, samePagesBut [Pg.qcmd] s u ∧ u.stw = s.stw ∧ (armed → t = u.swapRequest) ∧ (¬ armed → t = u))) ∧
    (s.portAnswers p = true → s.inWin2 p a 4 = true → s.doorbellsAt p a = [] → a < 0x2FFFFFD → s.passes (22 + p) 18 = true → s.flag Reg.seccInject 31 = false →
      let armed := s.flag Reg.stwSwapDb 31 = true ∧ s.flag Reg.stwCfg (24 + p.val) = true
      (¬ armed → completes (.swapDoorbell p) s (fun t => stored t ∧ t.regs = s.regs)) ∧
      (armed → ∀ n, s.activeStw = some n → can n s → completes (.swapDoorbell p) s (fun t => stored t ∧ swapped n s t)) ∧
      (armed → (∀ n, s.activeStw = some n → ¬ can n s) → completes (.swapDoorbell p) s (fun t => stored t ∧ refused s t))))

/-- O55. Mirror messages copy items, gaps ask for a RESYNC, an END restores STANDBY_READY, and stewards send health and telemetry frames. -/
def Obligations.MirrorAndStewardFrames : Prop :=
  let fallen := fun (t : State) => t.flag Reg.stwRole 9 = false ∧ t.flag Reg.sysStatus 5 = false
  let regs4 := [Reg.stwMirSent, Reg.stwMirCnt, Reg.stwRole, Reg.sysStatus, Reg.intStat Pg.stw]
  let sent1 := fun (s t : State) => t.rd Reg.stwMirSent = s.rd Reg.stwMirSent + 1 ∧ t.stw.mir.sent = s.stw.mir.sent + 1
  let copied := fun (base : Nat) (data : List Byte) (s t : State) =>
    (∀ j, j < (data.take 44).length → sget 0 (base + j) t.stw.mir.copy = data.getD j 0) ∧
    (∀ k, k < base ∨ base + (data.take 44).length ≤ k → sget 0 k t.stw.mir.copy = sget 0 k s.stw.mir.copy)
  let alone := fun (s : State) => s.stw.mir.toStandby = [] ∧ s.stw.mir.waitStandby = [] ∧ s.stw.mir.waitActive = []
  let open' := fun (s : State) => s.crosses 24 25 = true ∧ s.stw.mir.toActive.length ≤ 62
  let back := fun (ks : List (Nat × Nat)) (s t : State) => ∃ ms, t.stw.mir.toActive = s.stw.mir.toActive ++ ms ∧
    ms.map (fun m => (m.kind, m.seq)) = ks ∧ ∀ m ∈ ms, m.good = true
  let head := fun (kind : Nat) (b : Fin 2) (seq : Nat) (s : State) =>
    leBytes 1 kind ++ leBytes 1 ((if s.activeStw = some b.val then 2 else 0) + b.val) ++ [0, 0] ++ leBytes 4 seq ++ leBytes 8 s.now
  let packet := fun (q : Nat) (bs : List Byte) => ({ queue := q, src := 4, payload := bs } : Packet)
  let sent := fun (bs : List Byte) (s t : State) =>
    (s.flag Reg.stwHcfg 24 = true → Output.ccFrame 1 bs ∈ t.out) ∧
    t.que.packets = s.que.packets ++ (if s.flag Reg.stwHcfg 25 then [packet (s.fld Reg.stwHq 5 0) bs] else []) ++
      (if s.flag Reg.stwHcfg 26 then [packet (s.fld Reg.stwHq 13 8) bs] else [])
  (∀ (item : Fin 5) (mfmt : BitVec 16) (seq offset : Word) (data : List Byte) (crc : Word) (s : State),
    let go := Instr.mirrorItem item mfmt seq offset data crc
    let m := s.stw.mir
    let x : MirMsg := ⟨1, item, mfmt.toNat, seq.toNat, offset.toNat, data.take 44, crc, s.time.up, false⟩
    let resync := m.back % 2 ^ 32
    (s.activeStw = none → completes go s (fun t => t = s)) ∧
    (s.activeStw.isSome = true → s.standby? = none → completes go s (fun t => sent1 s t ∧
      t.stw.mir = { m with sent := m.sent + 1 } ∧ samePagesBut [Pg.stw, Pg.sys] s t ∧ t.mem = s.mem)) ∧
    (∀ b, s.standby? = some b → alone s → s.crosses 24 25 = false → completes go s (fun t => sent1 s t ∧
      t.stw.mir = { m with sent := m.sent + 1, toStandby := [x] } ∧ sameRegsBut [Reg.stwMirSent] s t ∧ t.mem = s.mem)) ∧
    (∀ b, s.standby? = some b → s.crosses 24 25 = false → m.waitActive = [] → 64 ≤ m.toStandby.length →
      (∀ y ∈ m.toStandby ++ m.waitStandby, s.itemLate y = false) → completes go s (fun t =>
        t.stw.mir = { m with waitStandby := m.waitStandby ++ [x] } ∧ sameRegsBut [] s t ∧ t.mem = s.mem)) ∧
    (∀ b, s.standby? = some b → alone s → open' s → x.good = true → s.mirrorAccept b ≤ mfmt.toNat →
      let counted := fun (t : State) => copied (item.val * 2 ^ 32 + offset.toNat) data s t ∧
        t.stw.mir.expect = some ((seq.toNat + 1) % 2 ^ 32) ∧ sent1 s t ∧ alone t ∧ sameRegsBut regs4 s t ∧ t.mem = s.mem
      (m.expect = none ∨ m.expect = some seq.toNat → completes go s (fun t => counted t ∧
        back [(2, seq.toNat)] s t ∧ t.flag Reg.stwRole 9 = s.flag Reg.stwRole 9)) ∧
      (∀ e, m.expect = some e → e ≠ seq.toNat → completes go s (fun t => counted t ∧ fallen t ∧
        back [(3, resync), (2, seq.toNat)] s t ∧ t.stw.mir.clean = true))) ∧
    (∀ b, s.standby? = some b → alone s → open' s → (x.good = false ∨ mfmt.toNat < s.mirrorAccept b) → completes go s (fun t =>
      t.stw.mir.copy = m.copy ∧ back [(3, resync)] s t ∧ fallen t ∧ sent1 s t ∧ alone t ∧
      t.fld Reg.stwMirCnt 31 16 = Nat.min (s.fld Reg.stwMirCnt 31 16 + 1) 65535 ∧ sameRegsBut regs4 s t ∧ t.mem = s.mem))) ∧
  (∀ (x : MirMsg) (r : List MirMsg) (s : State), s.stw.mir.toActive = x :: r →
    let taken := fun (ends : Nat) (t : State) => t.stw = { s.stw with mir := { s.stw.mir with toActive := r, ends := ends } } ∧
      sameRegsBut [] s t ∧ t.mem = s.mem
    (x.kind = 2 → s.crosses 24 25 = true → alone s → completes .mirrorAck s (taken s.stw.mir.ends)) ∧
    (x.kind = 3 → s.crosses 24 25 = true → alone s → completes .mirrorResync s (taken (s.stw.mir.ends + 1))) ∧
    (x.kind ≠ 2 ∨ s.crosses 24 25 = false → completes .mirrorAck s (fun t => t = s)) ∧
    (x.kind ≠ 3 ∨ s.crosses 24 25 = false → completes .mirrorResync s (fun t => t = s))) ∧
  (∀ (seq crc : Word) (s : State), let m := s.stw.mir
    (s.activeStw = none → completes (.mirrorEnd seq crc) s (fun t => t = s)) ∧
    (∀ b, s.standby? = some b → alone s → open' s →
      let x : MirMsg := { kind := 4, mfmt := s.fwField (1 - b) 26, seq := seq.toNat, crc := crc, sentAt := s.time.up }
      (x.good = true → m.expect = none ∨ m.expect = some seq.toNat →
        (m.clean = true → completes (.mirrorEnd seq crc) s (fun t => t.flag Reg.stwRole 9 = true ∧ t.flag Reg.sysStatus 5 = true ∧
          t.stw.mir.ends = m.ends - 1 ∧ t.stw.mir.toActive = m.toActive ∧ sent1 s t ∧
          (s.flag Reg.stwRole 9 = false → s.actState = 1 →
            s.time.up ≤ s.upd.actAt + 400000000 → t.actState = 2 ∧ t.flag (Reg.intStat Pg.upd) 1 = true) ∧
          samePagesBut [Pg.stw, Pg.sys, Pg.upd] s t ∧ t.mem = s.mem)) ∧
        (m.clean = false → completes (.mirrorEnd seq crc) s (fun t => t.flag Reg.stwRole 9 = s.flag Reg.stwRole 9 ∧
          t.stw.mir.ends = m.ends - 1 ∧ sent1 s t ∧ sameRegsBut [Reg.stwMirSent] s t ∧ t.mem = s.mem))) ∧
      (x.good = false ∨ (m.expect ≠ none ∧ m.expect ≠ some seq.toNat) → completes (.mirrorEnd seq crc) s (fun t =>
        back [(3, m.back % 2 ^ 32)] s t ∧ t.stw.mir.clean = true ∧ fallen t ∧ t.stw.mir.ends = m.ends - 1 ∧ sent1 s t ∧
        sameRegsBut regs4 s t ∧ t.mem = s.mem)))) ∧
  (∀ s : State, let due := (s.stw.mir.toStandby ++ s.stw.mir.waitStandby).find? (fun m => decide (m.kind = 1) && !m.late)
    (due = none → completes .mirrorStall s (fun t => t = s)) ∧
    (∀ x, due = some x → s.time.running = true → completes .mirrorStall s (fun t => fallen t ∧ x.sentAt + 200001 ≤ t.time.up ∧
      (∃ n, n ≤ s.stw.mir.waitStandby.length ∧ (x ∉ s.stw.mir.toStandby → 0 < n) ∧
        t.fld Reg.stwMirCnt 15 0 = Nat.min (s.fld Reg.stwMirCnt 15 0 + n) 65535) ∧ sameRegsBut regs4 s t ∧ t.mem = s.mem))) ∧
  (∀ (b : Fin 2) (seq : Word) (s : State), s.stwRuns b = true → let was := (s.steward b).health
    let h := s.fld Reg.stwHcfg 15 0
    let n := s.time.frame / h % 2 ^ 32
    let follows := fun (k : Nat) => was = none ∨ (∃ m, was = some m ∧ k = (m + 1) % 2 ^ 32)
    let goes := fun (k : Nat) (t : State) => (t.steward b).health = some k ∧ t.stwState b = s.stwState b ∧ t.regs = s.regs ∧
      t.mem = s.mem ∧ ∃ bs, bs.length = 40 ∧ bs.take 16 = head 1 b k s ∧ sent bs s t
    let fails := fun (t : State) => t.stwState b = 4 ∧ t.fld (diagReg b) 3 0 = 8 ∧ t.fab.inReset.getLsbD (24 + b.val) = true
    (follows seq.toNat → completes (.healthFrame b (some seq)) s (goes seq.toNat)) ∧
    (¬ follows seq.toNat → completes (.healthFrame b (some seq)) s fails) ∧
    (h ≠ 0 → s.time.frame % h = 0 → was ≠ some n →
      (follows n → completes (.healthFrame b none) s (goes n)) ∧ (¬ follows n → completes (.healthFrame b none) s fails)) ∧
    (h = 0 ∨ s.time.frame % h ≠ 0 ∨ was = some n → completes (.healthFrame b none) s (fun t => t = s)) ∧
    (let per := s.fld Reg.stwHcfg 15 0 * s.fld Reg.stwHcfg 23 16
     let n := s.time.frame / per
     let hd := head 2 b (n % 2 ^ 32) s
     (per = 0 ∨ s.time.frame % per ≠ 0 ∨ (s.steward b).telem = some n → completes (.telemetryFrame b) s (fun t => t = s)) ∧
     (per ≠ 0 → s.time.frame % per = 0 → (s.steward b).telem ≠ some n → completes (.telemetryFrame b) s (fun t => (t.steward b).telem = some n ∧
      ((∀ i, i < 256 → s.flag (Reg.stwTelList i) 31 = false) → sent hd s t ∧ t.regs = s.regs ∧ t.mem = s.mem) ∧
      (∀ (u : State) (w : Word), let page := s.fld (Reg.stwTelList 0) 27 16
        let off := s.fld (Reg.stwTelList 0) 11 0 / 4 * 4
        s.flag (Reg.stwTelList 0) 31 = true → s.busRead (.steward b) (page * 4096 + off) = (u, some w) →
        (∀ i, 0 < i → i < 256 → u.flag (Reg.stwTelList i) 31 = false) →
        sent (hd ++ leBytes 2 page ++ leBytes 2 off ++ leBytes 4 w.toNat) u t ∧ t.regs = u.regs)))))

/-- O56. Identity reads show each tile's outcome and record, thermal samples warn and trip, and guardrail fuses burn the programmed limits. -/
def Obligations.IdentitiesGuardrailsAndFuses : Prop :=
  (∀ (d : Dom) (v : Word) (s : State), s.takes d Reg.idmCmd v = true →
    let busy := s.flag Reg.idmCmd 31
    completes (.idmRead d v) s (fun t => t.fld Reg.idmCmd 15 0 = wfld v 15 0 ∧ t.flag Reg.idmCmd 31 = (busy || v.getLsbD 31) ∧
      t.stw = (if v.getLsbD 31 = true ∧ busy = false then { s.stw with idm := v.extractLsb' 0 16 } else s.stw) ∧
      (v.getLsbD 31 = true → busy = true → t.flag (Reg.sticky Pg.idm) 0 = true) ∧
      sameRegsBut [Reg.idmCmd, Reg.sticky Pg.idm, Reg.ownStwOverride] s t ∧ t.mem = s.mem)) ∧
  (∀ (recs : List (Fin 16 × Fin 5 × List Byte)) (s : State),
    (s.flag Reg.idmCmd 31 = false → completes (.idmReadDone recs) s (fun t => t = s)) ∧
    (s.flag Reg.idmCmd 31 = true → completes (.idmReadDone recs) s (fun t =>
      t.flag Reg.idmCmd 31 = false ∧ t.flag (Reg.intStat Pg.idm) 16 = true ∧ t.stw = { s.stw with idm := 0 } ∧
      samePagesBut [Pg.idm] s t ∧ t.mem = s.mem ∧
      ∀ k : Fin 16, let st := Reg.idmStat k
        let kept := ∀ w : Fin 16, t.rd (Reg.idmRecord k w) = s.rd (Reg.idmRecord k w)
        let counted := t.fld st 31 16 = (s.fld st 31 16 + 1) % 65536
        let bad := fun (o : Nat) => t.fld st 2 0 = o ∧ t.flag st 8 = false ∧ t.flag (Reg.intStat Pg.idm) k = true ∧ counted ∧ kept
        (s.stw.idm.getLsbD k = false → t.rd st = s.rd st ∧ kept) ∧
        (s.stw.idm.getLsbD k = true →
          (recs.find? (fun r => decide (r.1 = k)) = none → bad 2) ∧
          (∀ r, recs.find? (fun r => decide (r.1 = k)) = some r →
            (r.2.1.val = 2 ∨ r.2.1.val = 4 → bad r.2.1.val) ∧
            (r.2.1.val ≠ 2 → r.2.1.val ≠ 4 → let bs := (r.2.2 ++ List.replicate 64 0).take 64
              counted ∧ t.fld st 2 0 = (if idmValid bs then 1 else 3) ∧
              (∀ w : Fin 16, t.rd (Reg.idmRecord k w) = word (leNat ((bs.drop (4 * w.val)).take 4))) ∧
              (s.rd64 (Reg.idmExpectLo k) = 0 ∨ s.rd64 (Reg.idmExpectLo k) = leNat ((bs.drop 4).take 8) → t.flag st 8 = false) ∧
              (s.rd64 (Reg.idmExpectLo k) ≠ 0 → s.rd64 (Reg.idmExpectLo k) ≠ leNat ((bs.drop 4).take 8) →
                t.flag st 8 = true ∧ t.flag (Reg.intStat Pg.idm) k = true))))))) ∧
  (∀ (hub dram : Int) (tiles : List Int) (c : Nat) (x : Int) (s : State),
    let rs := [(0, hub)] ++ (if s.variant = .t then [(1, dram)] else []) ++ (tiles.take 16).zipIdx.map (fun e => (16 + e.2, e.1))
    let was := s.flag Reg.guardStatus 16
    let lim := (s.thermLimit : Int)
    let hyst := (s.thermHyst : Int)
    let shown := fun (t : State) => t.fld Reg.guardTempMax 31 16 = c ∧
      t.fld Reg.guardTempMax 15 0 = unsigned 16 (if 32767 < x then 32767 else if x < -32768 then -32768 else x) ∧
      t.flag Reg.guardStatus 17 = decide ((s.thermWarn * 128 : Int) < x) ∧
      ((s.thermWarn * 128 : Int) < x → t.flag (Reg.intStat Pg.guard) 0 = true) ∧
      t.stw.thermAt = (t.time.up / 2000000 + 1) * 2000000 ∧ (s.time.running = true → s.stw.thermAt ≤ t.time.up)
    let kept := fun (t : State) => t.mode.fatal = s.mode.fatal ∧ t.nat Reg.guardThermTrips = s.nat Reg.guardThermTrips ∧
      samePagesBut [Pg.guard] s t ∧ t.mem = s.mem
    rs.find? (fun r => decide (r.2 = x)) = some (c, x) → (∀ r ∈ rs, r.2 ≤ x) →
    (lim * 128 < x → was = false → completes (.thermalSample hub dram tiles) s (fun t => shown t ∧
      t.flag Reg.guardStatus 16 = true ∧ t.flag (Reg.intStat Pg.guard) 1 = true ∧ t.mode.fatal.getLsbD 2 = true ∧
      t.nat Reg.guardThermTrips = Nat.min (s.nat Reg.guardThermTrips + 1) 0xFFFFFFFF ∧
      (s.mode.fatal.getLsbD 2 = false → t.modeNow = 0))) ∧
    (was = true → x ≤ (lim - hyst) * 128 → x ≤ lim * 128 → completes (.thermalSample hub dram tiles) s (fun t => shown t ∧
      t.flag Reg.guardStatus 16 = false ∧ t.mode.fatal.getLsbD 2 = false ∧
      t.nat Reg.guardThermTrips = s.nat Reg.guardThermTrips ∧ samePagesBut [Pg.guard, Pg.mode] s t ∧ t.mem = s.mem)) ∧
    (was = true → (lim - hyst) * 128 < x → completes (.thermalSample hub dram tiles) s (fun t => shown t ∧
      t.flag Reg.guardStatus 16 = true ∧ kept t)) ∧
    (was = false → x ≤ lim * 128 → completes (.thermalSample hub dram tiles) s (fun t => shown t ∧
      t.flag Reg.guardStatus 16 = false ∧ kept t))) ∧
  (∀ (d : Dom) (v : Word) (s : State), s.takes d Reg.guardFuseCtl v = true → let g := wfld v 2 0
    let may := g ≤ 5 ∧ s.flag Reg.guardStatus 0 = true ∧ s.modeNow = 0 ∧ s.flag Reg.guardStatus (8 + g) = false ∧ s.stw.burn = none
    (may → completes (.guardFuse d v) s (fun t =>
      t.stw = { s.stw with burn := some (g, (guardGroup g).map (fun k => (k, s.rd k)), s.time.up) } ∧
      sameRegsBut [Reg.ownStwOverride] s t ∧ t.mem = s.mem)) ∧
    (¬ may → completes (.guardFuse d v) s (fun t => t.stw = s.stw ∧ t.flag (Reg.sticky Pg.guard) 0 = true ∧
      sameRegsBut [Reg.sticky Pg.guard, Reg.ownStwOverride] s t ∧ t.mem = s.mem))) ∧
  (∀ (ok : Bool) (g start : Nat) (w : Nat → Word) (s : State),
    (s.stw.burn = none → completes (.guardFuseDone ok) s (fun t => t = s)) ∧
    (g ≤ 5 → s.stw.burn = some (g, (guardGroup g).map (fun k => (k, w k)), start) → completes (.guardFuseDone ok) s (fun t =>
      t.stw.burn = none ∧ (s.time.running = true → start + 20000000 ≤ t.time.up) ∧ t.mem = s.mem ∧
      (∀ k ∈ guardGroup g, t.rd k = s.rd k) ∧
      (ok = true → (∀ k ∈ guardGroup g, t.rd (k + 0x200) = w k) ∧ t.flag Reg.guardStatus (8 + g) = true ∧
        t.flag (Reg.intStat Pg.guard) 2 = true) ∧
      (ok = false → t.flag (Reg.intStat Pg.guard) 3 = true ∧
        (t.flag Reg.guardStatus (8 + g) = false → ∀ k ∈ guardGroup g, t.rd (k + 0x200) = s.rd (k + 0x200))))))

/-- O57. A session is claimed, closed and timed out; its owner's operations start or are refused with a code and end with the flash changed. -/
def Obligations.UpdateSessionsVerifyWriteAndErase : Prop :=
  let sres := fun (d : Dom) (t : State) => sget (resetOf Reg.updSres) (domIdx d) t.fab.sres
  let closed := fun (cause : Nat) (s t : State) => t.flag Reg.updSstat 31 = false ∧ t.fld Reg.updSstat 27 24 = cause ∧
    t.upd.op = none ∧ t.flag (Reg.intStat Pg.upd) 5 = true ∧ (s.upd.op = none → t.upd.flash = s.upd.flash) ∧
    (∀ o, s.upd.op = some o → t.flag Reg.updOp 31 = false ∧ t.flag Reg.updOpres 31 = s.upd.burn.isSome ∧
      (o.1 = 1 → t.upd.flash = s.upd.flash) ∧
      (o.2.1 < 4 → (∀ r, r < 4 → r ≠ o.2.1 → flashRegion t.upd.flash r = flashRegion s.upd.flash r) ∧
        (o.1 ≠ 1 → ∃ bs f n, (o.1 = 3 → bs = [] ∧ n ≤ 0x100000) ∧
          flashRegion t.upd.flash o.2.1 = partRegion (flashBytes (flashRegion s.upd.flash o.2.1) 0 0x100000) bs f n))) ∧
    sameRegsBut [Reg.updSstat, Reg.updOp, Reg.updOpres, Reg.intStat Pg.upd, Reg.ownStwOverride] s t ∧ t.mem = s.mem
  (∀ (d : Dom) (v : Word) (s : State), s.takes d Reg.updSession (setFld v 1 0 1) = true →
    (s.flag Reg.updSstat 31 = false → completes (.updClaim d v) s (fun t => t.flag Reg.updSstat 31 = true ∧
      t.fld Reg.updSstat 29 28 = domIdx d ∧ sres d t = 0x80000000 ∧ t.upd = { s.upd with ownerAt := s.time.up } ∧
      sameRegsBut [Reg.updSstat, Reg.ownStwOverride] s t ∧ t.mem = s.mem)) ∧
    (s.flag Reg.updSstat 31 = true → completes (.updClaim d v) s (fun t => sres d t = 0x90000000 ∧
      t.flag (Reg.sticky Pg.upd) 17 = true ∧ t.upd = s.upd ∧ sameRegsBut [Reg.sticky Pg.upd, Reg.ownStwOverride] s t ∧
      t.mem = s.mem))) ∧
  (∀ (d : Dom) (v : Word) (s : State), s.takes d Reg.updSession (setFld v 1 0 2) = true →
    (s.sessionOwner = some (domIdx d) → completes (.updClose d v) s (fun t => closed 1 s t ∧ sres d t = 0x80000000)) ∧
    (s.sessionOwner ≠ some (domIdx d) → completes (.updClose d v) s (fun t => sres d t = 0xA0000000 ∧ t.upd = s.upd ∧
      sameRegsBut [Reg.ownStwOverride] s t ∧ t.mem = s.mem))) ∧
  (∀ s : State, (s.flag Reg.updSstat 31 = true → s.flag Reg.updOpres 31 = false →
      completes .updSessionTimeout s (fun t => closed 2 s t ∧
        (s.time.running = true → s.upd.ownerAt + 120000000000 ≤ t.time.up))) ∧
    (s.flag Reg.updSstat 31 = false ∨ s.flag Reg.updOpres 31 = true → completes .updSessionTimeout s (fun t => t = s))) ∧
  (∀ (d : Dom) (v : Word) (s : State), ∀ c ∈ [(1, Instr.updVerify d v), (2, .updWrite d v), (3, .updErase d v)],
    s.takes d Reg.updOp (setFld (setBit v 31 true) 3 0 c.1) = true →
    let t0 := wfld v 17 16
    let src := s.nat Reg.updSrc
    let len := s.nat Reg.updLen
    let badRange := src % 64 ≠ 0 ∨ len % 4 ≠ 0 ∨ len < 4 ∨ 1048576 < len ∨ 0x3000000 < src + len
    let code := if c.1 ≠ 3 ∧ badRange then 1 else if c.1 ≠ 1 ∧ s.inUse t0 = true then 6 else 0
    (s.flag Reg.updOpres 31 = true → completes c.2 s (fun t => t.flag (Reg.sticky Pg.upd) 0 = true ∧
      t.upd = { s.upd with ownerAt := s.time.up } ∧ sameRegsBut [Reg.sticky Pg.upd, Reg.ownStwOverride] s t ∧ t.mem = s.mem)) ∧
    (s.flag Reg.updOpres 31 = false → completes c.2 s (fun t => t.fld Reg.updOp 3 0 = c.1 ∧ t.fld Reg.updOp 17 16 = t0 ∧
      t.flag Reg.updOp 31 = decide (code = 0) ∧ t.rd Reg.updOpres = (if code = 0 then 0x80000000 else word (code * 2 ^ 24)) ∧
      t.upd = { s.upd with ownerAt := s.time.up, op := if code = 0 then some (c.1, t0, src, len) else s.upd.op } ∧
      sameRegsBut [Reg.updOp, Reg.updOpres, Reg.ownStwOverride] s t ∧ t.mem = s.mem))) ∧
  (∀ (ok : Bool) (op t0 src len : Nat) (s : State),
    (s.upd.op = none → completes (.updOpDone ok) s (fun t => t = s)) ∧
    (s.upd.op = some (op, t0, src, len) → t0 < 4 →
      let x := s.smRead 0 src len
      let code := if x.2.2 then 12 else x.1.stagedCode op t0 x.2.1
      let ends := fun (code n : Nat) (t : State) => t.rd Reg.updOpres = word (code * 2 ^ 24 + n) ∧
        t.flag Reg.updOp 31 = false ∧ t.upd.op = none ∧ t.flag (Reg.intStat Pg.upd) 0 = true ∧
        (∀ n, n < 2 → t.flag Reg.updBanks (2 + n) = decide (t.fwCode (t.bank n) = 0)) ∧
        (∀ r, r < 4 → r ≠ t0 → flashRegion t.upd.flash r = flashRegion s.upd.flash r) ∧
        samePagesBut [Pg.upd, Pg.secc] s t ∧ t.mem = s.mem
      let holds := fun (bs : List Byte) (t : State) => flashRegion t.upd.flash t0 = bs
      (op = 3 → completes (.updOpDone ok) s (fun t => if ok then ends 0 0x100000 t ∧ holds [] t else ∃ n, n ≤ 0x100000 ∧ ends 7 n t)) ∧
      (op ≠ 1 → op ≠ 3 → code ≠ 0 → completes (.updOpDone ok) s (fun t => ends code 0 t ∧ t.upd.flash = s.upd.flash)) ∧
      (op = 1 → code ≠ 0 → completes (.updOpDone ok) s (fun t => (∃ n, n ≤ len ∧ ends code n t) ∧ t.upd.flash = s.upd.flash)) ∧
      (op = 1 → code = 0 → completes (.updOpDone ok) s (fun t => ends 0 len t ∧ t.upd.flash = s.upd.flash)) ∧
      (op = 2 → code = 0 → completes (.updOpDone ok) s (fun t =>
        if ok then ends 0 len t ∧ holds x.2.1 t else ∃ n, n ≤ len ∧ ends 7 n t))))

/-- O58. An activation is armed or refused with its code, preloads, switches at its rendezvous, is confirmed, times out or falls back step by step. -/
def Obligations.ActivationArmsTriesConfirmsAndFallsBack : Prop :=
  let restarted := fun (b bank : Nat) (t : State) => t.stwState b = 1 ∧ t.runBank b = bank ∧
    t.fab.inReset.getLsbD (24 + b) = true ∧ (t.steward b).since = t.time.up + 2000000 ∧ (t.steward b).passed = false
  let only := fun (s t : State) => samePagesBut [Pg.stw, Pg.sys, Pg.upd, Pg.own] s t ∧ t.mem = s.mem
  let ended := fun (last : Nat) (t : State) => t.rd Reg.updAct = 0 ∧ t.fld Reg.updLast 3 0 = last
  (∀ (d : Dom) (v : Word) (a : Nat) (s : State), s.takes d Reg.updArm (setBit (setBit v 31 true) 30 false) = true →
    s.activeStw = some a →
    let bank := wfld v 16 16
    let token := wfld v 15 0
    let fw := s.fwCode (s.bank bank)
    let used := s.fld Reg.cfgStatus 13 12
    let runFmt := if s.flag Reg.updBanks 9 then 0 else flashNat (s.bank (s.runBank a)) 26 2
    let code := if s.actState ≠ 0 then 10 else if token = 0 then 1 else if bank = s.confirmed then 6 else if fw ≠ 0 then fw
      else if s.flag Reg.stwRole 9 = false then 9 else if runFmt < flashNat (s.bank bank) 28 2 then 11
      else if 1 < used ∨ hasFmt (flashRegion s.upd.flash used) (flashNat (s.bank bank) 24 2) = false then 8 else 0
    completes (.updArm d v) s (fun t => t.fld Reg.updOpres 27 24 = code ∧ t.upd.ownerAt = s.time.up ∧
      t.upd.flash = s.upd.flash ∧ only s t ∧
      (code = 0 → t.rd Reg.updAct = word (2 ^ 28 + bank * 2 ^ 16 + token) ∧ t.upd.actAt = s.time.up ∧
        restarted (1 - a) bank t ∧ t.stwState a = 3 ∧ (s.stwState (1 - a) = 2 → t.flag Reg.stwRole 9 = false)) ∧
      (code ≠ 0 → t.stw = s.stw ∧ sameRegsBut [Reg.updOpres, Reg.ownStwOverride] s t))) ∧
  (∀ (d : Dom) (v : Word) (s : State), s.takes d Reg.updArm (setBit (setBit v 31 false) 30 true) = true →
    (s.actState = 1 ∨ s.actState = 2 → completes (.updDisarm d v) s (fun t => ended 4 t ∧
      restarted s.otherStw s.confirmed t ∧ only s t)) ∧
    (s.actState = 3 → completes (.updDisarm d v) s (fun t => t.actState = 4 ∧ t.fld Reg.updLast 3 0 = 4 ∧ t.stw = s.stw ∧
      sameRegsBut [Reg.updAct, Reg.updLast, Reg.ownStwOverride] s t ∧ t.mem = s.mem)) ∧
    (s.actState = 0 ∨ 4 ≤ s.actState → completes (.updDisarm d v) s (fun t => t.stw = s.stw ∧
      sameRegsBut [Reg.ownStwOverride] s t ∧ t.mem = s.mem))) ∧
  (∀ s : State,
    (s.actState = 1 → let b := s.otherStw
      completes .updPreloadTimeout s (fun t => ended 6 t ∧ t.fld Reg.updOpres 27 24 = 13 ∧ only s t ∧
        (s.time.running = true → s.upd.actAt + 400000000 ≤ t.time.up) ∧
        restarted b s.confirmed t)) ∧
    (s.actState ≠ 1 → completes .updPreloadTimeout s (fun t => t = s)) ∧
    (s.actState = 3 → completes .updTrialTimeout s (fun t => t.actState = 4 ∧ t.fld Reg.updLast 3 0 = 2 ∧ t.stw = s.stw ∧
      (s.time.running = true → s.upd.actAt + s.fld Reg.updTrialS 15 0 * 2000000000 ≤ t.time.up) ∧
      sameRegsBut [Reg.updAct, Reg.updLast] s t ∧ t.mem = s.mem)) ∧
    (s.actState ≠ 3 → completes .updTrialTimeout s (fun t => t = s))) ∧
  (∀ s : State, s.crosses 0 26 = false → completes .rendezvous s (fun t => t = s)) ∧
  (∀ (x : TimeAct) (a : Nat) (pre post : List TimeAct) (s : State), s.crosses 0 26 = true →
    s.time.acts = pre ++ x :: post → x.code = 6 → (∀ y ∈ pre, y.code ≠ 6) →
    let bank := s.fld Reg.updAct 16 16
    let may := x.arg = s.fld Reg.updAct 15 0 ∧ s.actState = 2 ∧ s.flag Reg.stwRole 9 = true ∧ s.busyStw = false
    (s.activeStw = some a → may → completes .rendezvous s (fun t => t.actState = 3 ∧ t.rd Reg.updRdvLo = word x.target ∧
      t.rd Reg.updRdvHi = word (x.target / 2 ^ 32) ∧ t.upd.actAt = s.time.up ∧ t.flag (Reg.intStat Pg.upd) 2 = true ∧
      t.fld Reg.updCounts 15 0 = Nat.min (s.fld Reg.updCounts 15 0 + 1) 65535 ∧ t.flag Reg.updSstat 31 = false ∧
      t.stwState (1 - a) = 3 ∧ t.fld Reg.stwRole 8 8 = 1 - a ∧ t.busyStw = true ∧ t.stw.swapping = true ∧
      restarted a bank t ∧ t.flag Reg.stwRole 9 = false ∧ t.time = { s.time with acts := pre ++ post } ∧ only s t)) ∧
    (s.activeStw = none ∨ ¬ may → completes .rendezvous s (fun t => t.flag (Reg.timeCmpStat x.unit) 2 = true ∧
      t = { s with regs := t.regs, time := { s.time with acts := pre ++ post } } ∧ sameRegsBut [Reg.timeCmpStat x.unit] s t))) ∧
  (∀ (d : Dom) (v : Word) (s : State), s.takes d Reg.updConfirm (setBit v 0 true) = true →
    let bank := s.fld Reg.updAct 16 16
    let may := s.actState = 3 ∧ s.runBank 0 = bank ∧ s.runBank 1 = bank ∧ s.flag Reg.stwRole 9 = true
    (may → completes (.updConfirm d v) s (fun t => ended 1 t ∧ t.confirmed = bank ∧
      t.upd.flash = bootWrite s.upd.flash bank ∧ t.flag (Reg.intStat Pg.upd) 3 = true ∧ t.stw = s.stw ∧ only s t)) ∧
    (¬ may → completes (.updConfirm d v) s (fun t => t.fld Reg.updOpres 27 24 = 10 ∧ t.upd.flash = s.upd.flash ∧
      sameRegsBut [Reg.updOpres, Reg.ownStwOverride] s t ∧ t.mem = s.mem))) ∧
  (∀ (a : Nat) (s : State), let c := s.confirmed
    (s.actState ≠ 4 ∨ s.activeStw = none → completes .updFallbackStep s (fun t => t = s)) ∧
    (s.actState = 4 → s.activeStw = some a →
      (s.stwState (1 - a) ≠ 2 → completes .updFallbackStep s (fun t => t = s)) ∧
      (s.stwState (1 - a) = 2 → s.runBank (1 - a) ≠ c → completes .updFallbackStep s (fun t =>
        restarted (1 - a) c t ∧ t.stwState a = 3 ∧ t.flag Reg.stwRole 9 = false ∧ t.actState = 4 ∧ only s t)) ∧
      (s.stwState (1 - a) = 2 → s.runBank (1 - a) = c → s.flag Reg.stwRole 9 = true →
        (s.runBank a ≠ c → s.busyStw = false → completes .updFallbackStep s (fun t => t.stwState (1 - a) = 3 ∧
          t.busyStw = true ∧ restarted a c t ∧ t.actState = 4 ∧ only s t)) ∧
        (s.runBank a = c → completes .updFallbackStep s (fun t => t.rd Reg.updAct = 0 ∧ t.stw = s.stw ∧
          t.fld Reg.updCounts 31 16 = Nat.min (s.fld Reg.updCounts 31 16 + 1) 65535 ∧
          t.flag (Reg.intStat Pg.upd) 4 = true ∧ t.flag (Reg.sticky Pg.upd) 16 = true ∧ only s t)))))

/-- O59. Key slots are burnt or refused, the start-up sequence ends with DONE, locks and filled memories, and ageing campaigns start, wait or are refused. -/
def Obligations.KeysStartupAndAgeing : Prop :=
  (∀ (d : Dom) (v : Word) (s : State), s.takes d Reg.updKeyFuse v = true →
    let k := wfld v 1 0
    let revoke := v.getLsbD 8
    let prog := s.flag Reg.updKeys k
    let fits := if revoke then prog = true ∧ s.flag Reg.updKeys (4 + k) = false else prog = false
    let may := s.flag Reg.guardStatus 0 = true ∧ s.modeNow = 0 ∧ fits ∧ s.flag Reg.updOpres 31 = false
    let src := s.nat Reg.updSrc
    let burns := fun (bs : List Byte) (t : State) => t.rd Reg.updOpres = 0x80000000 ∧
      t.upd = { s.upd with ownerAt := s.time.up, burn := some (k, revoke, bs, s.time.up) } ∧
      samePagesBut [Pg.upd, Pg.own, Pg.secc] s t ∧ t.mem = s.mem
    let refuses := fun (code : Nat) (t : State) => t.fld Reg.updOpres 27 24 = code ∧ t.upd = { s.upd with ownerAt := s.time.up } ∧
      samePagesBut [Pg.upd, Pg.own, Pg.secc] s t ∧ t.mem = s.mem
    (¬ may → completes (.keyFuse d v) s (refuses 10)) ∧
    (may → revoke = true → completes (.keyFuse d v) s (burns [])) ∧
    (may → revoke = false → 0x3000000 < src + 32 → completes (.keyFuse d v) s (refuses 1)) ∧
    (may → revoke = false → src + 32 ≤ 0x3000000 → let x := s.smRead 0 src 32
      (x.2.2 = true → completes (.keyFuse d v) s (refuses 12)) ∧ (x.2.2 = false → completes (.keyFuse d v) s (burns x.2.1)))) ∧
  (∀ (ok revoke : Bool) (k start : Nat) (hash : List Byte) (s : State),
    (s.upd.burn = none → completes (.keyFuseDone ok) s (fun t => t = s)) ∧
    (k < 4 → s.upd.burn = some (k, revoke, hash, start) → completes (.keyFuseDone ok) s (fun t =>
      t.upd.burn = none ∧ t.rd Reg.updOpres = word ((if ok then 0 else 7) * 2 ^ 24) ∧ t.flag (Reg.intStat Pg.upd) 0 = true ∧
      (s.time.running = true → start + 20000000 ≤ t.time.up) ∧ t.upd.flash = s.upd.flash ∧
      (∀ j, j ≠ k → sget [] j t.upd.keys = sget [] j s.upd.keys) ∧ (revoke = true → t.upd.keys = s.upd.keys) ∧
      (let bit := if revoke then 4 + k else k
       (ok = true → t.flag Reg.updKeys bit = true ∧ (revoke = false → sget [] k t.upd.keys = hash)) ∧
       (∀ i, i < 8 → i ≠ bit → t.flag Reg.updKeys i = s.flag Reg.updKeys i)) ∧
      samePagesBut [Pg.upd] s t ∧ t.mem = s.mem))) ∧
  (∀ (x : StartupData) (s : State),
    (s.activeStw = none ∨ s.flag Reg.cfgStatus 31 = true → completes (.startupSequence x) s (fun t => t = s)) ∧
    (s.activeStw.isSome = true → s.flag Reg.cfgStatus 31 = false →
      let idOk := decide (x.flashId ≠ 0) && decide (x.flashId ≠ 0xFFFFFF)
      let cause := fun (c : Nat) => s.cfgCause ((if c = 0 then x.readOk0 else x.readOk1) && idOk) (flashRegion s.upd.flash c) s.runFmt
      let ends := fun (t : State) => t.flag Reg.cfgStatus 31 = true ∧ t.fld Reg.cfgStatus 18 16 = 6 ∧
        t.fld Reg.cfgStatus 7 4 = cause 0 ∧ t.fld Reg.cfgStatus 11 8 = cause 1 ∧ t.rd Reg.cfgFlashId = word x.flashId.toNat ∧
        t.locked Pg.own = true ∧ t.locked Pg.stw = true ∧ t.locked Pg.guard = true ∧ t.fab.cfgRetry = false ∧
        t.age.setpt = x.vout ∧ (s.flag Reg.updBanks 9 = false → t.flag Reg.sysStatus 6 = true) ∧
        (∀ code addr, 1 ≤ code → code < 25 → addr < memSize code → t.mem.byte (memKey code addr) = some 0)
      (x.readOk0 = false → x.readOk1 = false → completes (.startupSequence x) s (fun t => ends t ∧
        t.fld Reg.cfgStatus 13 12 = 2 ∧ t.flag Reg.sysStatus 0 = true ∧ t.flag (Reg.sticky Pg.cfg) 17 = true ∧
        (∀ addr, addr < memSize 0 → t.mem.byte (memKey 0 addr) = some 0))) ∧
      (∀ c : Fin 2, cause c = 0 → cause (1 - c.val) ≠ 0 →
        let bs := flashRegion s.upd.flash c
        let fmt := s.runFmt.getD 0
        (∀ y ∈ applied bs fmt, y.1 ≠ 2) → completes (.startupSequence x) s (fun t => ends t ∧
          t.fld Reg.cfgStatus 13 12 = c ∧ t.nat (Reg.cfgSeq c) = flashNat bs 16 4 ∧ t.nat Reg.cfgImageVer = flashNat bs 20 4 ∧
          t.fld Reg.cfgFmt 15 0 = fmt % 65536)))) ∧
  (∀ (d : Dom) (v : Word) (m : AgeMeas) (s : State),
    let go := setBit v 31 true
    let started := fun (s t : State) => t.flag Reg.ageCtl 31 = true ∧ t.rd Reg.ageStat = 0x81000000 ∧
      t.age.run = some { meas := m, xstart := s.xtimeNow, start := s.time.up, due := s.time.up + m.ticks.getD 0 0 } ∧
      t.rd64 Reg.ageNextLo = (s.xtimeNow + s.fld Reg.agePeriodD 15 0 * 172800000000000) % 2 ^ 64
    (s.takes d Reg.ageCtl go = true →
      (s.age.run = none → 0 < m.ticks.getD 0 0 → completes (.ageCampaignGo d v m) s (fun t => started s t ∧
        t.rd Reg.ageCtl &&& 0x107 = v &&& 0x107 ∧
        sameRegsBut [Reg.ageCtl, Reg.ageStat, Reg.ageNextLo, Reg.ageNextHi, Reg.ownStwOverride] s t ∧ t.mem = s.mem)) ∧
      (∀ y, s.age.run = some y → s.time.up < y.due → s.ageWaits = false → completes (.ageCampaignGo d v m) s (fun t =>
        t.flag (Reg.sticky Pg.age) 0 = true ∧ t.age = s.age ∧
        sameRegsBut [Reg.ageCtl, Reg.sticky Pg.age, Reg.ownStwOverride] s t ∧ t.mem = s.mem))) ∧
    (s.islandLive 27 = false ∨ s.fld Reg.agePeriodD 15 0 = 0 ∨ s.xtimeNow < s.rd64 Reg.ageNextLo →
      completes (.ageCampaignScheduled m) s (fun t => t = s)) ∧
    (s.islandLive 27 = true → s.fld Reg.agePeriodD 15 0 ≠ 0 → s.rd64 Reg.ageNextLo ≤ s.xtimeNow →
      (s.age.run = none → 0 < m.ticks.getD 0 0 → completes (.ageCampaignScheduled m) s (fun t => started s t ∧
        sameRegsBut [Reg.ageCtl, Reg.ageStat, Reg.ageNextLo, Reg.ageNextHi] s t ∧ t.mem = s.mem)) ∧
      (∀ y, s.age.run = some y → s.time.up < y.due → s.ageWaits = false → completes (.ageCampaignScheduled m) s (fun t => t.age = s.age ∧
        t.rd64 Reg.ageNextLo = (s.xtimeNow + s.fld Reg.agePeriodD 15 0 * 172800000000000) % 2 ^ 64 ∧
        sameRegsBut [Reg.ageNextLo, Reg.ageNextHi] s t ∧ t.mem = s.mem))))

/-- O60. A campaign's steps give the margins, move the set point or fail, write CLK.XADJ, report the end of margin, and end on a page reset. -/
def Obligations.CampaignsMeasureAdjustAndReport : Prop :=
  (∀ (d : Dom) (v : Word) (m : AgeMeas) (y : AgeRun) (s : State), s.takes d Reg.ageCtl (setBit v 31 true) = true →
    s.age.run = some y → y.ending = false → y.due ≤ s.time.up →
    let i := s.fld Reg.ageStat 26 24
    let after : AgeRun := { y with due := y.due + y.meas.ticks.getD i 0 }
    let next := fun (pages : List Nat) (t : State) => t.fld Reg.ageStat 26 24 = i + 1 ∧ t.flag (Reg.sticky Pg.age) 0 = true ∧
      samePagesBut (pages ++ [Pg.age, Pg.own]) s t ∧ t.mem = s.mem
    (i = 1 → s.time.up < after.due →
      let x0 := s.ageOscs (y.meas.osc.headD [])
      let x1 := x0.1.ageOscs (y.meas.osc.tail.headD [])
      let lo : Int := (s.fld Reg.ageRcfg 7 0 : Nat)
      let hi : Int := (s.fld Reg.ageRcfg 15 8 : Nat)
      let mv := s.age.setpt + s.fld Reg.ageRcfg 31 24
      (s.flag Reg.ageCtl 0 = false → completes (.ageCampaignGo d v m) s (fun t => next [] t ∧
        (∀ k, k < 24 → s.islandExists (k + 2) = true → let n := (y.meas.osc.headD []).getD k 0
          let c : Int := (s.nat (Reg.ageCcrit k) : Nat)
          let z : Int := (1000 * ((n : Int) - c)) / c
          t.rd (Reg.ageCount k) = word n ∧
          (0 < c → -32768 ≤ z → z ≤ 32767 → t.fld (Reg.ageOmargin k) 15 0 = unsigned 16 z)) ∧
        (∃ z, t.age = { s.age with run := some { after with margin := z } } ∧
          ∀ k, k < 24 → s.islandLive (k + 2) = true → z ≤ signed 16 (t.fld (Reg.ageOmargin k) 15 0)))) ∧
      (s.flag Reg.ageCtl 0 = true → y.railCut = none → 1 ≤ s.fld Reg.ageRcfg 23 16 → x0.2 < lo → s.railWindow.1 ≤ mv →
        mv ≤ s.railWindow.2 → ∀ r : Nat × Nat, s.age.rail0 = some r →
        (∀ (e : Int) (read : Nat), y.meas.rail.headD none = some (true, e, read) → read ≤ mv + 5 → mv ≤ read + 5 → lo ≤ x1.2 →
          x1.2 ≤ hi → completes (.ageCampaignGo d v m) s (fun t => next [] t ∧
            t.age = { s.age with setpt := mv, run := some { after with margin := x1.2, failed := false } } ∧
            t.out = s.out ++ [.pmbus r.1 r.2 0x21 (voutCode mv e)] ∧ t.flag (Reg.intStat Pg.age) 4 = true ∧
            t.fld Reg.ageCounts 31 16 = Nat.min (s.fld Reg.ageCounts 31 16 + 1) 65535)) ∧
        (y.meas.rail.headD none = none → completes (.ageCampaignGo d v m) s (fun t => next [] t ∧
          t.age = { s.age with run := some { after with margin := x0.2, failed := true } } ∧
          t.flag Reg.ageStat 1 = true ∧ t.flag (Reg.intStat Pg.age) 3 = true ∧ t.flag (Reg.sticky Pg.age) 17 = true)))) ∧
    (i = 5 → s.time.up < after.due → s.flag Reg.ageCtl 8 = true → s.flag Reg.clkStatus 6 = true → s.flag Reg.clkStatus 4 = false →
      let adj := (2 * s.nat Reg.clkXratioLo * 500000000 + 2 ^ 32) / 2 ^ 33
      let fits := s.fld Reg.clkXratioHi 7 0 = 40 ∧ adj ≤ 8388607
      (fits → completes (.ageCampaignGo d v m) s (fun t => next [Pg.clk] t ∧ t.fld Reg.clkXadj 23 0 = adj ∧
        t.age = { s.age with run := some { after with xtal := false } })) ∧
      (¬ fits → completes (.ageCampaignGo d v m) s (fun t => next [] t ∧
        t.age = { s.age with run := some { after with xtal := true } }))) ∧
    (i = 6 → 0 < m.ticks.getD 0 0 → completes (.ageCampaignGo d v m) s (fun t =>
      t.age = { s.age with run := some { meas := m, xstart := s.xtimeNow, start := s.time.up, due := s.time.up + m.ticks.getD 0 0 } } ∧
      t.rd Reg.ageCore = word (s.age.setpt * 65536 + unsigned 16 y.margin) ∧
      t.flag Reg.ageEom 5 = decide (y.margin < 0) ∧ t.flag Reg.ageEom 4 = y.xtal ∧
      t.flag Reg.ageEom 0 = (decide (y.margin < ((s.fld Reg.ageRcfg 7 0 : Nat) : Int)) &&
        (decide (s.railWindow.2 ≤ s.age.setpt) || !s.flag Reg.ageCtl 0)) ∧
      ((∃ b, b < 6 ∧ t.flag Reg.ageEom b = true ∧ s.flag Reg.ageEom b = false) → t.flag (Reg.intStat Pg.age) 1 = true) ∧
      t.rd64 Reg.ageLastLo = y.xstart % 2 ^ 64 ∧
      t.fld Reg.ageDuration 15 0 = (s.time.up - y.start + 1999999) / 2000000 % 65536 ∧
      t.fld Reg.ageCounts 15 0 = (s.fld Reg.ageCounts 15 0 + 1) % 65536 ∧ t.flag (Reg.intStat Pg.age) 0 = true ∧
      t.rd Reg.ageStat = 0x81000000 ∧ samePagesBut [Pg.age, Pg.own] s t ∧ t.mem = s.mem))) ∧
  (∀ (y : AgeRun) (s : State), s.canonical → s.srst Pg.age = true → sget [] Pg.age s.fab.srstHeld = [] →
    s.age.run = some y → s.time.up < y.due → s.ageWaits = false →
    completes (.pageResetComplete Pg.age) s (fun t => t.age = { s.age with run := none, presets := [] } ∧
      t.flag Reg.ageStat 0 = true ∧ (∀ k ∈ [Reg.ageCore, Reg.ageEom, Reg.ageLastLo, Reg.ageLastHi, Reg.ageDuration, Reg.ageCounts,
        Reg.ageDefer], t.rd k = resetOf k) ∧ samePagesBut [Pg.age] s t ∧ t.mem = s.mem))
end

