-- ==== Sys2Proof/Laws/Cross.lean ====
section
/-!
SUPPORT. What a crossing does with a data transfer (R37, R38, R40): it is lost, it waits, or it has its effect.
-/
namespace Sys2Proof.Machine

/-- An offered transfer is lost and counted at a sealed crossing, has its effect at an open one that holds nothing, and else
waits behind what the crossing holds. -/
theorem State.offer_cases (s : State) (x : Xfer) (go : State → State) :
    ((s.sealedOff x.ends.1 || s.sealedOff x.ends.2) = true ∧ s.offer x go = s.xferLost x.ends.1 x.ends.2) ∨
    ((s.sealedOff x.ends.1 || s.sealedOff x.ends.2) = false ∧ s.crosses x.ends.1 x.ends.2 = true ∧
      (∀ y ∈ s.xfers, y.ends ≠ x.ends) ∧ s.offer x go = go s) ∨
    ((s.sealedOff x.ends.1 || s.sealedOff x.ends.2) = false ∧
      (s.crosses x.ends.1 x.ends.2 = false ∨ ∃ y ∈ s.xfers, y.ends = x.ends) ∧
      s.offer x go = { s with xfers := s.xfers ++ [x] }) := by
  unfold State.offer
  dsimp only
  split
  · exact .inl ⟨‹_›, rfl⟩
  · rename_i h
    split
    · rename_i g
      simp only [Bool.and_eq_true, List.all_eq_true, decide_eq_true_eq] at g
      exact .inr (.inl ⟨by simpa using h, g.1, g.2, rfl⟩)
    · rename_i g
      refine .inr (.inr ⟨by simpa using h, ?_, rfl⟩)
      by_cases c : s.crosses x.ends.1 x.ends.2 = true
      · right
        simpa [c] using g
      · left
        simpa using c

/-- A crossing between running islands that holds nothing lets a transfer through. -/
theorem State.offer_open (s : State) (x : Xfer) (go : State → State) (h : s.crosses x.ends.1 x.ends.2 = true)
    (e : s.xfers = []) : s.offer x go = go s := by
  have c := h
  simp only [State.crosses, Bool.and_eq_true, Bool.not_eq_true'] at c
  simp [State.offer, c.1.1.1, c.1.1.2, h, e]

end Sys2Proof.Machine
end

