-- ==== Sys2Proof/Laws/Memory.lean ====
section
/-!
SUPPORT. The laws of the hub's memories: read after write, and that every memory operation keeps the canonical form.
-/
namespace Sys2Proof.Machine

/-- Every segment of a map holds a key. -/
def segsOk (m : List (Nat × Nat × Nat)) : Prop := ∀ e ∈ m, e.1 < e.2.1

theorem segCut_ok (a b : Nat) (m : List (Nat × Nat × Nat)) : segsOk (segCut a b m) := by
  induction m with
  | nil => intro e he; simp [segCut] at he
  | cons x r ih =>
    obtain ⟨lo, hi, v⟩ := x
    intro e he
    simp only [segCut, List.mem_append] at he
    rcases he with (he | he) | he
    · split at he
      · rw [List.mem_singleton] at he; subst he; assumption
      · simp at he
    · split at he
      · rw [List.mem_singleton] at he; subst he; assumption
      · simp at he
    · exact ih e he

theorem segGet_cut (a b k : Nat) (h : k < a ∨ b ≤ k) (m : List (Nat × Nat × Nat)) : segGet k (segCut a b m) = segGet k m := by
  induction m with
  | nil => rfl
  | cons x r ih =>
    obtain ⟨lo, hi, v⟩ := x
    have hn : ∀ q p : Nat, Nat.min q p = min q p := fun _ _ => rfl
    have hx : ∀ q p : Nat, Nat.max q p = max q p := fun _ _ => rfl
    simp only [segCut, hn, hx, List.append_assoc]
    by_cases h1 : lo < min hi a <;> by_cases h2 : max lo b < hi <;>
      simp only [h1, h2, if_true, if_false, List.nil_append, List.cons_append, segGet, ih] <;>
      (repeat' split) <;> first | rfl | (exfalso; omega)

theorem segGet_ins (x : Nat × Nat × Nat) (k : Nat) (h : ¬ (x.1 ≤ k ∧ k < x.2.1)) (m : List (Nat × Nat × Nat)) :
    segGet k (segIns x m) = segGet k m := by
  induction m with
  | nil => obtain ⟨a, b, v⟩ := x; simp only [segIns, segGet]; rw [if_neg h]
  | cons y r ih =>
    unfold segIns
    split
    · obtain ⟨a, b, v⟩ := x; simp only [segGet]; rw [if_neg h]
    · obtain ⟨a, b, v⟩ := y; simp only [segGet, ih]

theorem segIns_ok (x : Nat × Nat × Nat) (hx : x.1 < x.2.1) (m : List (Nat × Nat × Nat)) (h : segsOk m) : segsOk (segIns x m) := by
  induction m with
  | nil => intro e he; simp [segIns] at he; subst he; exact hx
  | cons y r ih =>
    unfold segIns
    split
    · intro e he
      rcases List.mem_cons.1 he with rfl | he
      · exact hx
      · exact h e he
    · intro e he
      rcases List.mem_cons.1 he with rfl | he
      · exact h _ (List.mem_cons_self ..)
      · exact ih (fun e he => h e (List.mem_cons_of_mem _ he)) e he

theorem segCons_ok (x : Nat × Nat × Nat) (hx : x.1 < x.2.1) (m : List (Nat × Nat × Nat)) (h : segsOk m) :
    segsOk (segCons x m) := by
  cases m with
  | nil => intro e he; simp [segCons] at he; subst he; exact hx
  | cons y r =>
    have hy := h y (List.mem_cons_self ..)
    simp only [segCons]
    split
    · rename_i he
      intro e h'
      rcases List.mem_cons.1 h' with rfl | h'
      · show x.1 < y.2.1
        omega
      · exact h e (List.mem_cons_of_mem _ h')
    · intro e h'
      rcases List.mem_cons.1 h' with rfl | h'
      · exact hx
      · exact h e h'

theorem segGet_segCons (x : Nat × Nat × Nat) (hx : x.1 < x.2.1) (k : Nat) (m : List (Nat × Nat × Nat)) (h : segsOk m) :
    segGet k (segCons x m) = segGet k (x :: m) := by
  cases m with
  | nil => rfl
  | cons y r =>
    have hy := h y (List.mem_cons_self ..)
    obtain ⟨a, b, v⟩ := x
    obtain ⟨c, d, u⟩ := y
    simp only [segCons]
    split
    · rename_i he
      obtain ⟨rfl, rfl⟩ := he
      simp only at hx hy
      simp only [segGet]
      (repeat' split) <;> first | rfl | (exfalso; omega)
    · rfl

theorem segFold (k : Nat) (m : List (Nat × Nat × Nat)) (h : segsOk m) :
    segGet k (m.foldr segCons []) = segGet k m ∧ segsOk (m.foldr segCons []) := by
  induction m with
  | nil => exact ⟨rfl, h⟩
  | cons x r ih =>
    have hr := ih (fun e he => h e (List.mem_cons_of_mem _ he))
    have hx := h x (List.mem_cons_self ..)
    rw [List.foldr_cons]
    refine ⟨?_, segCons_ok x hx _ hr.2⟩
    rw [segGet_segCons x hx k _ hr.2]
    obtain ⟨a, b, v⟩ := x
    simp only [segGet, hr.1]

/-- A fill leaves every key outside its range alone. -/
theorem segGet_segSet_out (a b v k : Nat) (m : List (Nat × Nat × Nat)) (h : k < a ∨ b ≤ k) :
    segGet k (segSet a b v m) = segGet k m := by
  unfold segSet
  split
  · rfl
  · rename_i hab
    split
    · rw [(segFold k _ (segCut_ok a b m)).1, segGet_cut a b k h]
    · rw [(segFold k _ (segIns_ok (a, b, v) (by simp only; omega) _ (segCut_ok a b m))).1, segGet_ins _ _ (by simp only; omega),
        segGet_cut a b k h]

/-- The canonical form, entry by entry. -/
theorem cellsWf_cons (m : MemSt) (e : Host.Cell) (r : List Host.Cell) :
    cellsWf m (e :: r) = true ↔ (∀ f ∈ r, e.1 < f.1) ∧ m.back e.1 ≠ some e.2 ∧ cellsWf m r = true := by
  induction r generalizing e with
  | nil => simp [cellsWf]
  | cons f r ih =>
    simp only [cellsWf, Bool.and_eq_true, decide_eq_true_eq]
    rw [ih]
    constructor
    · rintro ⟨⟨h1, h2⟩, h3, h4, h5⟩
      refine ⟨?_, h2, h3, h4, h5⟩
      intro g hg
      rcases List.mem_cons.1 hg with rfl | hg
      · exact h1
      · exact lt_trans h1 (h3 g hg)
    · rintro ⟨h1, h2, h3, h4, h5⟩
      exact ⟨⟨h1 _ (List.mem_cons_self ..), h2⟩, h3, h4, h5⟩

theorem cellsWf_filter (m : MemSt) (p : Host.Cell → Bool) (l : List Host.Cell) (h : cellsWf m l = true) :
    cellsWf m (l.filter p) = true := by
  induction l with
  | nil => rfl
  | cons e r ih =>
    rw [cellsWf_cons] at h
    rw [List.filter_cons]
    split
    · rw [cellsWf_cons]
      exact ⟨fun f hf => h.1 f (List.mem_filter.1 hf).1, h.2.1, ih h.2.2⟩
    · exact ih h.2.2

theorem cellsWf_sins (m : MemSt) (k : Nat) (v : Byte) (l : List Host.Cell) (hv : m.back k ≠ some v) (h : cellsWf m l = true) :
    cellsWf m (sins k v l) = true := by
  induction l with
  | nil => simp [sins, cellsWf, hv]
  | cons e r ih =>
    have h' := h
    rw [cellsWf_cons] at h
    unfold sins
    split
    · rename_i hk
      rw [cellsWf_cons]
      refine ⟨?_, hv, h'⟩
      intro f hf
      rcases List.mem_cons.1 hf with rfl | hf
      · exact hk
      · exact lt_trans hk (h.1 f hf)
    · split
      · rename_i hk; subst hk
        rw [cellsWf_cons]; exact ⟨h.1, hv, h.2.2⟩
      · rename_i h1 h2
        rw [cellsWf_cons]
        refine ⟨?_, h.2.1, ih h.2.2⟩
        intro f hf
        rcases mem_sins _ _ _ _ hf with rfl | hf
        · simp only; omega
        · exact h.1 f hf

/-- The canonical form depends on the background of the listed cells only. -/
theorem cellsWf_congr (m n : MemSt) (l : List Host.Cell) (h : ∀ e ∈ l, m.back e.1 = n.back e.1) (hw : cellsWf m l = true) :
    cellsWf n l = true := by
  induction l with
  | nil => rfl
  | cons e r ih =>
    rw [cellsWf_cons] at hw ⊢
    refine ⟨hw.1, ?_, ih (fun f hf => h f (List.mem_cons_of_mem _ hf)) hw.2.2⟩
    rw [← h e (List.mem_cons_self ..)]; exact hw.2.1

/-- A byte write keeps the canonical form. -/
theorem MemSt.wf_put (m : MemSt) (k : Nat) (b : Byte) (h : m.wf = true) : (m.put k b).wf = true := by
  by_cases hb : m.back k = some b
  · have e : (m.put k b).cells = m.cells.filter (fun c => decide (c.1 ≠ k)) := by simp only [MemSt.put, if_pos hb]
    unfold MemSt.wf
    rw [e]
    exact cellsWf_congr m _ _ (fun _ _ => rfl) (cellsWf_filter m _ _ h)
  · have e : (m.put k b).cells = sins k b m.cells := by simp only [MemSt.put, if_neg hb]
    unfold MemSt.wf
    rw [e]
    exact cellsWf_congr m _ _ (fun _ _ => rfl) (cellsWf_sins m k b _ hb h)

/-- A byte just written reads as written. -/
theorem MemSt.byte_put_same (m : MemSt) (k : Nat) (b : Byte) : (m.put k b).byte k = some b := by
  have hs : ∀ l : List Host.Cell, (sins k b l).find? (fun c => decide (c.1 = k)) = some (k, b) := by
    intro l
    induction l with
    | nil => simp [sins]
    | cons e r ih =>
      unfold sins
      split
      · simp
      · split
        · simp
        · rename_i h2; simp [List.find?, h2, ih]
  have hf : ∀ l : List Host.Cell, (l.filter (fun c => decide (c.1 ≠ k))).find? (fun c => decide (c.1 = k)) = none := by
    intro l; rw [List.find?_eq_none]; intro x hx; simpa using (List.mem_filter.1 hx).2
  by_cases hb : m.back k = some b
  · have e : (m.put k b).cells = m.cells.filter (fun c => decide (c.1 ≠ k)) := by simp only [MemSt.put, if_pos hb]
    unfold MemSt.byte
    rw [e, hf]
    exact hb
  · have e : (m.put k b).cells = sins k b m.cells := by simp only [MemSt.put, if_neg hb]
    unfold MemSt.byte
    rw [e, hs]

/-- A byte write leaves every other byte alone. -/
theorem MemSt.byte_put_other (m : MemSt) (k j : Nat) (b : Byte) (h : j ≠ k) : (m.put k b).byte j = m.byte j := by
  have hs : ∀ l : List Host.Cell, (sins k b l).find? (fun c => decide (c.1 = j)) = l.find? (fun c => decide (c.1 = j)) := by
    intro l
    have h' : ¬ k = j := fun hh => h hh.symm
    induction l with
    | nil => simp [sins, h']
    | cons e r ih =>
      unfold sins
      split
      · simp [List.find?, h']
      · split
        · rename_i h2; simp [List.find?, h', h2]
        · simp only [List.find?, ih]
  have hf : ∀ l : List Host.Cell, (l.filter (fun c => decide (c.1 ≠ k))).find? (fun c => decide (c.1 = j))
      = l.find? (fun c => decide (c.1 = j)) := by
    intro l
    induction l with
    | nil => rfl
    | cons e r ih =>
      by_cases he : e.1 = j
      · have : e.1 ≠ k := by omega
        simp [List.filter, List.find?, he, h]
      · by_cases hk : e.1 = k
        · simp only [List.filter, hk, ne_eq, not_true, decide_false, List.find?]
          rw [ih]; simp [show ¬ k = j from fun hh => h hh.symm]
        · simp only [List.filter, hk, ne_eq, not_false_eq_true, decide_true, List.find?, he, decide_false]
          exact ih
  have e : (m.put k b).cells.find? (fun c => decide (c.1 = j)) = m.cells.find? (fun c => decide (c.1 = j)) := by
    by_cases hb : m.back k = some b
    · have e : (m.put k b).cells = m.cells.filter (fun c => decide (c.1 ≠ k)) := by simp only [MemSt.put, if_pos hb]
      rw [e, hf]
    · have e : (m.put k b).cells = sins k b m.cells := by simp only [MemSt.put, if_neg hb]
      rw [e, hs]
  unfold MemSt.byte
  rw [e]
  rfl

/-- A memory whose listed cells lie outside a filled range keeps its canonical form. -/
theorem cellsWf_fill (m n : MemSt) (a b v : Nat) (l : List Host.Cell) (hb : n.bg = segSet a b v m.bg)
    (h : cellsWf m l = true) :
    cellsWf n (l.filter (fun c => decide (c.1 < a) || decide (b ≤ c.1))) = true := by
  refine cellsWf_congr m n _ ?_ (cellsWf_filter m _ _ h)
  intro e he
  have := (List.mem_filter.1 he).2
  simp only [Bool.or_eq_true, decide_eq_true_eq] at this
  unfold MemSt.back
  rw [hb, segGet_segSet_out a b v e.1 _ this]

/-- A change of the memory that leaves cells and background alone keeps the canonical form. -/
theorem MemSt.wf_of_same (m n : MemSt) (hc : n.cells = m.cells) (hb : n.bg = m.bg) (h : m.wf = true) : n.wf = true := by
  unfold MemSt.wf at *
  rw [hc]
  exact cellsWf_congr m n _ (fun e _ => by unfold MemSt.back; rw [hb]) h

/-- A write of one byte of an SRAM-class memory keeps the canonical form. -/
theorem State.wf_smPut (s : State) (code addr : Nat) (b : Byte) (h : s.mem.wf = true) : (s.smPut code addr b).mem.wf = true := by
  have e : ∀ m : MemSt, m.wf = true → ∀ f, ({ m.put (memKey code addr) b with flips := f } : MemSt).wf = true := by
    intro m hm f
    exact MemSt.wf_of_same (m.put (memKey code addr) b) _ rfl rfl (MemSt.wf_put m _ b hm)
  unfold State.smPut
  dsimp only
  generalize (s.flag Reg.seccInject 31 && decide (s.fld Reg.seccInject 28 24 = code)) = armed
  cases armed
  · exact e _ h _
  · exact e _ h _

/-- A write of bytes of an SRAM-class memory keeps the canonical form. -/
theorem State.wf_smWrite (s : State) (code a : Nat) (bs : List Byte) (h : s.mem.wf = true) : (s.smWrite code a bs).mem.wf = true := by
  induction bs generalizing s a with
  | nil => exact h
  | cons b r ih => exact ih _ _ (State.wf_smPut s code a b h)

/-- A fill of an SRAM-class memory keeps the canonical form. -/
theorem State.wf_smFill (s : State) (code lo hi : Nat) (pat : Option Word) (h : s.mem.wf = true) :
    (s.smFill code lo hi pat).mem.wf = true := by
  have e : ∀ (c : Prop) [Decidable c] (t u : State), t.mem.wf = true → u.mem.wf = true → (if c then t else u).mem.wf = true := by
    intro c _ t u ht hu; split <;> assumption
  unfold State.smFill
  exact e _ _ _ (MemSt.wf_of_same _ _ rfl rfl (cellsWf_fill s.mem _ _ _ _ _ rfl h)) (cellsWf_fill s.mem _ _ _ _ _ rfl h)

theorem MemSt.wf_puts (bs : List Byte) (x : MemSt × Nat) (h : x.1.wf = true) :
    (bs.foldl (fun (a : MemSt × Nat) b => (a.1.put a.2 b, a.2 + 1)) x).1.wf = true := by
  induction bs generalizing x with
  | nil => exact h
  | cons b r ih => exact ih _ (MemSt.wf_put _ _ _ h)

/-- An encoding of a DRAM page keeps the canonical form. -/
theorem State.wf_pagePut (s : State) (page off : Nat) (bytes : List Byte) (md : List DWord) (h : s.mem.wf = true) :
    (s.pagePut page off bytes md).mem.wf = true := by
  have e : ∀ (c : Prop) [Decidable c] (t u : State), t.mem.wf = true → u.mem.wf = true → (if c then t else u).mem.wf = true := by
    intro c _ t u ht hu; split <;> assumption
  have fresh : (if decide (segGet page s.mem.written = 0) = true then s.updMem (fun m => { m with
      cells := m.cells.filter (fun c => decide (c.1 < memKey 25 (page * 2048)) || decide (memKey 25 (page * 2048) + 2048 ≤ c.1))
      bg := segSet (memKey 25 (page * 2048)) (memKey 25 (page * 2048) + 2048) 1 m.bg }) else s).mem.wf = true :=
    e _ _ _ (cellsWf_fill s.mem _ _ _ _ _ rfl h) h
  unfold State.pagePut
  refine e _ _ _ ?_ ?_
  · refine MemSt.wf_of_same _ _ ?_ ?_ (MemSt.wf_puts bytes (_, memKey 25 (page * 2048) + off) fresh) <;> rfl
  · refine MemSt.wf_of_same _ _ ?_ ?_ (MemSt.wf_puts bytes (_, memKey 25 (page * 2048) + off) fresh) <;> rfl

/-- A fill of a DRAM range keeps the canonical form. -/
theorem State.wf_dramFill (s : State) (lo hi : Nat) (pat : Option Word) (h : s.mem.wf = true) :
    (s.dramFill lo hi pat).mem.wf = true := by
  have e : ∀ (c : Prop) [Decidable c] (t u : State), t.mem.wf = true → u.mem.wf = true → (if c then t else u).mem.wf = true := by
    intro c _ t u ht hu; split <;> assumption
  unfold State.dramFill
  cases pat with
  | none => exact cellsWf_fill s.mem _ _ _ _ _ rfl h
  | some w =>
    exact e _ _ _ (MemSt.wf_of_same _ _ rfl rfl (cellsWf_fill s.mem _ _ _ _ _ rfl h)) (cellsWf_fill s.mem _ _ _ _ _ rfl h)

/-- Memory after reset is canonical. -/
theorem State.wf_reset : State.reset.mem.wf = true := rfl

end Sys2Proof.Machine
end

