-- ==== Sys2Proof/Laws/Evb.lean ====
section
/-!
SUPPORT. The laws of the event store: which places a word may take, and that header words find their places while there is room.
-/
namespace Sys2Proof.Machine

/-- A place that is picked is free and in the store (R425). -/
theorem pickPlace_free {cap hint p : Nat} {used : List Nat} (h : pickPlace cap used hint = some p) : p < cap ∧ p ∉ used := by
  unfold pickPlace at h
  split at h
  · next hc =>
    cases h
    exact ⟨Nat.mod_lt _ hc.2, hc.1⟩
  · have hm := List.mem_of_find?_eq_some h
    have hp := List.find?_some h
    simp only [List.mem_range, Nat.lt_min] at hm
    exact ⟨hm.1, by simpa using hp⟩

/-- A place is found while fewer places are in use than the store has (R425). -/
theorem pickPlace_isSome {cap hint : Nat} {used : List Nat} (h : used.length < cap) : (pickPlace cap used hint).isSome = true := by
  unfold pickPlace
  split
  · rfl
  · rw [List.find?_isSome]
    by_contra hn
    have hall : ∀ i < used.length + 1, i ∈ used := by
      intro i hi
      by_contra hu
      exact hn ⟨i, by
        show i ∈ List.range (min cap (used.length + 1))
        rw [List.mem_range]; omega, by simpa using hu⟩
    have hsub : List.range (used.length + 1) ⊆ used := fun i hi => hall i (List.mem_range.mp hi)
    have := (List.nodup_range.subperm hsub).length_le
    simp at this

/-- The part of a state that the choice of a place depends on is the same in `t` as in `s` (R425). -/
def sameStore (s t : State) : Prop := t.evb = s.evb ∧ t.lane = s.lane ∧ t.rd Reg.evbStore = s.rd Reg.evbStore

theorem sameStore.trans {s t u : State} (h : sameStore s t) (k : sameStore t u) : sameStore s u :=
  ⟨k.1.trans h.1, k.2.1.trans h.2.1, k.2.2.trans h.2.2⟩

/-- A write into the memories leaves the event builder's own state, its store and the lanes alone. -/
theorem State.smWrite_sameStore (s : State) (c : Nat) (bs : List Byte) (a : Nat) : sameStore s (s.smWrite c a bs) := by
  induction bs generalizing s a with
  | nil => exact ⟨rfl, rfl, rfl⟩
  | cons b r ih =>
    refine sameStore.trans ?_ (ih (s.smPut c a b) (a + 1))
    unfold State.smPut
    dsimp only
    split
    · exact ⟨rfl, rfl, State.rd_setFlag_other _ _ _ _ _ (by decide)⟩
    · exact ⟨rfl, rfl, rfl⟩

/-- A loss counted on either side of the crossing between the event builder and the memory leaves them alone (R43). -/
theorem State.crossLost_sameStore (s : State) (n : Nat) : sameStore s (s.crossLost 17 18 n) ∧ sameStore s (s.crossLost 18 17 n) := by
  have hs : ∀ (k p b : Nat), Reg.evbStore ≠ k → Reg.evbStore ≠ Reg.sticky p → sameStore s ((s.incSatBy k n).stick p b) :=
    fun k p b hk hp => ⟨rfl, rfl, (State.rd_stick_other _ p b _ hp).trans (State.rd_wr_other _ _ _ _ hk)⟩
  constructor <;> unfold State.crossLost <;> split
  · exact ⟨rfl, rfl, rfl⟩
  · rw [if_neg (by decide), if_neg (by decide)]
    exact hs _ _ _ (by decide) (by decide)
  · exact ⟨rfl, rfl, rfl⟩
  · rw [if_neg (by decide), if_neg (by decide)]
    exact hs _ _ _ (by decide) (by decide)

/-- A transfer lost between the event builder and the memory leaves them alone (R43). -/
theorem State.xferLost_sameStore (s : State) : sameStore s (s.xferLost 17 18) := by
  unfold State.xferLost
  split
  · exact ⟨rfl, rfl, rfl⟩
  · dsimp only
    rw [if_neg (by decide)]
    split
    · exact (s.crossLost_sameStore 1).2
    · exact (s.crossLost_sameStore 1).1

/-- A write from the event builder into the hub SRAM leaves its own state, its store and the lanes alone. -/
theorem State.memPut_sameStore (s : State) (a : Nat) (bs : List Byte) : sameStore s (s.memPut 17 a bs) := by
  unfold State.memPut State.offer
  by_cases h : (s.sealedOff 17 || s.sealedOff 18) = true
  · exact (if_pos (c := (s.sealedOff 17 || s.sealedOff 18) = true) h).symm ▸ s.xferLost_sameStore
  · refine (if_neg (c := (s.sealedOff 17 || s.sealedOff 18) = true) h).symm ▸ ?_
    split
    · exact s.smWrite_sameStore 0 bs a
    · exact ⟨rfl, rfl, rfl⟩

/-- A header word that finds a place leaves the known events, the lanes and the store's size alone (R425). -/
theorem State.storePut_some {s : State} {w : DWord} (h : s.storeUsed.length < s.fld Reg.evbStore 25 16 * 8192) :
    ∃ p t, s.storePut w = (t, some p) ∧ sameStore s t := by
  obtain ⟨p, hp⟩ := Option.isSome_iff_exists.mp (pickPlace_isSome (hint := Config.freeNat s.fresh) h)
  have hd : sameStore s s.draw := ⟨rfl, rfl, rfl⟩
  refine ⟨p, s.draw.memPut 17 (s.fld Reg.evbStore 9 0 * 65536 + 8 * p) (leBytes 8 w.toNat), ?_,
    hd.trans (s.draw.memPut_sameStore _ _)⟩
  simp only [State.storePut, hp]

/-- One more place in the body of the one event of a number takes one place of the store. -/
theorem usedLength_addBody (n p : Nat) (l : List Ev) (h : (l.filter (fun v => decide (v.num = n))).length ≤ 1) :
    ((l.map (fun v => if v.num = n then { v with body := v.body ++ [p] } else v)).flatMap
      (fun v => v.words.map (fun w => w.place) ++ v.body)).length ≤
    (l.flatMap (fun v => v.words.map (fun w => w.place) ++ v.body)).length + (l.filter (fun v => decide (v.num = n))).length := by
  induction l with
  | nil => simp
  | cons v r ih =>
    by_cases hv : v.num = n
    · simp only [List.filter_cons, hv, decide_true, if_true, List.length_cons] at h
      have := ih (by omega)
      simp only [List.map_cons, hv, if_true, List.flatMap_cons, List.length_append, List.length_map, List.filter_cons,
        decide_true, List.length_cons, List.length_nil] at this ⊢
      omega
    · simp only [List.filter_cons, hv, decide_false, Bool.false_eq_true, if_false] at h
      have := ih h
      simp only [List.map_cons, hv, if_false, List.flatMap_cons, List.length_append, List.length_map, List.filter_cons,
        decide_false, Bool.false_eq_true] at this ⊢
      omega

/-- The header words of an event all find places while the store has room for them (R425). -/
theorem State.evPlace_isSome (n : Nat) (l : List (Nat ⊕ DWord)) (i : Nat) (s : State)
    (h1 : (s.evb.evs.filter (fun v => decide (v.num = n))).length ≤ 1)
    (h2 : s.storeUsed.length + l.length ≤ s.fld Reg.evbStore 25 16 * 8192) : (s.evPlace n l i).2.isSome = true := by
  induction l generalizing s i with
  | nil => rfl
  | cons x r ih =>
    rw [List.length_cons] at h2
    cases x with
    | inl p =>
      have := ih (i + 1) s h1 (by omega)
      simpa [State.evPlace] using this
    | inr w =>
      obtain ⟨p, t, hp, he, hl, hr⟩ := State.storePut_some (s := s) (w := w) (by omega)
      have hu : (t.updEv n (fun v => { v with body := v.body ++ [p] })).storeUsed.length ≤ s.storeUsed.length + 1 := by
        have := usedLength_addBody n p s.evb.evs h1
        simp only [State.storeUsed, State.updEv, State.updEvb, he, hl, List.length_append] at this ⊢
        omega
      have hf : (t.updEv n (fun v => { v with body := v.body ++ [p] })).fld Reg.evbStore 25 16 = s.fld Reg.evbStore 25 16 :=
        congrArg (fun x => wfld x 25 16) hr
      have hc : ((t.updEv n (fun v => { v with body := v.body ++ [p] })).evb.evs.filter
          (fun v => decide (v.num = n))).length ≤ 1 := by
        have : ∀ l : List Ev, ((l.map (fun v => if v.num = n then { v with body := v.body ++ [p] } else v)).filter
            (fun v => decide (v.num = n))).length = (l.filter (fun v => decide (v.num = n))).length := by
          intro l
          induction l with
          | nil => rfl
          | cons v r ih => by_cases hv : v.num = n <;> simp [hv, ih]
        simp only [State.updEv, State.updEvb, he, this]
        exact h1
      have := ih (i + 1) _ hc (by rw [hf]; omega)
      simpa [State.evPlace, hp] using this

end Sys2Proof.Machine
end

