-- ==== Sys2Proof/Laws/Serial.lean ====
section
/-!
SUPPORT. The scrambler and the block format of the 64b/66b lanes: what is sent is what is received.
-/
namespace Sys2Proof.Machine

@[simp] theorem bitsOf_length (n v : Nat) : (bitsOf n v).length = n := by
  induction n generalizing v with
  | zero => rfl
  | succ n ih => simp [bitsOf, ih]

theorem bitsNat_bitsOf (n v : Nat) : bitsNat (bitsOf n v) = v % 2 ^ n := by
  induction n generalizing v with
  | zero => simp [bitsOf, bitsNat, Nat.mod_one]
  | succ n ih =>
    simp only [bitsOf, bitsNat, ih, Nat.pow_succ']
    rw [Nat.mod_mul]
    rcases Nat.mod_two_eq_zero_or_one v with h | h <;> simp [h]

/-- A receiver that has seen the bits before descrambles what was scrambled. -/
@[simp] theorem descramble_scramble (st : Nat) (bs : List Bool) : descramble st (scramble st bs) = bs := by
  induction bs generalizing st with
  | nil => rfl
  | cons b r ih =>
    simp only [scramble, descramble, ih]
    cases b <;> cases scramTap st <;> rfl

/-- A block received is the block sent: its kind and its payload. -/
theorem readBlock_lineBlock (st : Nat) (data : Bool) (w : DWord) : readBlock st (lineBlock st data w) = (some data, w) := by
  have h2 : (bitsOf 2 (if data then 1 else 2)).length = 2 := by simp
  have ht : (lineBlock st data w).take 2 = bitsOf 2 (if data then 1 else 2) := by
    rw [lineBlock, List.take_append_of_le_length (by simp), List.take_of_length_le (by simp)]
  have hd : (lineBlock st data w).drop 2 = scramble st (bitsOf 64 w.toNat) := by
    rw [lineBlock, List.drop_append_of_le_length (by simp), List.drop_of_length_le (by simp), List.nil_append]
  simp only [readBlock, ht, hd, descramble_scramble, bitsNat_bitsOf]
  cases data <;> simp [Nat.mod_eq_of_lt w.isLt]

end Sys2Proof.Machine
end

