-- ==== Sys2Proof/Tests/Base.lean ====
section
/-!
SUPPORT. The small states of the tests: a module that runs, with a list of register values put into it.
-/
open Sys2Proof Sys2Proof.Machine
namespace Sys2Proof.Tests

/-- Register values put into a state. -/
def regs (s : State) (ws : List (Nat × Nat)) : State := ws.foldl (fun s e => s.wr e.1 (word e.2)) s

/-- A module out of reset: both ports up, the time bases running at tick 1,000,000 in frame 15, steward A ACTIVE and steward
B STANDBY with its mirror current. -/
def live : State :=
  let p : Port := { linkUp := true, msixEn := true }
  regs { State.reset with
    fab := { State.reset.fab with inReset := 0, isSealed := 0, cfgRetry := false, port0 := p, port1 := p }
    time := { State.reset.time with running := true, xtal := true, up := 1000000, mtime := 1000000, frame := 15, frameNext := 16 } }
    [(Reg.stwRole, 0x223), (Reg.sysStatus, 0x60), (Reg.clkStatus, 0x65), (Reg.stwHcfg, 0x01000000)]

/-- That module with register values. -/
def st (ws : List (Nat × Nat)) : State := regs live ws

/-- A state with pages in ownership states other than their reset ones. -/
def owning (s : State) (l : List (Nat × Owner)) : State := { s with fab := { s.fab with own := l } }

/-- A state with islands in reset (with their crossings sealed) and islands whose clock has stopped. -/
def islands (s : State) (down stopped : BitVec 28) : State :=
  { s with fab := { s.fab with inReset := down, isSealed := down, stopped := stopped } }

/-- The running module with an interrupt of SLOW asserted and routed to vector 3 of port 0, which may send. -/
def irqOn : State :=
  let s := st [(Reg.irqRoute 0 40, 0x83), (Reg.intStat Pg.slow, 1), (Reg.intEn Pg.slow, 1)]
  { s with fab := { s.fab with port0 := { s.fab.port0 with table := [(60, 0)] } } }

/-- The running module with command queue 2 enabled at SRAM 0x1_0000 and a command of these words posted in it. -/
def cmdSt (ws : List Word) : State :=
  let s := st [(Reg.qcmdCtl 2, 1), (Reg.qcmdBase 2, 0x10), (Reg.qcmdPosted 2, 1)]
  (owning s [(0xA0, .held .pcie0)]).smWrite 0 0x10040 ((ws ++ List.replicate (16 - ws.length) 0).flatMap wordBytes)

/-- The same queue, whose only command lies in a granule with two flipped bits. -/
def cmdBad : State :=
  let s := cmdSt [0x30000007]
  { s with mem := { s.mem with flips := [(memKey 0 0x10045, 3)] } }

/-- The sixteen words of that command. -/
def cmdWords (ws : List Word) : List Word := ws ++ List.replicate (16 - ws.length) 0

/-- The running module with one channel's hit former set. -/
def chans (s : State) (n c : Nat) (x : Chan) : State := { s with det := { s.det with chans := sset {} (n * 128 + c) x s.det.chans } }

/-- The running module with one tile's own state set. -/
def tileWith (s : State) (n : Nat) (x : Tile) : State := { s with det := { s.det with tiles := sset {} n x s.det.tiles } }

/-- The running module with one tile link set. -/
def linkWith (s : State) (n : Nat) (x : Link) : State := { s with det := { s.det with links := sset {} n x s.det.links } }

/-- A calibration histogram of 384 raw codes, 4,096 counts in each of the first 256. -/
def flatHist : List Nat := List.replicate 256 4096 ++ List.replicate 128 0

/-- It gives a table. -/
theorem flatHist_passes : (lutOf flatHist).isSome = true := by decide +kernel

/-- It gives the same table when it is gathered in the background with nothing gathered before. -/
theorem flatHist_gathered : lutOf (histOf [] flatHist) = some ((lutOf flatHist).getD []) := by
  obtain ⟨l, hl⟩ := Option.isSome_iff_exists.mp flatHist_passes
  rw [show histOf [] flatHist = flatHist by decide +kernel, hl, Option.getD_some]

/-- The running module with modes in force from frame 0 on. -/
def inMode (m : Nat) (ws : List (Nat × Nat)) : State :=
  let s := st ((Reg.modeCurrent, m) :: ws)
  { s with mode := { s.mode with hist := [(0, m, false)] } }

/-- A state in which dispatch group 0 still holds the marker of frame 14 in Stream. -/
def before (s : State) : State := { s with eng := { s.eng with todo := [(0, [(14, 2)])] } }

/-- A configuration image for any module, with SEQ 5, image version 7 and no section (R646, R650). -/
def cfgImg : List Byte :=
  [0x4E, 0x52, 0x43, 0x46, 1, 0, 64, 0, 68, 0, 0, 0, 0xFF, 0xFF, 0, 0, 5, 0, 0, 0, 7, 0, 0, 0] ++ List.replicate 40 0 ++
    [0xAD, 0x85, 0x43, 0xC4]

/-- That image staged at SRAM 0x1_0000, the recovery firmware running. -/
def staged : State := (st [(Reg.updBanks, 0x200)]).smWrite 0 0x10000 cfgImg

/-- A campaign of ageing measurements that takes five ticks. -/
def camp : AgeMeas := { osc := [], rail := [], dly := [], eyes := [], drx := [], ticks := [5] }

/-- A campaign whose step in progress is due, its margins 20 and then 60 ‰ where CCRIT is 1,000, with the rail steps `rail`. -/
def campRun (rail : List (Option (Bool × Int × Nat))) : AgeRun :=
  { meas := { camp with osc := [List.replicate 24 1020, List.replicate 24 1060], rail := rail, ticks := List.replicate 6 1000000000000 }
    xstart := 5, start := 0, due := 0 }

/-- A module with campaign `y` in step `i`. -/
def campaigning (i : Nat) (y : AgeRun) (rows : List (Nat × Nat)) : State :=
  { st ((Reg.ageStat, 2 ^ 31 + i * 2 ^ 24) :: (List.range 24).map (fun k => (Reg.ageCcrit k, 1000)) ++ rows) with
    age := { rail0 := some (0x40, 0), run := some y } }

/-- A start-up whose reads of both configuration copies complete. -/
def boot : StartupData := { flashId := 0xEF4018, readOk0 := true, readOk1 := true, idm := [], vout := 720, ticks := 0 }

/-- The running module with its trigger bus set up in slot `n`, both pairs on. -/
def tbusOn (n : Nat) (ws : List (Nat × Nat)) : State := st ((Reg.tbusCtl, 15) :: (Reg.tbusStatus, n) :: ws)

/-- An engine that runs a program in Stream, with numbers in its registers. -/
def eng1 : Eng := { prog := some 2, regs := [(1, 0x80000005), (2, 0xFFFFFFFE), (4, 0x12345678), (5, 9)] }

/-- The running module with engine `e` in a state, the word `w` at its PC and bytes at address 0 of its cluster's data memory. -/
def engOn (e : Nat) (w : Word) (x : Eng) (data : List Byte) : State :=
  let s := { live with eng := { live.eng with engs := [(e, x)] } }
  (s.smWrite (13 + e / 8) (imemAddr e x.pc) (wordBytes w)).smWrite (1 + e / 8) 0 data

/-- A state with one time-interval unit set. -/
def tiuHeld (s : State) (u : Nat) (x : TiuUnit) : State := { s with tiu := { s.tiu with units := sset {} u x s.tiu.units } }

/-- A state with one compressor stream set. -/
def stream (s : State) (k : Nat) (x : RleStream) : State := s.setRle k x

/-- A state with register values and events of the event builder. -/
def evs (s : State) (ws : List (Nat × Nat)) (l : List Ev) : State :=
  let s := regs s ws
  { s with evb := { s.evb with evs := l } }

/-- The running module in a mode, every engine having passed its markers up to frame `f` - 1. -/
def passedAll (m f : Nat) : State :=
  let s := inMode m []
  { s with eng := { s.eng with engs := (List.range 96).map (fun e => (e, { passed := [(m, f)] })) } }

/-- The running module with its mirror channel in a state. -/
def mirSt (ws : List (Nat × Nat)) (m : MirrorSt) : State :=
  let s := st ws
  { s with stw := { s.stw with mir := m } }

/-- The CRC of a mirror message (R617). -/
def crcOf (m : MirMsg) : Word := crc32c m.body

/-- An ITEM with SEQ 7, and an END. -/
def item7 : MirMsg := { kind := 1, item := 4, mfmt := 1, seq := 7, offset := 0xFFFFFFF0, data := [1, 2, 3] }
def end7 : MirMsg := { kind := 4, seq := 7 }

/-- The places of an event's words and its header positions once it is written out. -/
def evBody (s : State) (n : Nat) : List Nat × List Nat :=
  match s.ev? n with
  | some v => (s.evPlace n (s.evWords v) 0).2.getD ([], [])
  | none => ([], [])

/-- Those places are where the event's words go. -/
theorem evBody_spec (s : State) (n : Nat) (v : Ev) (hv : s.ev? n = some v)
    (h : (s.evPlace n (s.evWords v) 0).2.isSome = true) :
    (s.evPlace n (s.evWords v) 0).2 = some ((evBody s n).1, (evBody s n).2) := by
  obtain ⟨x, hx⟩ := Option.isSome_iff_exists.mp h
  simp [evBody, hv, hx]

end Sys2Proof.Tests
end

