-- ==== Sys2Proof/WellFormed.lean ====
section
/-!
DEFINITION. Which operands a command may carry: the ranges that the types of its operands do not already say.
-/
namespace Sys2Proof

/-- A BAR0 offset that a 32-bit access may name (R77, R78). -/
def bar0Offset (a : Nat) : Bool := decide (a < 0x1000000) && decide (a % 4 = 0)

/-- A page with a common header (R83). -/
def headerPage (p : Nat) : Bool := decide (p < 0x100)

/-- `n` bytes from `a` on lie inside BAR2 or BAR4 (R77). -/
def inBar (bar4 : Bool) (a n : Nat) : Bool := decide (1 ≤ n) && decide (a + n ≤ if bar4 then 0x200000000 else 0x4000000)

/-- No tile occurs twice in a list of records. -/
def distinctTiles {α : Type} : List (Fin 16 × α) → Bool
  | [] => true
  | x :: r => r.all (fun y => decide (y.1 ≠ x.1)) && distinctTiles r

/-- What a list of identity records must be: one record a tile, with 64 bytes where bytes were read (R628). -/
def idmRecords (l : List (Fin 16 × Fin 5 × List Byte)) : Bool :=
  distinctTiles l && l.all (fun r => decide (r.2.1 = 2) || decide (r.2.1 = 4) || decide (r.2.2.length = 64))

/-- The operands of a command lie in the ranges of the manual. -/
def Instr.wellFormed : Instr → Bool
  | .registerWrite _ a _ => bar0Offset a
  | .readLoLatchHi _ a => bar0Offset a
  | .stoppedIslandRead _ a => bar0Offset a
  | .pageReset _ p => headerPage p
  | .pageResetComplete p => headerPage p
  | .pageLock _ p => headerPage p
  | .intForce _ p _ => headerPage p
  | .barMemoryRead _ b a n => inBar b a n
  | .barMemoryWrite _ b a ds => inBar b a ds.length
  | .frameStart hub tiles => decide (hub.length ≤ 3) && tiles.all (fun v => decide (v.2.1 < 8)) && hub.all (fun v => decide (v.1 < 8))
  | .thermalSample _ _ ts => decide (ts.length = 16)
  | .idmReadDone l => idmRecords l
  | .startupSequence x => idmRecords x.idm
  | _ => true

end Sys2Proof
end

