-- ==== Sys2Proof/Tests/Slice0.lean ====
section
/-!
SUPPORT. Tests: ill-formed commands are refused by each check of WellFormed, and single commands and operations give the values of
the manual's worked examples. No expected value comes from the model.
-/
set_option maxRecDepth 100000
set_option Elab.async false
open Sys2Proof Sys2Proof.Machine
namespace Sys2Proof.Tests

/-! Commands that WellFormed refuses, one for each check. -/

theorem test_wf_registerWrite_offset_is_aligned : (Instr.registerWrite (.port 0) 0x42 0).wellFormed = false := by decide
theorem test_wf_registerWrite_offset_is_in_bar0 : (Instr.registerWrite (.port 0) 0x1000000 0).wellFormed = false := by decide
theorem test_wf_registerWrite : (Instr.registerWrite (.port 0) 0xFFFFFC 0).wellFormed = true := by decide
theorem test_wf_readLoLatchHi : (Instr.readLoLatchHi (.port 0) 0x41).wellFormed = false := by decide
theorem test_wf_stoppedIslandRead : (Instr.stoppedIslandRead .downlink 0x1000004).wellFormed = false := by decide
theorem test_wf_pageReset : (Instr.pageReset .stw 0x100).wellFormed = false := by decide
theorem test_wf_pageResetComplete : (Instr.pageResetComplete 0x100).wellFormed = false := by decide
theorem test_wf_pageLock : (Instr.pageLock .dl 0x100).wellFormed = false := by decide
theorem test_wf_intForce : (Instr.intForce .pcie1 0x100 1).wellFormed = false := by decide
theorem test_wf_barMemoryRead_is_not_empty : (Instr.barMemoryRead 0 false 0 0).wellFormed = false := by decide
theorem test_wf_barMemoryRead_ends_in_bar2 : (Instr.barMemoryRead 0 false 0x3FFFFFF 2).wellFormed = false := by decide
theorem test_wf_barMemoryRead_bar4_is_larger : (Instr.barMemoryRead 0 true 0x3FFFFFF 2).wellFormed = true := by decide
theorem test_wf_barMemoryWrite : (Instr.barMemoryWrite 1 true 0x200000000 [some 1]).wellFormed = false := by decide
theorem test_wf_frameStart_hub_votes : (Instr.frameStart (List.replicate 4 (1, false)) []).wellFormed = false := by decide
theorem test_wf_frameStart_hub_mode : (Instr.frameStart [(8, false)] []).wellFormed = false := by decide
theorem test_wf_frameStart_tile_mode : (Instr.frameStart [] [(3, 8, false)]).wellFormed = false := by decide
theorem test_wf_thermalSample : (Instr.thermalSample 0 0 []).wellFormed = false := by decide
theorem test_wf_idmReadDone_length : (Instr.idmReadDone [(3, 1, [])]).wellFormed = false := by decide +kernel
theorem test_wf_idmReadDone_tiles : (Instr.idmReadDone [(3, 2, []), (3, 4, [])]).wellFormed = false := by decide +kernel
theorem test_wf_startupSequence : (Instr.startupSequence { boot with idm := [(0, 0, [])] }).wellFormed = false := by decide +kernel

/-! The manual's worked examples. -/

/-- A field of the state that a command leaves. -/
def after {α : Type} (i : Instr) (s : State) (f : State → α) : Option α :=
  match exec i s with
  | .next t => some (f t)
  | _ => none

/-- The hit of tile 5, channel 37 as its THL trailing edge comes: chapter 6, "a hit word and its frame header". -/
def hit5 : State :=
  let lead := 19660810768 * 256 + 156
  let s := st [(Reg.tileStatus 5, 4)]
  chans (tileWith s 5 { luts := [(4, List.range 256)], liveFrom := some 299990, sendFrame := 300000 }) 5 37
    { thlHigh := true, thlLast := some lead, leadLast := some lead, hit := some { lead := lead, thu := some (lead + 430) } }

/-- 10.5 ns, 21 ticks, after its leading edge the hit closes with the word 0x4A0A_8427_06B8_1500 of frame 300,000. -/
theorem test_hit_word_of_tile_5 :
    after (.thlTrailingEdge 5 37 19660810789 156) hit5 (fun t => (t.chan 5 37).done.map (fun d => (d.word, d.frame))) =
      some [(0x4A0A842706B81500, 300000)] := by decide +kernel

/-- The header words of the same example: 2,310 words and 3 dead-time edges in the frame before. -/
theorem test_frame_header_of_tile_5 :
    (tileWith live 5 { cnts := [(299999, { hits := 2310, pile := 3 })] }).frameHeader 5 300000 =
      (0x51000000000493E0, 0x2418000000030000) := by decide +kernel

/-- Chapter 6, "walk correction of the hit above": K = 0x0746 gives T0 = 0x002A_0FD9 and a set flag. -/
theorem test_walk_of_tile_5 : walkT0 0x4A0A842706B81500 0x0746 = (0x002A0FD9, true) := by decide

/-- An engine of mode 2 with a hit word of tile 5 in hand, that word in g2 and g3, and further registers. -/
def engHit (w : Word) (regs : List (Nat × Word)) (data : List Byte) : State :=
  engOn 0 w { prog := some 2, regs := (2, 0x06B81500) :: (3, 0x4A0A8427) :: regs,
              hit := { tile := 5, word := 0x4A0A842706B81500, ctxA := 0x802A0CA0, ctxB := 0x802A2000 },
              unit := some { tile := 5, word := 0x4A0A842706B81500 } } data

/-- Register `d` and the flag K of engine 0. -/
def gk (d : Nat) (t : State) : Word × Bool := ((t.engine 0).g d, (t.engine 0).fl.k)

/-- Chapter 10, "the hit of tile 5, channel 37": WALK reads K at g20 + 1,354 (HIDX 677). The table starts at address 0 here. -/
theorem test_walk_reads_the_table_by_hidx :
    after (.walk 0 6 2 20) ((engHit 0xC0C2A007 [] []).smWrite 1 1354 [0x46, 0x07]) (gk 6) =
      some (0x002A0FD9, true) := by decide +kernel

/-- Step 2 of the same example: T0C = T0 - 12. -/
theorem test_sub_of_the_delay :
    after (.sub 0 6 6 7) (engHit 0x00C63801 [(6, 0x002A0FD9), (7, 12)] []) (gk 6) = some (0x002A0FCD, false) := by
  decide +kernel

/-- Step 3 of the same example: bits 31:28 of g8 become T0C[3:0]. -/
theorem test_bfi_of_step_3 :
    after (.bfi 0 8 6 28 3) (engHit 0x0D06E003 [(6, 0x002A0FCD), (8, 0x01AE0540)] []) (gk 8) =
      some (0xD1AE0540, false) := by decide +kernel

/-- Chapter 10, "linking channel 37": context A is 1,020 bins away, below 2,048; context B is 3,940 bins away. The words are
those of the program's table. -/
theorem test_near_links_neighbour_a :
    after (.near 0 4 0 20) (engHit 0xC080A008 [(20, 0x800)] []) (gk 4) = some (1, true) := by decide +kernel
theorem test_near_does_not_link_neighbour_b :
    after (.near 0 5 1 20) (engHit 0xC0A1A008 [(20, 0x800)] []) (gk 5) = some (0, false) := by decide +kernel

/-- The word at 0x004 of that program puts g4 into bit 3 of g2: 0x06B8_1508. -/
theorem test_bfi_sets_the_link_bit :
    after (.bfi 0 2 4 3 0) (engHit 0x0C441800 [(4, 1)] []) (gk 2) = some (0x06B81508, false) := by decide +kernel

/-- The word at 0x000 of that program. -/
theorem test_addi_of_the_start_segment :
    after (.addi 0 20 0 0x800) (engHit 0x22800800 [] []) (gk 20) = some (0x800, false) := by decide +kernel

/-- The word at 0x00B of that program branches to loop (0x001). -/
theorem test_br_back_to_loop :
    after (.br 0 0 0x3FFFF5) (engOn 0 0x803FFFF5 { eng1 with pc := 0x00B } []) (fun t => (t.engine 0).pc) = some 1 := by
  decide +kernel

/-- Chapter 6, "a signed and an ambiguous interval", pair 1: the stop edge came 60 ticks less 163 bins before. -/
theorem test_tiu_pair_1 :
    after (.auxEdge 1 5000100 37 true) (tiuHeld (st [(Reg.tiuCtl 0, 0x1211)]) 0 { held := some ⟨true, 5000040 * 256 + 200⟩ })
      (fun t => [Reg.tiuResFlags 0, Reg.tiuResLo 0, Reg.tiuResHi 0, Reg.tiuTfirstLo 0].map t.rd) =
      some [0x0000C800, 0xFFFFC4A3, 0xFFFFFFFF, 0x004C4B68] := by decide +kernel

/-- Pair 2: the start edge is a near edge of the stop edge. -/
theorem test_tiu_pair_2 :
    after (.auxEdge 1 5000200 37 true)
      (let s := tiuHeld (st [(Reg.tiuCtl 0, 0x1211)]) 0 { held := some ⟨true, 5000198 * 256 + 200⟩ }
       let at' := 5000198 * 256 + 200
       { s with tiu := { s.tiu with aux := some ⟨2, at', 0, 0, at', false⟩ } })
      (fun t => [Reg.tiuResFlags 0, Reg.tiuResLo 0, Reg.tiuResHi 0, Reg.tiuTfirstLo 0, Reg.tiuAuxNear].map t.rd) =
      some [0x0000C804, 0x0000015D, 0, 0x004C4C06, 0x00000100] := by decide +kernel

/-- Chapter 8, "delay compensation for slot 5": 256 pairs of mean A 5,424 and mean B 3,376. -/
theorem test_tbus_offset_of_slot_5 :
    after .tbusCalDone
      (let s := tbusOn 5 [(Reg.tbusCalCtl, 1)]
       { s with tbus := { s.tbus with sumAdd := [(0, 256 * 8800), (1, 256 * 8800)], sumSub := [(0, 256 * 2048), (1, 256 * 2048)],
                                      count := [(0, 256), (1, 256)] } })
      (fun t => (t.rd (Reg.tbusOffset 0), t.flag Reg.tbusStatus 8)) = some (0x04001130, true) := by decide +kernel

/-- Chapter 9, "an occupancy map": the code words of the stream. -/
theorem test_rle_codes_of_the_map :
    rleCode true (List.replicate 10 0 ++ List.replicate 4 0x3C ++ [1, 2]) = some ([0x49], 10) ∧
    rleCode true (List.replicate 4 0x3C ++ [1, 2]) = some ([0x82, 0x3C], 4) ∧
    rleCode true [1, 2] = some ([2, 1, 2], 2) := by decide

/-- And its block header and payload. -/
theorem test_rle_block_of_the_map :
    (rleBlock 0x12 0 1024 true [0x49, 0x82, 0x3C, 2, 1, 2] (List.replicate 16 0)).take 22 =
      leBytes 8 0x1400120000000000 ++ leBytes 8 0x0000001000060000 ++ [0x49, 0x82, 0x3C, 2, 1, 2] := by decide

/-- Chapter 9, "record, re-arm and a missed trigger", step 3: the log entry of the host accept in the dead interval. -/
theorem test_hamp_log_of_the_missed_trigger :
    let s := (inMode 4 [(Reg.hampWin, 0x17700FA0), (Reg.hampStatus, 3), (Reg.hampSize, 0x10)]).updAcq (fun a => { a with
      arm := 0x3D0922968, last := some (0x3D0920000, 0x3D0922328) })
    let t := { s with time := { s.time with mtime := 0x3D0922700 } }.hampTrigger 3 0x3D09226C8 0x11
    [Reg.hampLog 0 0, Reg.hampLog 0 1, Reg.hampLog 0 2, Reg.hampLogHead, Reg.hampMissed].map t.rd =
      [0xD09226C8, 3, 0x00116000, 0x00000101, 1] := by decide +kernel

/-- Record 0 of that example: its header words. -/
theorem test_hamp_header_of_record_0 :
    hampHeader { src := 0, id := 2, seq := 0, tick := 0x3D0920BB8, lo := 0x3D0920000, hi := 0x3D0922328, pre := 4000, snap := 0 }
      false 1253 3 0 =
      [0x204, 0x3D0920BB8, 0x3D0920000, 0x3D0922328, 0x0000000BB8177000, 0x000004E500030000, 0, 0] := by decide

/-- Chapter 5, "thresholds and quench for one channel": the effective THL is 18.75 µA, 75 quarter steps. -/
theorem test_effective_threshold_of_channel_37 : effThr 20 0x3B = 75 := by decide

/-- The 394th edge of the window quenches the channel. -/
theorem test_quench_at_the_394th_edge :
    let x : Tile := { cfg := [(Reg.chanCfg 5 37, 0x0048003B), (Reg.chanQlim 5 37, 0x00020189)], monFrom := 15 }
    let s := tileWith (st [(Reg.tileStatus 5, 4)]) 5 x
    let q := fun n => ((chans s 5 37 { count := n, winStart := 15 }).monitorEdge 5 37 1000000 256000000).chan 5 37 |>.quenched
    (q 392, q 393) = (false, true) := by decide +kernel

/-- The identity record of tile 3 in chapter 17, "an identity record and a health frame". -/
def idm3 : List Byte :=
  [0x49, 0x44, 1, 1, 0x87, 0xD6, 0x12, 0, 0, 0, 0, 0, 0x80, 0, 0x0A, 0x0F, 0x54, 1, 0x90, 1, 0x90, 1, 0xD0, 7] ++
    List.replicate 39 0 ++ [0x1B]

/-- Its buffer words and IDM STAT, read against EXPECT_LO 0x0012_D687. The example gives the
addresses of a page 0x0B0; the register map puts IDM at page 0x00B (entry 68). -/
theorem test_identity_record_of_tile_3 :
    after (.idmReadDone [(3, 1, idm3)])
      (let s := st [(Reg.idmExpectLo 3, 0x0012D687), (Reg.idmCmd, 0x80000008)]
       s.updStw (fun x => { x with idm := 8 }))
      (fun t => [Reg.idmRecord 3 0, Reg.idmRecord 3 1, Reg.idmRecord 3 3, Reg.idmRecord 3 4, Reg.idmRecord 3 5,
        Reg.idmRecord 3 15, Reg.idmStat 3].map t.rd) =
      some [0x01014449, 0x0012D687, 0x0F0A0080, 0x01900154, 0x07D00190, 0x1B000000, 0x00010001] := by
  decide +kernel

/-- Bytes 0 to 15 of steward B's health frame of the same example, composed 40 ticks after the frame start. -/
theorem test_health_frame_of_steward_b :
    let s := { live with time := { live.time with mtime := 3200000 * 65536 + 40 } }
    (s.healthBytes 1 100000).take 16 = leBytes 8 0x000186A000000101 ++ leBytes 8 0x00000030D4000028 := by decide +kernel

end Sys2Proof.Tests
end

