-- ==== Sys2Proof/Tests/Witness.lean ====
section
/-!
SUPPORT. A witness of every statement with hypotheses: a concrete state and operands that meet the hypotheses of each of its
clauses together.
-/
set_option maxRecDepth 100000
set_option Elab.async false
open Sys2Proof Sys2Proof.Machine
namespace Sys2Proof.Tests

theorem witness_StepRunsTheFrontCommand :
    ∃ (c : Instr) (r : List Instr) (s : State), s.pending = c :: r :=
  ⟨.snap .pcie0 1, [], { live with pending := [.snap .pcie0 1] }, by decide +kernel⟩

theorem witness_IdleStepLetsATickPass :
    ∃ (s : State), s.pending = [] :=
  ⟨live, by decide +kernel⟩

theorem witness_EveryStepKeepsCanonicalStores :
    ∃ (s : State) (t : State), s.canonical ∧ step s = .next t :=
  ⟨live, live.idle, ⟨by decide +kernel, by decide +kernel⟩, rfl⟩

theorem witness_OnlyPowerOnResetPoisonsMemory :
    (∃ (c : _), c ∈ [Instr.powerOnReset, Instr.brownout]) ∧
    (∃ (code : Nat) (addr : Nat), code < 25 ∧ addr < memSize code) ∧
    (∃ (d : Dom) (v : Word) (c : _), c ∈ [Instr.wrstNReset, Instr.sysResetWrite d v]) ∧
    (∃ (s : State) (d : Dom) (v : Word) (n : Fin 28) (c : _), s.eng = {} ∧ s.evb = {} ∧ s.acq = {} ∧
     s.que.packets = [] ∧ c ∈ [Instr.islandReset d v, Instr.clockCheckFail n]) :=
  ⟨⟨.powerOnReset, by decide +kernel⟩,
   ⟨24, 0, by decide +kernel⟩,
   ⟨.pcie0, 0x57520000, .sysResetWrite .pcie0 0x57520000, by decide +kernel⟩,
   ⟨live, .pcie0, 0, 3, .clockCheckFail 3, by decide +kernel⟩⟩

theorem witness_PlainRegisterWritesFollowTheirAccessCodes :
    ∃ (q : Requester) (addr : Nat) (v : Word) (r : RegRow) (s : State),
    let p := addr / 0x1000
    let d := s.reqDomain q
    s.asks q = true ∧ (∀ b, q = .steward b → s.activeStw = some b.val) ∧ addr % 4 = 0 ∧ 0x40 ≤ addr % 0x1000 ∧
    p ∈ [Pg.clk, Pg.tpath, Pg.rle, Pg.eng, Pg.que, Pg.pcie 0, Pg.pcie 1] ∧ s.takes d addr v = true ∧
    regRow? addr = some r ∧ r.enc = [] :=
  ⟨.steward 0, Reg.clkXadj, 0x1234, (regRow? Reg.clkXadj).get (by decide +kernel), live, by decide +kernel⟩

theorem witness_DeniedWriteIsLoggedAndCounted :
    ∃ (q : Requester) (addr : Nat) (s : State),
    let d := s.reqDomain q
    s.asks q = true ∧ (∀ b, q = .steward b → s.activeStw = some b.val) ∧ addr % 4 = 0 ∧ addr < 0xFFE000 ∧
    (∀ b, q = .steward b → addr ≠ Reg.stwKick ∧ addr ≠ Reg.stwAluSig) ∧ s.islandLive 26 = true ∧ s.inWarm = false ∧
    s.pageExists (addr / 0x1000) = true ∧ s.mayWrite d addr = false :=
  ⟨.port 1, Reg.clkXadj, live, by decide +kernel⟩

theorem witness_WrongKeyDiscardsTheWholeWrite :
    ∃ (q : Requester) (addr : Nat) (v : Word) (r : RegRow) (s : State),
    let p := addr / 0x1000
    let d := s.reqDomain q
    s.asks q = true ∧ d ≠ .stw ∧ addr % 4 = 0 ∧ addr < 0xFFE000 ∧ s.islandLive 26 = true ∧ s.inWarm = false ∧
    s.pageExists p = true ∧ s.mayWrite d addr = true ∧ ctrlHeld addr = false ∧
    s.fab.inReset.getLsbD (islandOf addr) = false ∧ s.fab.stopped.getLsbD (islandOf addr) = false ∧
    s.srst (ownPage p) = false ∧ regRow? addr = some r ∧ discardedWhole r v = true :=
  ⟨.port 0, Reg.lightCmd, 0x4C440001, (regRow? Reg.lightCmd).get (by decide +kernel), owning live [(0xA4, .held .pcie0)], by decide +kernel⟩

theorem witness_ReadsReturnAndLatch :
    (∃ (r : Requester) (addr : Nat) (s : State), s.reads r addr = true ∧ isLo addr = true) ∧
    (∃ (r : Requester) (addr : Nat) (s : State), s.asks r = true ∧ s.pageExists (addr / 0x1000) = true ∧
     addr < 0xFFE000 ∧ ctrlHeld addr = false ∧ s.islandLive (islandOf addr) = false) ∧
    (∃ (r : Requester) (addr : Nat) (s : State), s.asks r = true ∧ addr < 0xFFE000 ∧ s.inWarm = true) ∧
    (∃ (r : Requester) (addr : Nat) (s : State), s.asks r = true ∧ addr < 0xFFE000 ∧
     s.islandLive (islandOf addr) = true ∧ s.inWarm = false ∧ s.islandLive 26 = false) ∧
    (∃ (r : Requester) (i : Fin 24) (s : State), s.reads r (Reg.timeCapHi i) = true) ∧
    (∃ (r : Requester) (u : Fin 4) (s : State), s.reads r (Reg.tiuResHi u) = true) :=
  ⟨⟨.port 0, Reg.modeSinceLo, live, by decide +kernel⟩,
   ⟨.port 1, Reg.slowCfg 3, islands live 0x8000000 0, by decide +kernel⟩,
   ⟨.port 0, Reg.slowCfg 3, { live with fab := { live.fab with warmEnd := 2000000 } }, by decide +kernel⟩,
   ⟨.port 0, Reg.slowCfg 3, islands live 0 0x4000000, by decide +kernel⟩,
   ⟨.port 0, 23, st [(Reg.timeCapStat 23, 0x80000000)], by decide +kernel⟩,
   ⟨.steward 1, 3, live, by decide +kernel⟩⟩

theorem witness_PagesResetLockAndForce :
    (∃ (d : Dom) (p : Nat) (s : State), p < 0x100 ∧
     let tile := 0x10 ≤ p ∧ p < 0x20
     let room := tile → s.roomFor (p - 0x10) = true
     room ∧ s.takes d (Reg.pageCtl p) (2 ||| (s.rd (Reg.pageCtl p) &&& 1)) = true) ∧
    (∃ (d : Dom) (p : Nat) (s : State), p < 0x100 ∧
     let tile := 0x10 ≤ p ∧ p < 0x20
     let room := tile → s.roomFor (p - 0x10) = true
     room ∧ s.takes d (Reg.pageCtl p) (4 ||| (s.rd (Reg.pageCtl p) &&& 1)) = true) ∧
    (∃ (d : Dom) (p : Nat) (v : Word) (s : State), p < 0x100 ∧
     let tile := 0x10 ≤ p ∧ p < 0x20
     let room := tile → s.roomFor (p - 0x10) = true
     room ∧ s.takes d (Reg.intForce p) v = true) ∧
    (∃ (d : Dom) (p : Nat) (s : State), p < 0x100 ∧
     let tile := 0x10 ≤ p ∧ p < 0x20
     tile ∧ s.roomFor (p - 0x10) = false ∧
     let en := s.rd (Reg.pageCtl p) &&& 1
     s.takes d (Reg.pageCtl p) (2 ||| en) = true) ∧
    (∃ (d : Dom) (p : Nat) (s : State), p < 0x100 ∧
     let tile := 0x10 ≤ p ∧ p < 0x20
     tile ∧ s.roomFor (p - 0x10) = false ∧
     let en := s.rd (Reg.pageCtl p) &&& 1
     s.takes d (Reg.pageCtl p) (4 ||| en) = true) ∧
    (∃ (d : Dom) (p : Nat) (v : Word) (s : State), p < 0x100 ∧
     let tile := 0x10 ≤ p ∧ p < 0x20
     tile ∧ s.roomFor (p - 0x10) = false ∧ s.takes d (Reg.intForce p) v = true) ∧
    (∃ (p : Nat) (s : State), s.canonical ∧ p ∈ [Pg.clk, Pg.tpath, Pg.eng, Pg.svcoef, Pg.pcie 0, Pg.pcie 1] ∧
     s.srst p = true ∧ sget [] p s.fab.srstHeld = []) :=
  ⟨⟨.stw, Pg.slow, live, by decide +kernel⟩,
   ⟨.stw, Pg.stw, live, by decide +kernel⟩,
   ⟨.stw, Pg.slow, 0x7F, live, by decide +kernel⟩,
   ⟨.stw, 0x10, tileWith (st [(Reg.tileStatus 0, 4)]) 0 { cbus := List.replicate 64 (0, 0) }, by decide +kernel⟩,
   ⟨.stw, 0x10, tileWith (st [(Reg.tileStatus 0, 4)]) 0 { cbus := List.replicate 64 (0, 0) }, by decide +kernel⟩,
   ⟨.stw, 0x10, 0x1, tileWith (st [(Reg.tileStatus 0, 4)]) 0 { cbus := List.replicate 64 (0, 0) }, by decide +kernel⟩,
   ⟨Pg.clk, st [(Reg.pageCtl Pg.clk, 2)], ⟨by decide +kernel, by decide +kernel⟩, by decide +kernel⟩⟩

theorem witness_ClaimAndReleaseAreAllOrNone :
    (∃ (d : Dom) (v : Word) (s : State), s.takes d Reg.ownClaim v = true ∧
     let judged := (List.range (wfld v 24 12)).map (fun i => wfld v 11 0 + i) |>.filter (fun p => p < 0x100 || 0x110 ≤ p)
     let reserved := fun p => (p = Pg.pcie 0 ∧ d ≠ .pcie0) ∨ (p = Pg.pcie 1 ∧ d ≠ .pcie1)
     let good := fun p => s.owner p ≠ .fixed ∧ ¬ reserved p ∧ (s.owner p = .free ∨ s.owner p = .held d)
     let policy := (s.rd Reg.ownPolicy).getLsbD (4 + domIdx d)
     policy = true ∧ wfld v 24 12 ≠ 0 ∧ (∀ p ∈ judged, s.pageExists p = true ∧ good p)) ∧
    (∃ (d : Dom) (v : Word) (s : State) (code : Nat) (bad : Nat), s.takes d Reg.ownClaim v = true ∧
     let judged := (List.range (wfld v 24 12)).map (fun i => wfld v 11 0 + i) |>.filter (fun p => p < 0x100 || 0x110 ≤ p)
     let reserved := fun p => (p = Pg.pcie 0 ∧ d ≠ .pcie0) ∨ (p = Pg.pcie 1 ∧ d ≠ .pcie1)
     let good := fun p => s.owner p ≠ .fixed ∧ ¬ reserved p ∧ (s.owner p = .free ∨ s.owner p = .held d)
     let policy := (s.rd Reg.ownPolicy).getLsbD (4 + domIdx d)
     ((policy = false ∧ code = 5 ∧ bad = 0) ∨
       (policy = true ∧ wfld v 24 12 = 0 ∧ code = 3 ∧ bad = wfld v 11 0) ∨
       (policy = true ∧ wfld v 24 12 ≠ 0 ∧ judged.find? (fun p => !s.pageExists p) = some bad ∧ code = 3) ∨
       (policy = true ∧ wfld v 24 12 ≠ 0 ∧ judged.find? (fun p => !s.pageExists p) = none ∧
        judged.find? (fun p => decide (¬ good p)) = some bad ∧
        code = if s.owner bad = .fixed then 2 else if reserved bad then 5 else 1))) ∧
    (∃ (d : Dom) (v : Word) (s : State), s.takes d Reg.ownRelease v = true ∧
     let judged := (List.range (wfld v 24 12)).map (fun i => wfld v 11 0 + i) |>.filter (fun p => p < 0x100 || 0x110 ≤ p)
     let policy := (s.rd Reg.ownPolicy).getLsbD (4 + domIdx d)
     let wins := policy = true ∧ wfld v 24 12 ≠ 0 ∧ ∀ p ∈ judged, s.pageExists p = true ∧ s.owner p = .held d
     wins) ∧
    (∃ (d : Dom) (v : Word) (s : State), s.takes d Reg.ownRelease v = true ∧
     let judged := (List.range (wfld v 24 12)).map (fun i => wfld v 11 0 + i) |>.filter (fun p => p < 0x100 || 0x110 ≤ p)
     let policy := (s.rd Reg.ownPolicy).getLsbD (4 + domIdx d)
     let wins := policy = true ∧ wfld v 24 12 ≠ 0 ∧ ∀ p ∈ judged, s.pageExists p = true ∧ s.owner p = .held d
     ¬ wins) :=
  ⟨⟨.pcie0, 0x20A0, st [(Reg.ownPolicy, 0x1FF)], by decide +kernel⟩,
   ⟨.pcie0, 0x20A0, owning (st [(Reg.ownPolicy, 0x1FF)]) [(0xA1, .held .pcie1)], 1, 0xA1, by decide +kernel⟩,
   ⟨.pcie1, 0x10A1, owning (st [(Reg.ownPolicy, 0x1FF)]) [(0xA1, .held .pcie1)], by decide +kernel⟩,
   ⟨.pcie0, 0x10A1, owning (st [(Reg.ownPolicy, 0x1FF)]) [(0xA1, .held .pcie1)], by decide +kernel⟩⟩

theorem witness_RevocationsReturnHeldPages :
    (∃ (v : Word) (s : State),
     let tableOk := fun (s : State) => swf s.ownReset s.fab.own = true
     tableOk s ∧ s.takes .stw Reg.ownRevoke v = true ∧ wfld v 1 0 ≠ 0) ∧
    (∃ (u : Nat) (s : State),
     let tableOk := fun (s : State) => swf s.ownReset s.fab.own = true
     tableOk s ∧ s.lane.dlDown = some u) ∧
    (∃ (s : State),
     let tableOk := fun (s : State) => swf s.ownReset s.fab.own = true
     tableOk s ∧ s.flag Reg.ownPolicy 8 = true) ∧
    (∃ (s : State), s.flag Reg.ownPolicy 8 = false) :=
  ⟨⟨0x52560001, owning live [(0xA1, .held .pcie0)], by decide +kernel⟩,
   ⟨5, { owning live [(0xA1, .held .dl)] with lane := { live.lane with dlDown := some 5 } }, by decide +kernel⟩,
   ⟨owning (st [(Reg.ownPolicy, 0x1FF)]) [(0xA1, .held .pcie1)], by decide +kernel⟩,
   ⟨st [(Reg.ownPolicy, 0xFF)], by decide +kernel⟩⟩

theorem witness_PortsSendMessagesAndFollowLinks :
    (∃ (p : Fin 2) (v : Fin 64) (s : State),
     let able := fun (s : State) (p : Nat) => s.portAnswers p = true ∧ (s.port p).msixEn = true ∧
       s.fab.stopped.getLsbD 26 = false ∧ s.fab.stopped.getLsbD (22 + p) = false
     able s p ∧ (s.port p).maskedVec v = false ∧ s.inService p v = false ∧ s.vecActive p v = true) ∧
    (∃ (p : Fin 2) (v : Fin 64) (s : State),
     let able := fun (s : State) (p : Nat) => s.portAnswers p = true ∧ (s.port p).msixEn = true ∧
       s.fab.stopped.getLsbD 26 = false ∧ s.fab.stopped.getLsbD (22 + p) = false
     able s p ∧ (s.port p).maskedVec v = true ∧ s.inService p v = false ∧ s.vecActive p v = true) ∧
    (∃ (p : Fin 2) (v : Fin 64) (s : State), s.inService p v = true ∨ s.vecActive p v = false) ∧
    (∃ (d : Dom) (p : Fin 2) (v : Word) (s : State), s.takes d (Reg.irqEoi p) v = true ∧
     s.vecActive p (wfld v 5 0) = false) ∧
    (∃ (d : Dom) (p : Fin 2) (v : Word) (s : State),
     let able := fun (s : State) (p : Nat) => s.portAnswers p = true ∧ (s.port p).msixEn = true ∧
       s.fab.stopped.getLsbD 26 = false ∧ s.fab.stopped.getLsbD (22 + p) = false
     s.takes d (Reg.irqEoi p) v = true ∧ able s p ∧ (s.port p).maskedVec (wfld v 5 0) = false ∧
     s.vecActive p (wfld v 5 0) = true) ∧
    (∃ (p : Fin 2) (v : Fin 64) (s : State),
     let able := fun (s : State) (p : Nat) => s.portAnswers p = true ∧ (s.port p).msixEn = true ∧
       s.fab.stopped.getLsbD 26 = false ∧ s.fab.stopped.getLsbD (22 + p) = false
     able s p ∧ (s.port p).funcMask = false ∧ s.inService p v = false ∧ s.vecActive p v = true) ∧
    (∃ (p : Fin 2) (s : State), (s.port p).linkUp = true) ∧
    (∃ (w : Nat) (sp : Nat), w ∈ [1, 2, 4] ∧ sp ∈ [1, 2, 3, 4]) ∧
    (∃ (p : Fin 2) (s : State), s.portAnswers p = true) :=
  ⟨⟨0, 3, irqOn, by decide +kernel⟩,
   ⟨1, 63, { st [(Reg.irqRoute 1 40, 0xBF), (Reg.intStat Pg.slow, 1), (Reg.intEn Pg.slow, 1)] with fab := { live.fab with port1 := { linkUp := true, msixEn := true, table := [(60, 0), (1020, 1)] } } }, by decide +kernel⟩,
   ⟨0, 3, live, by decide +kernel⟩,
   ⟨.pcie0, 0, 3, live, by decide +kernel⟩,
   ⟨.pcie0, 0, 3, irqOn, by decide +kernel⟩,
   ⟨0, 3, irqOn, by decide +kernel⟩,
   ⟨0, live, by decide +kernel⟩,
   ⟨4, 3, by decide +kernel⟩,
   ⟨0, live, by decide +kernel⟩⟩

theorem witness_ResetsReportTheirCause :
    (∃ (s : State), s.flag Reg.clkStatus 2 = true) ∧
    (∃ (s : State), s.flag Reg.clkStatus 2 = false) ∧
    (∃ (d : Dom) (v : Word) (s : State), s.takes d Reg.sysReset v = true) ∧
    (∃ (c : _), c ∈ [Instr.powerOnReset, Instr.brownout]) ∧
    (∃ (s : State) (c : _), s.stw.burn = none ∧ s.upd.burn = none ∧ s.upd.op = none ∧ s.mode.fatal.getLsbD 3 = false ∧
     c ∈ [Instr.powerOnReset, Instr.brownout]) :=
  ⟨⟨live, by decide +kernel⟩,
   ⟨State.reset, by decide +kernel⟩,
   ⟨.pcie1, 0x57520000, st [(Reg.ownPolicy, 0x1FF)], by decide +kernel⟩,
   ⟨.brownout, by decide +kernel⟩,
   ⟨live, .brownout, by decide +kernel⟩⟩

theorem witness_IslandsAndTheFirstLock :
    (∃ (d : Dom) (v : Word) (s : State), s.takes d Reg.sysIslandReset v = true ∧ s.resettable (wfld v 4 0) = true ∧
     wfld v 4 0 ≠ 26) ∧
    (∃ (n : Fin 28) (s : State), s.resettable n = true ∧ s.flag Reg.clkStatus 2 = true) ∧
    (∃ (n : Fin 28) (s : State), s.resettable n = true ∧ s.fab.inReset.getLsbD n = true ∧ s.flag Reg.clkStatus 2 = true) ∧
    (∃ (n : Fin 28) (s : State), s.fab.inReset.getLsbD n = false) ∧
    (∃ (n : Fin 28) (s : State), s.islandExists n = true) ∧
    (∃ (n : Fin 28) (s : State), s.fab.stopped.getLsbD n = true) ∧
    (∃ (s : State), s.flag Reg.clkStatus 2 = false) ∧
    (∃ (s : State), s.flag Reg.clkStatus 2 = false ∧ s.mode.fatal.getLsbD 4 = false) :=
  ⟨⟨.stw, 0x49530005, live, by decide +kernel⟩,
   ⟨27, live, by decide +kernel⟩,
   ⟨27, islands live 0x8000000 0, by decide +kernel⟩,
   ⟨27, { live with fab := { live.fab with isSealed := 0x8000000 } }, by decide +kernel⟩,
   ⟨0, live, by decide +kernel⟩,
   ⟨27, islands live 0 0x8000000, by decide +kernel⟩,
   ⟨State.reset, by decide +kernel⟩,
   ⟨{ State.reset with time := { State.reset.time with xtal := true } }, by decide +kernel⟩⟩

theorem witness_MemoryWindowsReadAndWrite :
    (∃ (p : Fin 2) (a : Nat) (n : Nat) (bs : List Byte) (s : State), s.portAnswers p = true ∧
     s.passes (22 + p) 18 = true ∧ a + n ≤ 0x3000000 ∧ bs.length = n ∧
     (∀ i (h : i < bs.length), s.mem.byte (memKey 0 (a + i)) = some bs[i] ∧ sget 0 (memKey 0 (a + i)) s.mem.flips = 0)) ∧
    (∃ (p : Fin 2) (a : Nat) (n : Nat) (s : State), s.portAnswers p = true ∧ s.passes (22 + p) 18 = true ∧
     a + n ≤ 0x3000000 ∧
     (∃ i, i < n ∧ s.mem.byte (memKey 0 (a + i)) = none ∧ sget 0 (memKey 0 (a + i)) s.mem.flips = 0)) ∧
    (∃ (p : Fin 2) (a : Nat) (data : List (Option Byte)) (s : State), s.portAnswers p = true ∧
     s.inWin2 p a data.length = true ∧ a + data.length ≤ 0x3000000 ∧ s.doorbellsAt p a = [] ∧
     s.isSwapDb p a (leNat (data.filterMap id)) = false ∧ s.flag Reg.seccInject 31 = false ∧
     s.passes (22 + p) 18 = true) ∧
    (∃ (p : Fin 2) (a : Nat) (data : List (Option Byte)) (s : State), s.portAnswers p = true ∧
     s.inWin2 p a data.length = false) ∧
    (∃ (p : Fin 2) (a : Nat) (n : Nat) (s : State), s.portAnswers p = true ∧ s.variant = .t ∧
     s.passes (22 + p) 19 = true ∧
     (∀ g, a / 2048 ≤ g → g * 2048 < a + n → segGet g s.mem.written ≠ 0 ∧ sget 0 g s.mem.dflips = 0)) ∧
    (∃ (p : Fin 2) (g : Nat) (bs : List Byte) (s : State), s.portAnswers p = true ∧ s.variant = .t ∧ bs.length = 2048 ∧
     s.inWin4 p (g * 2048) 2048 = true ∧ s.flag Reg.deccInject 31 = false ∧ s.passes (22 + p) 19 = true) ∧
    (∃ (p : Fin 2) (a : Nat) (data : List (Option Byte)) (s : State), s.portAnswers p = true ∧ s.variant = .t ∧
     s.inWin4 p a data.length = false) ∧
    (∃ (p : Fin 2) (bar4 : Bool) (s : State), s.portAnswers p = true ∧ s.variant = .t ∧
     let e := if bar4 then 19 else 18
     (s.sealedOff (22 + p.val) || s.sealedOff e) = true) ∧
    (∃ (p : Fin 2) (bar4 : Bool) (a : Nat) (data : List (Option Byte)) (s : State), s.portAnswers p = true ∧
     s.variant = .t ∧
     let e := if bar4 then 19 else 18
     let win := if bar4 then s.inWin4 p a data.length = true
       else s.inWin2 p a data.length = true ∧ s.doorbellsAt p a = [] ∧ s.isSwapDb p a (leNat (data.filterMap id)) = false
     (s.sealedOff (22 + p.val) || s.sealedOff e) = true ∧ win) ∧
    (∃ (p : Fin 2) (bar4 : Bool) (s : State), s.portAnswers p = true ∧ s.variant = .t ∧
     let e := if bar4 then 19 else 18
     (s.sealedOff (22 + p.val) || s.sealedOff e) = false ∧ s.passes (22 + p) e = false) ∧
    (∃ (p : Fin 2) (bar4 : Bool) (a : Nat) (data : List (Option Byte)) (s : State), s.portAnswers p = true ∧
     s.variant = .t ∧
     let e := if bar4 then 19 else 18
     let win := if bar4 then s.inWin4 p a data.length = true
       else s.inWin2 p a data.length = true ∧ s.doorbellsAt p a = [] ∧ s.isSwapDb p a (leNat (data.filterMap id)) = false
     (s.sealedOff (22 + p.val) || s.sealedOff e) = false ∧ s.passes (22 + p) e = false ∧ win) ∧
    (∃ (p : Fin 2) (s : State), s.portAnswers p = true ∧ s.variant = .s) ∧
    (∃ (p : Fin 2) (s : State), s.portAnswers p = true ∧ s.variant = .s) :=
  ⟨⟨0, 0x100, 4, [1, 2, 3, 4], live.smWrite 0 0x100 [1, 2, 3, 4], by decide +kernel⟩,
   ⟨0, 0x2FFFFFF, 1, live, by decide +kernel⟩,
   ⟨0, 0x2FFFFFD, [some 1, none, some 3], st [(Reg.pcieWin2Base 0, 0), (Reg.pcieWin2Limit 0, 0x2FF)], by decide +kernel⟩,
   ⟨0, 0xFFFF, [some 1, some 2], st [(Reg.pcieWin2Base 0, 0), (Reg.pcieWin2Limit 0, 0)], by decide +kernel⟩,
   ⟨1, 0, 4, (live.pageWrite 0 0 [7]).1, by decide +kernel, by decide +kernel, by decide +kernel,
    fun g _ h => by have : g = 0 := (by omega); subst this; decide +kernel⟩,
   ⟨1, 1, List.replicate 2048 5, st [(Reg.pcieWin4Base 1, 0), (Reg.pcieWin4Limit 1, 0)], by decide +kernel⟩,
   ⟨1, 0xFFFFF, [some 1, some 2], st [(Reg.pcieWin4Base 1, 0), (Reg.pcieWin4Limit 1, 0)], by decide +kernel⟩,
   ⟨0, false, islands live 0x40000 0, by decide +kernel⟩,
   ⟨0, true, 0, [some 1], islands (st [(Reg.pcieWin4Base 0, 0), (Reg.pcieWin4Limit 0, 0)]) 0x80000 0, by decide +kernel⟩,
   ⟨0, true, islands live 0 0x80000, by decide +kernel⟩,
   ⟨0, false, 0x100, [some 1], islands (st [(Reg.pcieWin2Base 0, 0), (Reg.pcieWin2Limit 0, 0)]) 0 0x40000, by decide +kernel⟩,
   ⟨1, { live with variant := .s }, by decide +kernel⟩,
   ⟨1, { live with variant := .s }, by decide +kernel⟩⟩

theorem witness_CommandQueuesExecuteInOrder :
    (∃ (p : Fin 2) (c : Fin 16) (v : Word) (s : State), s.portAnswers p = true ∧
     let a := s.fld (Reg.qcmdBase c) 13 0 * 4096
     s.inWin2 p a 4 = true ∧ s.doorbellsAt p a = [c.val] ∧
     let good := (v - s.rd (Reg.qcmdDone c)).toNat ≤ s.cmdRing c ∧ (v - s.rd (Reg.qcmdPosted c)).toNat < 2 ^ 31
     good) ∧
    (∃ (p : Fin 2) (c : Fin 16) (v : Word) (s : State), s.portAnswers p = true ∧
     let a := s.fld (Reg.qcmdBase c) 13 0 * 4096
     s.inWin2 p a 4 = true ∧ s.doorbellsAt p a = [c.val] ∧
     let good := (v - s.rd (Reg.qcmdDone c)).toNat ≤ s.cmdRing c ∧ (v - s.rd (Reg.qcmdPosted c)).toNat < 2 ^ 31
     ¬ good) ∧
    (∃ (c : Fin 16) (ws : List Word) (s : State), s.cmdTurn c = true ∧ s.memStill = false ∧
     s.fab.stopped.getLsbD 17 = false ∧ s.cmdFetch c = (s, ws, false) ∧
     let w0 := ws.getD 0 0
     wfld w0 31 28 = 3 ∧ wfld w0 27 24 = 0) ∧
    (∃ (c : Fin 16) (ws : List Word) (s : State), s.cmdTurn c = true ∧ s.memStill = false ∧
     s.fab.stopped.getLsbD 17 = false ∧ s.cmdFetch c = (s, ws, false) ∧
     let w0 := ws.getD 0 0
     let n := wfld w0 27 24
     let addrs := (List.range n).map (fun i => wfld (ws.getD (2 + i) 0) 23 0)
     wfld w0 31 28 = 2 ∧ cmdLegal 2 n = true ∧
     (∀ a ∈ addrs, s.aimsStopped a = false ∧ s.srst (ownPage (a / 0x1000)) = false)) ∧
    (∃ (c : Fin 16) (ws : List Word) (s : State), s.cmdTurn c = true ∧ s.memStill = false ∧
     s.fab.stopped.getLsbD 17 = false ∧ s.cmdFetch c = (s, ws, false) ∧
     let w0 := ws.getD 0 0
     let n := wfld w0 27 24
     let at' := fun i => wfld (ws.getD (2 + 2 * i) 0) 23 0
     let u := fun k => (List.range k).foldl (fun x i => x.reqWrite (.queue c) (at' i) (ws.getD (3 + 2 * i) 0)) s
     wfld w0 31 28 = 1 ∧ cmdLegal 1 n = true ∧
     (∀ k < n, (u k).aimsStopped (at' k) = false ∧ s.cmdGoes (u (k + 1)) = true ∧
       ((u k).pageExists (at' k / 0x1000) = true → (u k).mayWrite ((u k).reqDomain (.queue c)) (at' k) = true))) ∧
    (∃ (c : Fin 16) (ws : List Word) (s : State), s.cmdTurn c = true ∧ s.memStill = false ∧
     s.fab.stopped.getLsbD 17 = false ∧ s.cmdFetch c = (s, ws, false) ∧
     let w0 := ws.getD 0 0
     cmdLegal (wfld w0 31 28) (wfld w0 27 24) = false) ∧
    (∃ (c : Fin 16) (ws : List Word) (s : State) (u : State) (i : _), s.cmdTurn c = true ∧ s.memStill = false ∧
     s.fab.stopped.getLsbD 17 = false ∧ s.cmdFetch c = (u, ws, true) ∧
     i ∈ [Instr.cmdWrite c, Instr.cmdRead c, Instr.cmdFence c]) ∧
    (∃ (c : Fin 16) (s : State), (s.cq c).report = true ∧
     let p : Fin 2 := if s.flag (Reg.qcmdCtl c) 4 then 1 else 0
     s.portAnswers p = true) ∧
    (∃ (c : Fin 16) (s : State), (s.cq c).report = true) :=
  ⟨⟨0, 2, 63, regs (cmdSt []) [(Reg.qcmdPosted 2, 0), (Reg.pcieWin2Base 0, 0), (Reg.pcieWin2Limit 0, 0x2FF)], by decide +kernel⟩,
   ⟨0, 2, 64, regs (cmdSt []) [(Reg.qcmdPosted 2, 0), (Reg.pcieWin2Base 0, 0), (Reg.pcieWin2Limit 0, 0x2FF)], by decide +kernel⟩,
   ⟨2, cmdWords [0x30000007], cmdSt [0x30000007], by decide +kernel⟩,
   ⟨2, cmdWords [0x21000007, 0, 0x5048], cmdSt [0x21000007, 0, 0x5048], by decide +kernel⟩,
   ⟨2, cmdWords [0x11100007, 0, 0xA080C, 0x00011001], cmdSt [0x11100007, 0, 0xA080C, 0x00011001], by decide +kernel⟩,
   ⟨2, cmdWords [0xF0000007], cmdSt [0xF0000007], by decide +kernel⟩,
   ⟨2, [0x30000007], cmdBad, (cmdBad.cmdFetch 2).1, Instr.cmdFence 2, by decide +kernel⟩,
   ⟨2, live.updCq 2 (fun x => { x with report := true }), by decide +kernel⟩,
   ⟨2, live.updCq 2 (fun x => { x with report := true }), by decide +kernel⟩⟩

theorem witness_DownlinkBlocksAct :
    (∃ (s : State), s.lane.dlPrev ≠ 1) ∧
    (∃ (lo : BitVec 40) (s : State), s.lane.dlPrev = 1 ∧ s.flag Reg.timeSyncCtl 0 = true ∧ s.time.running = true ∧
     s.now < 2 ^ 64 ∧ s.lane.dlHi * 2 ^ 40 + lo.toNat + s.fld Reg.timeSyncDly 15 0 = s.now) ∧
    (∃ (s : State), s.sealedOff 3 = false) ∧
    (∃ (s : State), s.fab.inReset.getLsbD 21 = false ∧ s.lane.dlLane < 2 ∧ s.sealedOff 3 = true) ∧
    (∃ (s : State), s.fab.inReset.getLsbD 21 = false ∧ s.lane.dlLane < 2 ∧ s.sealedOff 4 = true) ∧
    (∃ (s : State), s.sealedOff 4 = false) ∧
    (∃ (n : Fin 32), 17 < n.val) ∧
    (∃ (n : Fin 32) (s : State), n.val ≤ 17 ∧ s.compat = true) ∧
    (∃ (n : Fin 32) (s : State), n.val ≤ 17 ∧ s.compat = false) ∧
    (∃ (n : Fin 32), 17 < n.val) ∧
    (∃ (n : Fin 32) (s : State), n.val ≤ 17 ∧ s.ust n = 0) ∧
    (∃ (n : Fin 32) (s : State),
     let prios := fun (s : State) => ∀ (g : Nat), ∀ v ∈ (s.lg g).tx, v.prio < 4
     n.val ≤ 17 ∧ s.ust n ≠ 0 ∧ prios s) ∧
    (∃ (s : State),
     let prios := fun (s : State) => ∀ (g : Nat), ∀ v ∈ (s.lg g).tx, v.prio < 4
     prios s) :=
  ⟨⟨live, by decide +kernel⟩,
   ⟨1000000, { st [(Reg.timeSyncCtl, 1)] with lane := { live.lane with dlPrev := 1 } }, by decide +kernel⟩,
   ⟨live, by decide +kernel⟩,
   ⟨islands live 8 0, by decide +kernel⟩,
   ⟨islands live 0x10 0, by decide +kernel⟩,
   ⟨live, by decide +kernel⟩,
   ⟨31, by decide +kernel⟩,
   ⟨17, st [(Reg.ulnkCtl, 1), (Reg.utxState 17, 0x90003)], by decide +kernel⟩,
   ⟨0, live, by decide +kernel⟩,
   ⟨18, by decide +kernel⟩,
   ⟨17, live, by decide +kernel⟩,
   ⟨0, st [(Reg.utxState 0, 3)], by decide +kernel, by decide +kernel, fun _ _ h => nomatch h⟩,
   ⟨st [(Reg.utxState 0, 2)], fun _ _ h => nomatch h⟩⟩

theorem witness_DownlinkReachesRegistersAndMemory :
    (∃ (addr : BitVec 22) (v : Word) (r : RegRow) (s : State),
     let a := 4 * addr.toNat
     s.takes .dl a v = true ∧ 0x40 ≤ a % 0x1000 ∧
     a / 0x1000 ∈ [Pg.clk, Pg.tpath, Pg.rle, Pg.eng, Pg.que, Pg.pcie 0, Pg.pcie 1] ∧ regRow? a = some r ∧ r.enc = []) ∧
    (∃ (addr : BitVec 22) (s : State),
     let a := 4 * addr.toNat
     let p := a / 0x1000
     s.reads .downlink a = true ∧ p ∈ [Pg.clk, Pg.tpath, Pg.rle, Pg.eng, Pg.que, Pg.pcie 0, Pg.pcie 1] ∧
     0x40 ≤ a % 0x1000 ∧ (∀ e ∈ s.fab.latch, e.1 ≠ reqIdx .downlink)) ∧
    (∃ (s : State), s.lane.dlPrev ≠ 2) ∧
    (∃ (s : State),
     let a := s.lane.dlAddr
     let inside := s.nat Reg.ulnkDwinBase * 65536 ≤ a ∧ a + 8 ≤ (s.nat Reg.ulnkDwinLimit + 1) * 65536
     s.lane.dlPrev = 2 ∧ inside ∧ (s.sealedOff 21 || s.sealedOff 18) = true) ∧
    (∃ (s : State),
     let a := s.lane.dlAddr
     let inside := s.nat Reg.ulnkDwinBase * 65536 ≤ a ∧ a + 8 ≤ (s.nat Reg.ulnkDwinLimit + 1) * 65536
     s.lane.dlPrev = 2 ∧ inside ∧ (s.sealedOff 21 || s.sealedOff 18) = false ∧ s.passes 21 18 = false) ∧
    (∃ (s : State),
     let a := s.lane.dlAddr
     let inside := s.nat Reg.ulnkDwinBase * 65536 ≤ a ∧ a + 8 ≤ (s.nat Reg.ulnkDwinLimit + 1) * 65536
     s.lane.dlPrev = 2 ∧ inside ∧ s.passes 21 18 = true ∧ s.flag Reg.seccInject 31 = false) ∧
    (∃ (s : State),
     let a := s.lane.dlAddr
     let inside := s.nat Reg.ulnkDwinBase * 65536 ≤ a ∧ a + 8 ≤ (s.nat Reg.ulnkDwinLimit + 1) * 65536
     s.lane.dlPrev = 2 ∧ ¬ inside) :=
  ⟨⟨0x1413, 5, (regRow? Reg.clkXadj).get (by decide +kernel), owning live [(Pg.clk, .held .dl)], by decide +kernel⟩,
   ⟨0x1413, live, by decide +kernel⟩,
   ⟨live, by decide +kernel⟩,
   ⟨islands { st [(Reg.ulnkDwinBase, 0), (Reg.ulnkDwinLimit, 0)] with lane := { live.lane with dlPrev := 2, dlAddr := 0xFFF8 } } 0x40000 0, by decide +kernel⟩,
   ⟨islands { st [(Reg.ulnkDwinBase, 0), (Reg.ulnkDwinLimit, 0)] with lane := { live.lane with dlPrev := 2, dlAddr := 0xFFF8 } } 0 0x40000, by decide +kernel⟩,
   ⟨{ st [(Reg.ulnkDwinBase, 0), (Reg.ulnkDwinLimit, 0)] with lane := { live.lane with dlPrev := 2, dlAddr := 0xFFF8 } }, by decide +kernel⟩,
   ⟨{ st [(Reg.ulnkDwinBase, 0), (Reg.ulnkDwinLimit, 0)] with lane := { live.lane with dlPrev := 2, dlAddr := 0x10000 } }, by decide +kernel⟩⟩

theorem witness_DownlinkLanesAlignAndDeliver :
    (∃ (n : Fin 2) (s : State), s.flag (Reg.drxStatus n) 0 = true) ∧
    (∃ (n : Fin 2) (s : State), s.flag (Reg.drxStatus n) 1 = true) ∧
    (∃ (n : Fin 2) (sfc : BitVec 16) (s : State), s.flag (Reg.drxStatus n) 1 = true ∧ sfc.toNat ∉ s.lane.dlTaken) ∧
    (∃ (n : Fin 2) (sfc : BitVec 16) (s : State), s.flag (Reg.drxStatus n) 1 = true ∧ sfc.toNat ∈ s.lane.dlTaken) ∧
    (∃ (d : Dom) (n : Fin 2) (v : Word) (s : State), s.takes d (Reg.drxScanCtl n) (setBit v 31 true) = true ∧
     s.agePoll.fld Reg.ageStat 26 24 ≠ 4) ∧
    (∃ (d : Dom) (n : Fin 2) (v : Word) (s : State), s.takes d (Reg.drxScanCtl n) (setBit v 31 true) = true ∧
     s.agePoll.fld Reg.ageStat 26 24 = 4) ∧
    (∃ (n : Fin 2) (s : State), s.flag (Reg.drxScanCtl n) 31 = true) :=
  ⟨⟨1, st [(Reg.drxStatus 1, 1)], by decide +kernel⟩,
   ⟨0, st [(Reg.drxStatus 0, 3), (Reg.drxStatus 1, 3)], by decide +kernel⟩,
   ⟨0, 5, st [(Reg.drxStatus 0, 3)], by decide +kernel⟩,
   ⟨0, 5, { st [(Reg.drxStatus 0, 3)] with lane := { live.lane with dlTaken := [5] } }, by decide +kernel⟩,
   ⟨.stw, 1, 0x4, live, by decide +kernel⟩,
   ⟨.stw, 1, 0x4, st [(Reg.ageStat, 0x84000000)], by decide +kernel⟩,
   ⟨1, st [(Reg.drxScanCtl 1, 0x80000000)], by decide +kernel⟩⟩

theorem witness_TimeBasesAndClockMonitor :
    (∃ (depth : Nat) (form : SpreadForm), depth < 65536 ∧ form.fmod < 65536) ∧
    (∃ (d : Dom) (v : Word) (s : State), s.takes d Reg.clkXadj v = true) ∧
    (∃ (d : Dom) (v : Word) (s : State), s.takes d Reg.timeWincLo v = true) ∧
    (∃ (d : Dom) (v : Word) (s : State), s.takes d Reg.timeWincHi v = true ∧
     let lo := s.time.wincStage.getD (s.rd Reg.timeWincLo)
     let n := v.toNat * 2 ^ 32 + lo.toNat
     0x1FC000000 ≤ n ∧ n ≤ 0x204000000) ∧
    (∃ (d : Dom) (v : Word) (s : State), s.takes d Reg.timeWincHi v = true ∧
     let lo := s.time.wincStage.getD (s.rd Reg.timeWincLo)
     let n := v.toNat * 2 ^ 32 + lo.toNat
     ¬ (0x1FC000000 ≤ n ∧ n ≤ 0x204000000)) :=
  ⟨⟨65535, ⟨65535, 401, true⟩, by decide +kernel⟩,
   ⟨.stw, 0xFFFFFF, live, by decide +kernel⟩,
   ⟨.stw, 5, live, by decide +kernel⟩,
   ⟨.stw, 2, { live with time := { live.time with wincStage := some 0x4000000 } }, by decide +kernel⟩,
   ⟨.stw, 2, { live with time := { live.time with wincStage := some 0x4000001 } }, by decide +kernel⟩⟩

theorem witness_SnapshotsStepsAndCompares :
    (∃ (d : Dom) (v : Word) (s : State), s.takes d Reg.timeSnap v = true ∧ v.getLsbD 0 = true) ∧
    (∃ (d : Dom) (v : Word) (s : State), s.takes d Reg.timeSnap v = true ∧ v.getLsbD 0 = false) ∧
    (∃ (d : Dom) (v : Word) (s : State), s.takes d Reg.timeWctl v = true ∧ v.getLsbD 0 = true ∧
     let refused := s.flag Reg.timeStatus 1 = true ∨ s.rd64 Reg.timeWloadAtLo < s.time.mtime + 64
     refused) ∧
    (∃ (d : Dom) (v : Word) (s : State), s.takes d Reg.timeWctl v = true ∧ v.getLsbD 0 = true ∧
     let refused := s.flag Reg.timeStatus 1 = true ∨ s.rd64 Reg.timeWloadAtLo < s.time.mtime + 64
     ¬ refused) ∧
    (∃ (s : State), s.flag Reg.timeStatus 2 = true ∧ s.time.running = true) ∧
    (∃ (d : Dom) (i : Fin 24) (v : Word) (s : State), s.takes d (Reg.timeCmpCtl i) v = true ∧ v.getLsbD 0 = true ∧
     s.baseTick i < s.rd64 (Reg.timeCmpLo i)) ∧
    (∃ (d : Dom) (i : Fin 24) (v : Word) (s : State), s.takes d (Reg.timeCmpCtl i) v = true ∧ v.getLsbD 0 = true ∧
     s.rd64 (Reg.timeCmpLo i) ≤ s.baseTick i) ∧
    (∃ (i : Fin 24) (s : State), s.flag (Reg.timeCmpCtl i) 0 = true ∧ s.time.running = true ∧
     let target := s.rd64 (Reg.timeCmpLo i)
     let at' := s.edgeAt (if i.val < 8 then Nat.max s.time.mtime target else s.time.mtime)
     let b := (s.advanceTo at').baseTick i
     (8 ≤ i.val → target ≤ s.baseTick i) ∧ target ≤ b ∧
     (s.flag Reg.timeStatus 2 = true → at' < s.rd64 Reg.timeWloadAtLo) ∧
     (s.flag Reg.modePend 31 = true → at' < s.changeFrame * 65536) ∧
     (∀ j < i.val, s.flag (Reg.timeCmpCtl j) 0 = true → s.cmpEdge j ≠ at')) ∧
    (∃ (e : Nat) (s : State), s.time.outEnd = some e ∧ s.time.running = true) :=
  ⟨⟨.pcie0, 1, live, by decide +kernel⟩,
   ⟨.pcie1, 0, live, by decide +kernel⟩,
   ⟨.stw, 1, st [(Reg.timeWloadAtLo, 1000063)], by decide +kernel⟩,
   ⟨.stw, 1, st [(Reg.timeWloadAtLo, 1000064)], by decide +kernel⟩,
   ⟨st [(Reg.timeStatus, 4), (Reg.timeWctl, 1), (Reg.timeWloadAtLo, 1000064), (Reg.timeWloadLo, 77)], by decide +kernel⟩,
   ⟨.stw, 23, 1, st [(Reg.timeCmpLo 23, 1000001)], by decide +kernel⟩,
   ⟨.stw, 0, 0x101, st [(Reg.timeCmpLo 0, 1000000)], by decide +kernel⟩,
   ⟨7, st [(Reg.timeCmpCtl 7, 1), (Reg.timeCmpLo 7, 1000000), (Reg.timeCmpPeriod 7, 100)], by decide +kernel⟩,
   ⟨1000008, { live with time := { live.time with outEnd := some 1000008 } }, by decide +kernel⟩⟩

theorem witness_ModeRequestsAreJudged :
    (∃ (d : Dom) (v : Word) (s : State), s.takes d Reg.modeReq v = true ∧
     let target := wfld v 2 0
     let tail := v.getLsbD 3
     let frame := if v.getLsbD 4 then s.rd64 Reg.modeAtFrameLo else (s.time.mtime + 16384 + 65535) / 65536
     let inTime := v.getLsbD 4 = true → s.time.mtime + 16384 ≤ frame * 65536
     let tailOk := tail = true → s.variant = .t ∧ 2 ≤ target ∧ target ≤ 4 ∧ s.fld Reg.deccCtl 2 0 ≤ 3
     target ≤ 5 ∧ s.flag Reg.modePend 31 = false ∧ s.modeNow ≠ 0 ∧ (target ≠ s.modeNow ∨ tail ≠ s.tailOn) ∧ tailOk ∧
     inTime) ∧
    (∃ (d : Dom) (v : Word) (s : State), s.takes d Reg.modeReq v = true ∧
     let target := wfld v 2 0
     let tail := v.getLsbD 3
     let frame := if v.getLsbD 4 then s.rd64 Reg.modeAtFrameLo else (s.time.mtime + 16384 + 65535) / 65536
     let inTime := v.getLsbD 4 = true → s.time.mtime + 16384 ≤ frame * 65536
     target = 1 ∧ tail = false ∧ s.flag Reg.modePend 31 = false ∧ s.modeNow = 0 ∧ s.flag Reg.sysStatus 6 = true ∧
     s.flag Reg.sysStatus 0 = false ∧ s.flag Reg.modeCause 8 = false ∧ inTime) ∧
    (∃ (d : Dom) (v : Word) (s : State), s.takes d Reg.modeReq v = true ∧
     let target := wfld v 2 0
     target ≤ 5 ∧ s.flag Reg.modePend 31 = true ∧
     (s.modeDue s.changeFrame = false ∨ s.time.mtime < s.changeFrame * 65536)) ∧
    (∃ (d : Dom) (v : Word) (s : State), s.takes d Reg.modeCancel v = true ∧ s.flag Reg.modePend 31 = true ∧
     s.modeNow ≠ 0 ∧ s.time.mtime < s.changeFrame * 65536) ∧
    (∃ (d : Dom) (v : Word) (s : State), s.takes d Reg.modeCancel v = true ∧ s.flag Reg.modePend 31 = false) ∧
    (∃ (s : State), s.flag Reg.modePend 31 = true ∧ s.mode.prep = true ∧ s.mode.prepDone = false ∧
     (∀ n : Fin 16, s.flag (Reg.tileCtl n) 8 = true ∨ s.pwr n = 4 ∨ s.pwr n = 5)) :=
  ⟨⟨.stw, 0x12, st [(Reg.modeCurrent, 1), (Reg.modeAtFrameLo, 16)], by decide +kernel⟩,
   ⟨.stw, 1, live, by decide +kernel⟩,
   ⟨.stw, 5, st [(Reg.modePend, 0x80000001)], by decide +kernel⟩,
   ⟨.stw, 0x434E0000, st [(Reg.modePend, 0x80000002), (Reg.modeCurrent, 0x80000001)], by decide +kernel⟩,
   ⟨.stw, 0x434E0000, live, by decide +kernel⟩,
   ⟨{ st ((Reg.modePend, 0x80000001) :: (Reg.modePendFrameLo, 15) :: (List.range 16).map (fun n => (Reg.tileCtl n, 0x100))) with mode := { live.mode with prep := true } }, by decide +kernel⟩⟩

theorem witness_ModesChangeAndFatalCausesDrop :
    (∃ (s : State),
     let f := Nat.max (s.rd64 Reg.modePendFrameLo) s.time.frameNext
     s.flag Reg.modePend 31 = true ∧ (s.modeNow ≠ 0 ∨ s.mode.prepDone = true) ∧ f % s.fld Reg.stwHcfg 15 0 ≠ 0) ∧
    (∃ (s : State),
     let f := s.time.frameNext
     s.time.running = true ∧ s.modeDue f = false ∧
     (s.flag Reg.timeStatus 2 = true → s.edgeAt (f * 65536) < s.rd64 Reg.timeWloadAtLo) ∧
     f % s.fld Reg.stwHcfg 15 0 ≠ 0) ∧
    (∃ (s : State), s.time.running = true) ∧
    (∃ (s : State), s.modeDue s.changeFrame = true) ∧
    (∃ (s : State), s.mode.fatal.getLsbD 3 = false) ∧
    (∃ (s : State), s.mode.fatal.getLsbD 4 = false ∧ s.time.refLost = false) ∧
    (∃ (s : State), s.time.refLost = true) ∧
    (∃ (s : State), s.time.refLost = true) ∧
    (∃ (c : Fin 16) (s : State), s.causeLasts c = true) ∧
    (∃ (c : Fin 16) (s : State), s.causeLasts c = false) :=
  ⟨⟨st [(Reg.modePend, 0x80000002), (Reg.modePendFrameLo, 18), (Reg.modeCurrent, 0x80000001)], by decide +kernel⟩,
   ⟨live, by decide +kernel⟩,
   ⟨live, by decide +kernel⟩,
   ⟨st [(Reg.modePend, 0x80000002), (Reg.modePendFrameLo, 18), (Reg.modeCurrent, 0x80000001)], by decide +kernel⟩,
   ⟨st [(Reg.clkStatus, 0x70), (Reg.sysStatus, 0x68)], by decide +kernel⟩,
   ⟨live, by decide +kernel⟩,
   ⟨{ live with time := { live.time with refLost := true } }, by decide +kernel⟩,
   ⟨{ live with time := { live.time with refLost := true } }, by decide +kernel⟩,
   ⟨6, live, by decide +kernel⟩,
   ⟨3, { st [(Reg.modeCause, 0x103)] with mode := { live.mode with fatal := 8 } }, by decide +kernel⟩⟩

theorem witness_EdgesFormHitWords :
    (∃ (n : Fin 16) (s : State), s.monitors n = false) ∧
    (∃ (n : Fin 16) (s : State), s.monitors n = false) ∧
    (∃ (n : Fin 16) (s : State), s.monitors n = false) ∧
    (∃ (n : Fin 16) (s : State), s.monitors n = false) ∧
    (∃ (n : Fin 16) (c : Fin 128) (tick : Nat) (raw : Fin 384) (s : State), s.monitors n = true ∧
     let ch := s.chan n c
     let frm := match ch.hit with
       | some h => h.lead / 2 ^ 24
       | none => tick / 65536
     let T := tick * 256 + nth (sget [] (c.val / 8)
       (if frm < (s.tile n).lutsFrom then (s.tile n).lutsOld else (s.tile n).luts)) raw % 256
     let late := fun (h : HitForm) => h.lead + 262144 ≤ T
     inDead ch.thlLast T = false ∧ (∀ l, ch.leadLast = some l → l + 2560 ≤ T) ∧ ch.thlHigh = false ∧
     (∀ h, ch.hit = some h → ¬ late h)) ∧
    (∃ (n : Fin 16) (c : Fin 128) (tick : Nat) (raw : Fin 384) (s : State), s.monitors n = true ∧
     let ch := s.chan n c
     let frm := match ch.hit with
       | some h => h.lead / 2 ^ 24
       | none => tick / 65536
     let T := tick * 256 + nth (sget [] (c.val / 8)
       (if frm < (s.tile n).lutsFrom then (s.tile n).lutsOld else (s.tile n).luts)) raw % 256
     let late := fun (h : HitForm) => h.lead + 262144 ≤ T
     inDead ch.thlLast T = true ∧ (∀ h, ch.hit = some h → ¬ late h)) ∧
    (∃ (n : Fin 16) (c : Fin 128) (tick : Nat) (raw : Fin 384) (s : State), s.monitors n = true ∧
     let ch := s.chan n c
     let frm := match ch.hit with
       | some h => h.lead / 2 ^ 24
       | none => tick / 65536
     let T := tick * 256 + nth (sget [] (c.val / 8)
       (if frm < (s.tile n).lutsFrom then (s.tile n).lutsOld else (s.tile n).luts)) raw % 256
     let late := fun (h : HitForm) => h.lead + 262144 ≤ T
     ch.thuHigh = false ∧ inDead ch.thuLast T = false ∧ (∀ h, ch.hit = some h → ¬ late h)) ∧
    (∃ (n : Fin 16) (c : Fin 128) (tick : Nat) (raw : Fin 384) (s : State), s.monitors n = true ∧
     let ch := s.chan n c
     let frm := match ch.hit with
       | some h => h.lead / 2 ^ 24
       | none => tick / 65536
     let T := tick * 256 + nth (sget [] (c.val / 8)
       (if frm < (s.tile n).lutsFrom then (s.tile n).lutsOld else (s.tile n).luts)) raw % 256
     let late := fun (h : HitForm) => h.lead + 262144 ≤ T
     ch.thuHigh = true ∧ inDead ch.thuLast T = false ∧ (∀ h, ch.hit = some h → ¬ late h)) ∧
    (∃ (n : Fin 16) (c : Fin 128) (tick : Nat) (raw : Fin 384) (s : State) (h : HitForm), s.monitors n = true ∧
     let ch := s.chan n c
     let frm := match ch.hit with
       | some h => h.lead / 2 ^ 24
       | none => tick / 65536
     let T := tick * 256 + nth (sget [] (c.val / 8)
       (if frm < (s.tile n).lutsFrom then (s.tile n).lutsOld else (s.tile n).luts)) raw % 256
     let late := fun (h : HitForm) => h.lead + 262144 ≤ T
     ch.thlHigh = true ∧ inDead ch.thlLast T = false ∧ ch.hit = some h ∧ ¬ late h) ∧
    (∃ (n : Fin 16) (c : Fin 128) (tick : Nat) (raw : Fin 384) (s : State) (h : HitForm), s.monitors n = true ∧
     let ch := s.chan n c
     let frm := match ch.hit with
       | some h => h.lead / 2 ^ 24
       | none => tick / 65536
     let T := tick * 256 + nth (sget [] (c.val / 8)
       (if frm < (s.tile n).lutsFrom then (s.tile n).lutsOld else (s.tile n).luts)) raw % 256
     let late := fun (h : HitForm) => h.lead + 262144 ≤ T
     ch.hit = some h ∧ late h ∧ h.passed = true) ∧
    (∃ (n : Fin 16) (c : Fin 128) (h : HitForm) (s : State), (s.chan n c).hit = some h ∧ h.passed = true) ∧
    (∃ (n : Fin 16) (c : Fin 128) (h : HitForm) (s : State), (s.chan n c).hit = some h) ∧
    (∃ (n : Fin 16) (c : Fin 128) (d : DoneHit) (r : List DoneHit) (s : State), (s.chan n c).done = d :: r) :=
  ⟨⟨0, live, by decide +kernel⟩,
   ⟨0, live, by decide +kernel⟩,
   ⟨0, live, by decide +kernel⟩,
   ⟨0, live, by decide +kernel⟩,
   ⟨15, 127, 1000000, 0, st [(Reg.tileStatus 15, 4)], by decide +kernel⟩,
   ⟨0, 0, 1000000, 5, chans (st [(Reg.tileStatus 0, 4)]) 0 0 { thlLast := some 255999999, leadLast := some 255999999 }, by decide +kernel⟩,
   ⟨1, 2, 1000000, 0, st [(Reg.tileStatus 1, 3)], by decide +kernel⟩,
   ⟨1, 2, 1000000, 0, chans (st [(Reg.tileStatus 1, 3)]) 1 2 { thuHigh := true, thuLast := some 255990000 }, by decide +kernel⟩,
   ⟨1, 2, 1000000, 0, chans (st [(Reg.tileStatus 1, 4)]) 1 2 { thlHigh := true, thlLast := some 255990000, hit := some ⟨255990000, none, false, false, true, false⟩ }, ⟨255990000, none, false, false, true, false⟩, by decide +kernel⟩,
   ⟨1, 2, 1000000, 255, chans (st [(Reg.tileStatus 1, 4)]) 1 2 { thlHigh := true, thlLast := some 255737856, hit := some ⟨255737856, none, true, false, true, false⟩ }, ⟨255737856, none, true, false, true, false⟩, by decide +kernel⟩,
   ⟨1, 2, ⟨255990000, none, true, false, true, false⟩, chans (st [(Reg.tileStatus 1, 4)]) 1 2 { thlHigh := true, hit := some ⟨255990000, none, true, false, true, false⟩ }, by decide +kernel⟩,
   ⟨1, 2, ⟨255990000, none, true, false, true, false⟩, chans (st [(Reg.tileStatus 1, 4)]) 1 2 { thlHigh := true, hit := some ⟨255990000, none, true, false, true, false⟩ }, by decide +kernel⟩,
   ⟨1, 2, ⟨5, 15, 1000100⟩, [], chans (st [(Reg.tileStatus 1, 4)]) 1 2 { done := [⟨5, 15, 1000100⟩] }, by decide +kernel⟩⟩

theorem witness_TileControlsTakeEffect :
    (∃ (n : Fin 16) (s : State), s.monitors n = true ∧ s.time.running = true) ∧
    (∃ (d : Dom) (n : Fin 16) (c : Fin 128) (v : Word) (s : State),
     let room := fun (n : Fin 16) (s : State) => (s.tile n).cbus.length < 64 ∧ (s.tile n).cbusHeld = [] ∧ (s.tile n).cbusMore = []
     let on := fun (n : Fin 16) (s : State) => 2 ≤ s.pwr n ∧ s.pwr n ≤ 4
     s.takes d (Reg.chanCmd n c) v = true ∧ v.getLsbD 0 = true ∧ on n s ∧ room n s) ∧
    (∃ (d : Dom) (n : Fin 16) (c : Fin 128) (v : Word) (s : State),
     let idle := fun (n : Fin 16) (s : State) => (s.tile n).cbus = [] ∧ (s.tile n).cbusHeld = [] ∧ (s.tile n).cbusMore = []
     let on := fun (n : Fin 16) (s : State) => 2 ≤ s.pwr n ∧ s.pwr n ≤ 4
     s.takes d (Reg.chanCmd n c) v = true ∧ v.getLsbD 0 = true ∧ on n s ∧ idle n s ∧ (s.chan n c).quenched = true) ∧
    (∃ (d : Dom) (n : Fin 16) (c : Fin 128) (v : Word) (s : State),
     let idle := fun (n : Fin 16) (s : State) => (s.tile n).cbus = [] ∧ (s.tile n).cbusHeld = [] ∧ (s.tile n).cbusMore = []
     let on := fun (n : Fin 16) (s : State) => 2 ≤ s.pwr n ∧ s.pwr n ≤ 4
     s.takes d (Reg.chanCmd n c) v = true ∧ v.getLsbD 0 = true ∧ on n s ∧ idle n s ∧ (s.chan n c).quenched = false) ∧
    (∃ (d : Dom) (n : Fin 16) (c : Fin 128) (v : Word) (s : State),
     let idle := fun (n : Fin 16) (s : State) => (s.tile n).cbus = [] ∧ (s.tile n).cbusHeld = [] ∧ (s.tile n).cbusMore = []
     let on := fun (n : Fin 16) (s : State) => 2 ≤ s.pwr n ∧ s.pwr n ≤ 4
     s.takes d (Reg.chanCmd n c) v = true ∧ v.getLsbD 0 = true ∧ on n s ∧ idle n s) ∧
    (∃ (d : Dom) (n : Fin 16) (c : Fin 128) (v : Word) (s : State),
     let room := fun (n : Fin 16) (s : State) => (s.tile n).cbus.length < 64 ∧ (s.tile n).cbusHeld = [] ∧ (s.tile n).cbusMore = []
     let on := fun (n : Fin 16) (s : State) => 2 ≤ s.pwr n ∧ s.pwr n ≤ 4
     let k := Reg.chanQlim n c
     s.takes d k v = true ∧ on n s ∧ room n s) ∧
    (∃ (d : Dom) (n : Fin 16) (c : Fin 128) (v : Word) (s : State),
     let idle := fun (n : Fin 16) (s : State) => (s.tile n).cbus = [] ∧ (s.tile n).cbusHeld = [] ∧ (s.tile n).cbusMore = []
     let on := fun (n : Fin 16) (s : State) => 2 ≤ s.pwr n ∧ s.pwr n ≤ 4
     let k := Reg.chanQlim n c
     s.takes d k v = true ∧ on n s ∧ idle n s ∧ wfld (s.tcfg n k) 18 16 = wfld v 18 16) ∧
    (∃ (d : Dom) (n : Fin 16) (c : Fin 128) (v : Word) (s : State),
     let idle := fun (n : Fin 16) (s : State) => (s.tile n).cbus = [] ∧ (s.tile n).cbusHeld = [] ∧ (s.tile n).cbusMore = []
     let on := fun (n : Fin 16) (s : State) => 2 ≤ s.pwr n ∧ s.pwr n ≤ 4
     let k := Reg.chanQlim n c
     s.takes d k v = true ∧ on n s ∧ idle n s ∧ wfld (s.tcfg n k) 18 16 ≠ wfld v 18 16) ∧
    (∃ (d : Dom) (n : Fin 16) (v : Word) (s : State),
     let room := fun (n : Fin 16) (s : State) => (s.tile n).cbus.length < 64 ∧ (s.tile n).cbusHeld = [] ∧ (s.tile n).cbusMore = []
     s.takes d (Reg.tileCtl n) v = true ∧ room n s ∧ v.getLsbD 8 = true ∧ s.flag (Reg.tileCtl n) 8 = false) ∧
    (∃ (n : Fin 16) (i : Nat) (s : State), (s.tile n).injNext = some i ∧ s.modeNow = 5 ∧
     (s.tcfg n (Reg.tileInjCtl n)).getLsbD 0 = true ∧ s.tcfg n (Reg.tileInjCount n) = 0) ∧
    (∃ (d : Dom) (n : Fin 16) (v : Word) (s : State),
     let room := fun (n : Fin 16) (s : State) => (s.tile n).cbus.length < 64 ∧ (s.tile n).cbusHeld = [] ∧ (s.tile n).cbusMore = []
     let k := Reg.tileCalCtl n
     s.takes d k v = true ∧ room n s ∧ v.getLsbD 1 = true ∧ (s.modeNow = 1 ∨ s.modeNow = 5) ∧ s.pwr n = 4) ∧
    (∃ (d : Dom) (n : Fin 16) (v : Word) (s : State),
     let room := fun (n : Fin 16) (s : State) => (s.tile n).cbus.length < 64 ∧ (s.tile n).cbusHeld = [] ∧ (s.tile n).cbusMore = []
     let k := Reg.tileCalCtl n
     s.takes d k v = true ∧ room n s ∧ v.getLsbD 1 = true ∧ (s.pwr n ≠ 4 ∨ (s.modeNow ≠ 1 ∧ s.modeNow ≠ 5))) ∧
    (∃ (n : Fin 16) (hs : List (List Nat)) (s : State), (s.tile n).running = true ∧ s.pwr n = 3 ∧ hs.length = 16 ∧
     (∀ h ∈ hs, (lutOf h).isSome = true)) ∧
    (∃ (n : Fin 16) (hs : List (List Nat)) (s : State), (s.tile n).running = true ∧ s.pwr n = 3 ∧ hs.length = 16 ∧
     (∃ h ∈ hs, lutOf h = none)) ∧
    (∃ (n : Fin 16) (k : Fin 16) (h : List Nat) (l : List Nat) (s : State),
     let g := histOf (sget [] k (s.tile n).bgHist) h
     s.pwr n = 4 ∧ (s.tcfg n (Reg.tileCalCtl n)).getLsbD 0 = true ∧ (s.tcfg n (Reg.tileCalCtl n)).getLsbD 2 = false ∧
     (s.tile n).running = false ∧ lutOf g = some l ∧
     (∀ r, r < 384 → nth l r ≤ nth (sget [] k (s.tile n).luts) r + 2 ∧ nth (sget [] k (s.tile n).luts) r ≤ nth l r + 2)) ∧
    (∃ (n : Fin 16) (w : Word) (r : List (Nat × Word)) (s : State), (s.tile n).cbus = (Reg.tileThr n, w) :: r ∧
     (s.tile n).cbusHeld = []) :=
  ⟨⟨0, st [(Reg.tileStatus 0, 3)], by decide +kernel⟩,
   ⟨.stw, 15, 127, 1, chans (st [(Reg.tileStatus 15, 4)]) 15 127 { quenched := true }, by decide +kernel⟩,
   ⟨.stw, 15, 127, 1, chans (st [(Reg.tileStatus 15, 4)]) 15 127 { quenched := true }, by decide +kernel⟩,
   ⟨.stw, 15, 127, 1, st [(Reg.tileStatus 15, 4)], by decide +kernel⟩,
   ⟨.stw, 15, 127, 1, chans (st [(Reg.tileStatus 15, 4)]) 15 127 { quenched := true }, by decide +kernel⟩,
   ⟨.stw, 0, 0, 0x70000, st [(Reg.tileStatus 0, 4)], by decide +kernel⟩,
   ⟨.stw, 0, 0, live.rd (Reg.chanQlim 0 0), st [(Reg.tileStatus 0, 4)], by decide +kernel⟩,
   ⟨.stw, 0, 0, 0x70000, st [(Reg.tileStatus 0, 4)], by decide +kernel⟩,
   ⟨.stw, 3, 0x100, st [(Reg.tileStatus 3, 4)], by decide +kernel⟩,
   ⟨2, 1000050, tileWith (st [(Reg.modeCurrent, 5), (Reg.tileStatus 2, 4)]) 2 { injNext := some 1000050, cfg := [(Reg.tileInjCtl 2, 1), (Reg.tileInjCount 2, 0), (Reg.tileInjPeriod 2, 4096)] }, by decide +kernel⟩,
   ⟨.stw, 2, 2, st [(Reg.modeCurrent, 1), (Reg.tileStatus 2, 4)], by decide +kernel⟩,
   ⟨.stw, 2, 2, st [(Reg.modeCurrent, 2), (Reg.tileStatus 2, 4)], by decide +kernel⟩,
   ⟨2, List.replicate 16 flatHist, tileWith (st [(Reg.tileStatus 2, 3)]) 2 { running := true }, by decide +kernel, by decide +kernel, by decide +kernel, fun h hh => (List.eq_of_mem_replicate hh) ▸ flatHist_passes⟩,
   ⟨2, List.replicate 16 [1], tileWith (st [(Reg.tileStatus 2, 3)]) 2 { running := true }, by decide +kernel⟩,
   ⟨2, 15, flatHist, (lutOf flatHist).getD [], tileWith (st [(Reg.tileStatus 2, 4)]) 2 { luts := [(15, (lutOf flatHist).getD [])], cfg := [(Reg.tileCalCtl 2, 1)] }, by decide +kernel, by decide +kernel, by decide +kernel, by decide +kernel, flatHist_gathered, fun _ _ => ⟨Nat.le_add_right _ _, Nat.le_add_right _ _⟩⟩,
   ⟨2, 7, [], tileWith (st [(Reg.tileStatus 2, 4)]) 2 { cbus := [(Reg.tileThr 2, 7)] }, by decide +kernel⟩⟩

theorem witness_TilesPowerUpStepByStep :
    (∃ (n : Fin 16) (a : Nat) (s : State), (s.tile n).onAt = some a ∧
     (s.pwr n ≠ 0 ∨ s.tilesWanted = false ∨ s.flag (Reg.tileCtl n) 8 = true)) ∧
    (∃ (n : Fin 16) (a : Nat) (s : State), (s.tile n).onAt = some a ∧ s.pwr n = 0 ∧ s.tilesWanted = true ∧
     s.flag (Reg.tileCtl n) 8 = false) ∧
    (∃ (n : Fin 16) (s : State), s.pwr n = 1) ∧
    (∃ (n : Fin 16) (w : Word) (s : State), s.pwr n = 2 ∧ w = s.tileCheck n) ∧
    (∃ (n : Fin 16) (w : Word) (s : State), s.pwr n = 2 ∧ w ≠ s.tileCheck n ∧ (s.tile n).mismatches = 0) ∧
    (∃ (n : Fin 16) (w : Word) (s : State), s.pwr n = 2 ∧ w ≠ s.tileCheck n ∧ (s.tile n).mismatches ≠ 0) ∧
    (∃ (n : Fin 16) (s : State), s.pwr n = 1) ∧
    (∃ (n : Fin 16) (s : State), 1 ≤ s.pwr n ∧ s.pwr n ≤ 4) :=
  ⟨⟨0, 500, tileWith live 0 { onAt := some 500 }, by decide +kernel⟩,
   ⟨0, 500, tileWith (st [(Reg.modeCurrent, 1)]) 0 { onAt := some 500 }, by decide +kernel⟩,
   ⟨0, st [(Reg.tileStatus 0, 1)], by decide +kernel⟩,
   ⟨0, (st [(Reg.tileStatus 0, 2)]).tileCheck 0, st [(Reg.tileStatus 0, 2)], by decide +kernel⟩,
   ⟨0, (st [(Reg.tileStatus 0, 2)]).tileCheck 0 + 1, st [(Reg.tileStatus 0, 2)], by decide +kernel⟩,
   ⟨0, (st [(Reg.tileStatus 0, 2)]).tileCheck 0 + 1, tileWith (st [(Reg.tileStatus 0, 2)]) 0 { mismatches := 1 }, by decide +kernel⟩,
   ⟨15, st [(Reg.tileStatus 15, 1)], by decide +kernel⟩,
   ⟨15, st [(Reg.tileStatus 15, 4)], by decide +kernel⟩⟩

theorem witness_LinkLanesLockAndRestripe :
    (∃ (n : Fin 16) (l : Fin 4) (s : State), s.lst n ≠ 0 ∧ s.flag (Reg.tlnkLstat n) (12 + l) = false) ∧
    (∃ (n : Fin 16) (l : Fin 4) (s : State),
     let locked := fun (n : Fin 16) (s : State) => s.fld (Reg.tlnkLstat n) 15 12
     let disabled := fun (n : Fin 16) (s : State) => s.fld (Reg.tlnkCtl n) 3 0
     s.flag (Reg.tlnkLstat n) (12 + l) = true ∧ s.flag (Reg.tlnkCtl n) l = false ∧ s.lst n = 2 ∧ locked n s = 15 ∧
     disabled n s = 0) ∧
    (∃ (n : Fin 16) (l : Fin 4) (s : State), s.flag (Reg.tlnkLstat n) (12 + l) = true ∧ s.flag (Reg.tlnkCtl n) l = true) ∧
    (∃ (n : Fin 16) (l : Fin 4) (s : State), s.flag (Reg.tlnkLstat n) (12 + l) = false) ∧
    (∃ (n : Fin 16) (s : State), s.lst n = 1 ∧ s.time.running = true ∧ popCount 4 (s.lanesUp n) = 3) ∧
    (∃ (n : Fin 16) (s : State), s.lst n = 1 ∧ s.time.running = true ∧ s.lanesUp n = 15 ∧ s.deskewed n = true) ∧
    (∃ (n : Fin 16) (s : State), s.lst n = 1 ∧ s.time.running = true ∧ s.lanesUp n = 15 ∧ s.deskewed n = false) ∧
    (∃ (n : Fin 16) (s : State), s.lst n = 1 ∧ s.time.running = true ∧ popCount 4 (s.lanesUp n) < 3 ∧
     (s.link n).downSent = false) ∧
    (∃ (n : Fin 16) (s : State), s.lst n = 1 ∧ s.time.running = true ∧ popCount 4 (s.lanesUp n) < 3 ∧
     (s.link n).downSent = true) ∧
    (∃ (n : Fin 16) (f : Nat) (s : State), s.lst n = 4 ∧ (s.link n).changeAt = some f ∧
     Nat.land (s.link n).changeTo (s.lanesUp n) = (s.link n).changeTo) ∧
    (∃ (n : Fin 16) (f : Nat) (s : State), s.lst n = 4 ∧ (s.link n).changeAt = some f ∧
     Nat.land (s.link n).changeTo (s.lanesUp n) ≠ (s.link n).changeTo) ∧
    (∃ (n : Fin 16) (s : State),
     let active := fun (n : Fin 16) (s : State) => s.fld (Reg.tlnkLstat n) 11 8
     s.lst n = 3 ∧ Nat.land (s.lanesUp n) (15 - active n s) ≠ 0) ∧
    (∃ (d : Dom) (n : Fin 16) (v : Word) (s : State), s.takes d (Reg.tlnkCtl n) v = true ∧ 1 < popCount 4 (wfld v 3 0)) ∧
    (∃ (d : Dom) (n : Fin 16) (v : Word) (s : State) (l : Fin 4),
     let disabled := fun (n : Fin 16) (s : State) => s.fld (Reg.tlnkCtl n) 3 0
     s.takes d (Reg.tlnkCtl n) v = true ∧ wfld v 3 0 = 2 ^ l.val ∧ disabled n s = 0 ∧ s.lst n = 2) :=
  ⟨⟨0, 3, st [(Reg.tlnkLstat 0, 0x7001)], by decide +kernel⟩,
   ⟨0, 3, st [(Reg.tlnkLstat 0, 0xFF02)], by decide +kernel⟩,
   ⟨0, 3, st [(Reg.tlnkLstat 0, 0xF703), (Reg.tlnkCtl 0, 8)], by decide +kernel⟩,
   ⟨0, 3, st [(Reg.tlnkLstat 0, 0x7001)], by decide +kernel⟩,
   ⟨1, st [(Reg.tlnkLstat 1, 0x7001)], by decide +kernel⟩,
   ⟨1, st [(Reg.tlnkLstat 1, 0xF001)], by decide +kernel⟩,
   ⟨1, linkWith (st [(Reg.tlnkLstat 1, 0xF001)]) 1 { skew := [(3, 17)] }, by decide +kernel⟩,
   ⟨1, st [(Reg.tlnkLstat 1, 0x3001)], by decide +kernel⟩,
   ⟨1, linkWith (st [(Reg.tlnkLstat 1, 0x3001)]) 1 { downSent := true }, by decide +kernel⟩,
   ⟨1, 18, linkWith (st [(Reg.tlnkLstat 1, 0x7F04)]) 1 { changeAt := some 18, changeTo := 7 }, by decide +kernel⟩,
   ⟨1, 18, linkWith (st [(Reg.tlnkLstat 1, 0x3F04)]) 1 { changeAt := some 18, changeTo := 7 }, by decide +kernel⟩,
   ⟨1, st [(Reg.tlnkLstat 1, 0xF703)], by decide +kernel⟩,
   ⟨.stw, 1, 0xC, live, by decide +kernel⟩,
   ⟨.stw, 1, 8, st [(Reg.tlnkLstat 1, 0xFF02)], 3, by decide +kernel⟩⟩

theorem witness_TileFramesReachIntake :
    (∃ (n : Fin 16) (s : State), s.pwr n = 4 ∧ (s.tile n).liveFrom.isSome = true) ∧
    (∃ (n : Fin 16) (l : Fin 4) (s : State) (c : Nat) (f : Nat) (g : _), s.lst n ≠ 0 ∧
     (s.stripe n).contains l.val = true ∧ s.laneOf n = l.val ∧
     let due := (s.link n).status.contains l.val = true ∧ 50688 ≤ s.creditNow n
     ¬ due ∧ s.arbTile n = some (c, f) ∧ (s.link n).own = none ∧ (s.link n).requester = true ∧
     (s.link n).holds = some g ∧ (s.link n).closedTo ≤ g) ∧
    (∃ (n : Fin 16) (l : Fin 4) (s : State) (c : Nat) (f : Nat), s.lst n ≠ 0 ∧ (s.stripe n).contains l.val = true ∧
     s.laneOf n = l.val ∧
     let due := (s.link n).status.contains l.val = true ∧ 50688 ≤ s.creditNow n
     ¬ due ∧ s.arbTile n = some (c, f) ∧ ((s.link n).requester = false ∨ (s.link n).own.isSome = true)) ∧
    (∃ (n : Fin 16) (l : Fin 4) (s : State) (c : Nat) (f : Nat), s.lst n ≠ 0 ∧ (s.stripe n).contains l.val = true ∧
     s.laneOf n = l.val ∧
     let due := (s.link n).status.contains l.val = true ∧ 50688 ≤ s.creditNow n
     ¬ due ∧ s.arbTile n = some (c, f)) ∧
    (∃ (n : Fin 16) (l : Fin 4) (s : State) (c : Nat) (f : Nat), s.lst n ≠ 0 ∧ (s.stripe n).contains l.val = true ∧
     s.laneOf n = l.val ∧
     let due := (s.link n).status.contains l.val = true ∧ 50688 ≤ s.creditNow n
     ¬ due ∧ s.arbTile n = some (c, f)) ∧
    (∃ (n : Fin 16) (l : Fin 4) (s : State), s.lst n ≠ 0 ∧ (s.stripe n).contains l.val = true ∧ s.laneOf n = l.val ∧
     let due := (s.link n).status.contains l.val = true ∧ 50688 ≤ s.creditNow n
     ¬ due ∧ s.arbTile n = none) ∧
    (∃ (n : Fin 16) (l : Fin 4) (s : State), s.lst n ≠ 0 ∧ (s.stripe n).contains l.val = true ∧ s.laneOf n = l.val ∧
     let due := (s.link n).status.contains l.val = true ∧ 50688 ≤ s.creditNow n
     due ∧ 2 ≤ s.lst n) ∧
    (∃ (n : Fin 16) (s : State), s.lst n = 0) ∧
    (∃ (n : Fin 16) (l : Fin 4) (s : State), s.lst n ≠ 0 ∧ (s.stripe n).contains l.val = false) ∧
    (∃ (n : Fin 16) (l : Fin 4) (s : State), s.lst n ≠ 0 ∧ (s.stripe n).contains l.val = true ∧ s.laneOf n ≠ l.val) ∧
    (∃ (n : Fin 16) (l : Fin 4) (f : Nat) (w0 : DWord) (w1 : DWord) (r : List (Nat × DWord × DWord)) (s : State),
     let mayStart := fun (n : Fin 16) (l : Fin 4) (s : State) => (s.stripe n).contains l.val = false ∨ s.laneOf n = l.val
     (s.tile n).headers = (f, w0, w1) :: r ∧ s.holdsBefore n f = false ∧ s.lst n ≠ 0 ∧ mayStart n l s ∧
     (s.lst n = 1 ∨ (s.link n).own.isSome = true ∨ (s.link n).requester = false ∨ f < (s.link n).carryFrom ∨ 3 < dfld w0 59 56)) ∧
    (∃ (n : Fin 16) (l : Fin 4) (f : Nat) (w0 : DWord) (w1 : DWord) (r : List (Nat × DWord × DWord)) (s : State),
     let mayStart := fun (n : Fin 16) (l : Fin 4) (s : State) => (s.stripe n).contains l.val = false ∨ s.laneOf n = l.val
     (s.tile n).headers = (f, w0, w1) :: r ∧ s.holdsBefore n f = false ∧ s.lst n ≠ 0 ∧ mayStart n l s) ∧
    (∃ (n : Fin 16) (l : Fin 4) (f : Nat) (w0 : DWord) (w1 : DWord) (r : List (Nat × DWord × DWord)) (s : State),
     let mayStart := fun (n : Fin 16) (l : Fin 4) (s : State) => (s.stripe n).contains l.val = false ∨ s.laneOf n = l.val
     (s.tile n).headers = (f, w0, w1) :: r ∧ s.holdsBefore n f = false ∧ s.lst n ≠ 0 ∧ mayStart n l s) ∧
    (∃ (n : Fin 16) (l : Fin 4) (f : Nat) (w0 : DWord) (w1 : DWord) (r : List (Nat × DWord × DWord)) (s : State),
     let mayStart := fun (n : Fin 16) (l : Fin 4) (s : State) => (s.stripe n).contains l.val = false ∨ s.laneOf n = l.val
     (s.tile n).headers = (f, w0, w1) :: r ∧ s.holdsBefore n f = false ∧ s.lst n ≠ 0 ∧ mayStart n l s ∧ 2 ≤ s.lst n ∧
     (s.link n).own = none ∧ (s.link n).requester = true ∧ (s.link n).carryFrom ≤ f ∧ dfld w0 59 56 ≤ 3) ∧
    (∃ (n : Fin 16) (s : State), (s.tile n).countDue = true ∧ (s.link n).requester = true ∧ s.creditNow n < 50688) ∧
    (∃ (n : Fin 16) (l : Fin 4) (s : State),
     let mayStart := fun (n : Fin 16) (l : Fin 4) (s : State) => (s.stripe n).contains l.val = false ∨ s.laneOf n = l.val
     (s.tile n).countDue = true ∧ (s.link n).requester = true ∧ 50688 ≤ s.creditNow n ∧ mayStart n l s) ∧
    (∃ (n : Fin 16) (l : Fin 4) (s : State),
     let mayStart := fun (n : Fin 16) (l : Fin 4) (s : State) => (s.stripe n).contains l.val = false ∨ s.laneOf n = l.val
     (s.tile n).countDue = true ∧ (s.link n).requester = true ∧ 50688 ≤ s.creditNow n ∧ mayStart n l s) ∧
    (∃ (n : Fin 16) (l : Fin 4) (s : State),
     let mayStart := fun (n : Fin 16) (l : Fin 4) (s : State) => (s.stripe n).contains l.val = false ∨ s.laneOf n = l.val
     (s.tile n).countDue = true ∧ (s.link n).requester = true ∧
     let ks := (s.tile n).counts.take 14
     let rest := (s.tile n).counts.drop 14
     50688 ≤ s.creditNow n ∧ mayStart n l s ∧ (s.link n).own = none ∧ (∀ k ∈ ks, k ∈ reported n) ∧
     (rest ≠ [] ∨ s.tileReadback n = s.tileCheck n)) ∧
    (∃ (n : Fin 16) (h : Nat) (s : State), (s.link n).requester = true ∧ (s.link n).holds = some h ∧
     s.time.running = true) ∧
    (∃ (n : Nat) (f : Nat) (w : DWord) (s : State), s.islandLive 2 = true ∧ s.arbIntake = some (n, f, w) ∧
     s.tailTakes f = false ∧ s.acq.tailStop = none ∧ s.modeOf f = 1) ∧
    (∃ (n : Nat) (f : Nat) (w : DWord) (s : State), s.islandLive 2 = true ∧ s.arbIntake = some (n, f, w) ∧
     s.tailTakes f = false ∧ s.acq.tailStop = none ∧ (s.modeOf f = 2 ∨ s.modeOf f = 5)) ∧
    (∃ (n : Nat) (f : Nat) (w : DWord) (s : State), s.islandLive 2 = true ∧ s.arbIntake = some (n, f, w) ∧
     s.tailTakes f = false ∧ s.acq.tailStop = none ∧ s.modeOf f = 3 ∧ (s.sealedOff 2 || s.sealedOff 4) = true) ∧
    (∃ (n : Nat) (f : Nat) (w : DWord) (s : State), s.islandLive 2 = true ∧ s.arbIntake = some (n, f, w) ∧
     s.tailTakes f = false ∧ s.acq.tailStop = none ∧ s.modeOf f = 3 ∧ (s.sealedOff 2 || s.sealedOff 4) = false ∧
     s.passes 2 4 = false) ∧
    (∃ (n : Nat) (f : Nat) (w : DWord) (s : State), s.islandLive 2 = true ∧ s.arbIntake = some (n, f, w) ∧
     s.tailTakes f = false ∧ s.acq.tailStop = none ∧ s.modeOf f = 3 ∧ s.passes 2 4 = true ∧ s.passes 4 18 = true ∧
     s.acq.skip = none ∧ s.flag Reg.seccInject 31 = false ∧ s.acq.ring.length + s.acq.staged.length < 655360) :=
  ⟨⟨0, tileWith (st [(Reg.tileStatus 0, 4)]) 0 { liveFrom := some 15, sendFrame := 15 }, by decide +kernel⟩,
   ⟨0, 0, linkWith (tileWith (chans (st [(Reg.tileStatus 0, 4), (Reg.tlnkLstat 0, 0xFF02)]) 0 5 { derand := [(15, 77)] }) 0 { sendFrame := 15 }) 0 { requester := true, holds := some 15 }, 5, 15, 15, by decide +kernel⟩,
   ⟨0, 0, linkWith (tileWith (chans (st [(Reg.tileStatus 0, 4), (Reg.tlnkLstat 0, 0xFF01)]) 0 5 { derand := [(15, 77)] }) 0 { sendFrame := 15 }) 0 { requester := false }, 5, 15, by decide +kernel⟩,
   ⟨0, 0, linkWith (tileWith (chans (st [(Reg.tileStatus 0, 4), (Reg.tlnkLstat 0, 0xFF02)]) 0 5 { derand := [(15, 77)] }) 0 { sendFrame := 15 }) 0 { requester := true, holds := some 15 }, 5, 15, by decide +kernel⟩,
   ⟨0, 0, linkWith (tileWith (chans (st [(Reg.tileStatus 0, 4), (Reg.tlnkLstat 0, 0xFF02)]) 0 5 { derand := [(15, 77)] }) 0 { sendFrame := 15 }) 0 { requester := true, holds := some 15 }, 5, 15, by decide +kernel⟩,
   ⟨0, 3, linkWith (st [(Reg.tileStatus 0, 4), (Reg.tlnkLstat 0, 0xFF02)]) 0 { turn := 3 }, by decide +kernel⟩,
   ⟨0, 3, linkWith (st [(Reg.tileStatus 0, 4), (Reg.tlnkLstat 0, 0xFF02)]) 0 { requester := true, holds := some 15, status := [3], statusFrame := 15, credit := 50688, creditAt := 1000000, turn := 3 }, by decide +kernel⟩,
   ⟨0, live, by decide +kernel⟩,
   ⟨0, 3, st [(Reg.tileStatus 0, 4), (Reg.tlnkLstat 0, 0xF703)], by decide +kernel⟩,
   ⟨0, 3, st [(Reg.tileStatus 0, 4), (Reg.tlnkLstat 0, 0xFF02)], by decide +kernel⟩,
   ⟨0, 0, 16, 0x200000000000010, 6, [], linkWith (tileWith (st [(Reg.tileStatus 0, 4), (Reg.tlnkLstat 0, 0xFF01)]) 0 { headers := [(16, 0x200000000000010, 6)], sendFrame := 16 }) 0 { holds := some 15 }, by decide +kernel⟩,
   ⟨0, 0, 16, 0x200000000000010, 6, [], linkWith (tileWith (st [(Reg.tileStatus 0, 4), (Reg.tlnkLstat 0, 0xFF01)]) 0 { headers := [(16, 0x200000000000010, 6)], sendFrame := 16 }) 0 { holds := some 15 }, by decide +kernel⟩,
   ⟨0, 0, 16, 0x10, 0x4000000000000, [], linkWith (tileWith (st [(Reg.tileStatus 0, 4), (Reg.tlnkLstat 0, 0xFF02)]) 0 { headers := [(16, 0x10, 0x4000000000000)], sendFrame := 16 }) 0 { requester := true, holds := some 15, credit := 50688, creditAt := 1000000 }, by decide +kernel⟩,
   ⟨0, 0, 16, 0x10, 0x4000000000000, [], linkWith (tileWith (st [(Reg.tileStatus 0, 4), (Reg.tlnkLstat 0, 0xFF02)]) 0 { headers := [(16, 0x10, 0x4000000000000)], sendFrame := 16 }) 0 { requester := true, holds := some 15, credit := 50688, creditAt := 1000000 }, by decide +kernel⟩,
   ⟨0, linkWith (tileWith (st [(Reg.tileStatus 0, 4), (Reg.tlnkLstat 0, 0xFF02)]) 0 { countDue := true }) 0 { requester := true, credit := 50687, creditAt := 1000000 }, by decide +kernel⟩,
   ⟨0, 0, linkWith (tileWith (st [(Reg.tileStatus 0, 4), (Reg.tlnkLstat 0, 0xFF02)]) 0 { countDue := true }) 0 { requester := true, credit := 50688, creditAt := 1000000 }, by decide +kernel⟩,
   ⟨0, 0, linkWith (tileWith (st [(Reg.tileStatus 0, 4), (Reg.tlnkLstat 0, 0xFF02)]) 0 { countDue := true }) 0 { requester := true, credit := 50688, creditAt := 1000000 }, by decide +kernel⟩,
   ⟨0, 0, linkWith (tileWith (st [(Reg.tileStatus 0, 4), (Reg.tlnkLstat 0, 0xFF02)]) 0 { countDue := true, counts := [Reg.tileSeuCount 0] }) 0 { requester := true, credit := 50688, creditAt := 1000000 }, by decide +kernel⟩,
   ⟨0, 15, linkWith (st [(Reg.tileStatus 0, 4), (Reg.tlnkLstat 0, 0xFF02)]) 0 { requester := true, holds := some 15 }, by decide +kernel⟩,
   ⟨0, 15, 77, linkWith (inMode 1 []) 0 { requester := true, holds := some 16, buf := [(15, 77)] }, by decide +kernel⟩,
   ⟨0, 15, 77, linkWith (inMode 2 []) 0 { requester := true, holds := some 16, buf := [(15, 77)] }, by decide +kernel⟩,
   ⟨0, 15, 77, islands (linkWith (inMode 3 []) 0 { requester := true, holds := some 16, buf := [(15, 77)] }) 0x10 0, by decide +kernel⟩,
   ⟨0, 15, 77, islands (linkWith (inMode 3 []) 0 { requester := true, holds := some 16, buf := [(15, 77)] }) 0 0x10, by decide +kernel⟩,
   ⟨0, 15, 77, linkWith (inMode 3 []) 0 { requester := true, holds := some 16, buf := [(15, 77)] }, by decide +kernel⟩⟩

theorem witness_AuxEdgesAndIntervals :
    (∃ (tick : Nat) (b : Fin 256) (s : State),
     let T := tick * 256 + b.val
     (∀ o, s.tiu.aux = some o → o.last + 819 < T)) ∧
    (∃ (l : Fin 4) (tick : Nat) (b : Fin 256) (high : Bool) (s : State) (u : Fin 4),
     let rising := fun (l : Fin 4) (high : Bool) (s : State) => high != s.flag Reg.tiuAuxCtl l
     let T := tick * 256 + b.val
     (∀ o, s.tiu.aux = some o → o.last + 819 < T) ∧
     let c := Reg.tiuCtl u
     s.flag c 0 = true ∧ s.time.xtal = true ∧ (s.tiuUnit u).held = none ∧ s.fld c 5 4 = l ∧
     edgeFits (s.fld c 7 6) (rising l high s) = true) ∧
    (∃ (l : Fin 4) (tick : Nat) (b : Fin 256) (high : Bool) (s : State) (u : Fin 4) (h : TiuHeld),
     let rising := fun (l : Fin 4) (high : Bool) (s : State) => high != s.flag Reg.tiuAuxCtl l
     let T := tick * 256 + b.val
     (∀ o, s.tiu.aux = some o → o.last + 819 < T) ∧
     let c := Reg.tiuCtl u
     s.flag c 0 = true ∧ s.time.xtal = true ∧ (s.tiuUnit u).held = some h ∧ h.isStop = false ∧ T ≤ h.at' + 2 ^ 48 ∧
     s.fld c 9 8 = l ∧ edgeFits (s.fld c 11 10) (rising l high s) = true ∧ (s.tiuUnit u).queue.length < 16) ∧
    (∃ (l : Fin 4) (tick : Nat) (b : Fin 256) (o : AuxOpen) (s : State), s.tiu.aux = some o ∧
     let T := tick * 256 + b.val
     T ≤ o.last + 819 ∧ (o.line = l.val ∨ o.more = true ∨ o.at' + 819 < T)) ∧
    (∃ (l : Fin 4) (tick : Nat) (b : Fin 256) (o : AuxOpen) (s : State), s.tiu.aux = some o ∧
     let T := tick * 256 + b.val
     T ≤ o.last + 819 ∧ o.line ≠ l.val ∧ o.more = false ∧ o.at' ≤ T ∧ T ≤ o.at' + 819) ∧
    (∃ (u : Fin 4) (h : TiuHeld) (s : State), (s.tiuUnit u).held = some h ∧ (s.tiuUnit u).queue.length < 16) ∧
    (∃ (d : Dom) (u : Fin 4) (v : Word) (s : State),
     let c := Reg.tiuCtl u
     s.takes d c v = true ∧ s.flag c 0 = false ∧ v.getLsbD 0 = false) ∧
    (∃ (d : Dom) (u : Fin 4) (v : Word) (s : State),
     let c := Reg.tiuCtl u
     s.takes d c v = true ∧ s.flag c 0 = true ∧ (s.rd c ^^^ v) &&& 0x1FF2 ≠ 0) :=
  ⟨⟨1000100, 255, live, by decide +kernel⟩,
   ⟨3, 1000100, 255, true, st [(Reg.tiuCtl 3, 0xB1)], 3, by decide +kernel⟩,
   ⟨2, 1000100, 255, true, tiuHeld (st [(Reg.tiuCtl 3, 0xAB1)]) 3 { held := some ⟨false, 256000000⟩ }, 3, ⟨false, 256000000⟩, by decide +kernel⟩,
   ⟨2, 1000003, 51, ⟨2, 256000000, 0, 0, 256000000, false⟩, { live with tiu := { live.tiu with aux := some ⟨2, 256000000, 0, 0, 256000000, false⟩ } }, by decide +kernel⟩,
   ⟨1, 1000003, 51, ⟨2, 256000000, 0, 0, 256000000, false⟩, { live with tiu := { live.tiu with aux := some ⟨2, 256000000, 0, 0, 256000000, false⟩ } }, by decide +kernel⟩,
   ⟨3, ⟨true, 256000000⟩, tiuHeld (st [(Reg.tiuCtl 3, 1)]) 3 { held := some ⟨true, 256000000⟩ }, by decide +kernel⟩,
   ⟨.stw, 3, 0x30, st [(Reg.tiuCtl 3, 0x10)], by decide +kernel⟩,
   ⟨.stw, 3, 0x31, st [(Reg.tiuCtl 3, 0x11)], by decide +kernel⟩⟩

theorem witness_TbusMessagesAreReceived :
    (∃ (src : Fin 16) (ok : BitVec 2) (f0 : Int) (f1 : Int) (p : Nat) (s : State), src.val ≠ s.slot ∧
     s.tbusCopy (s.tbusIn src ok f0 f1) = some p) ∧
    (∃ (src : Fin 16) (ok : BitVec 2) (f0 : Int) (f1 : Int) (p : Nat) (s : State), src.val ≠ s.slot ∧
     s.tbusCopy (s.tbusIn src ok f0 f1) = some p ∧ s.sealedOff 3 = true) ∧
    (∃ (src : Fin 16) (ok : BitVec 2) (f0 : Int) (f1 : Int) (p : Nat) (s : State), src.val ≠ s.slot ∧
     s.tbusCopy (s.tbusIn src ok f0 f1) = some p ∧ s.sealedOff 3 = false) ∧
    (∃ (src : Fin 16) (ok : BitVec 2) (f0 : Int) (f1 : Int) (p : Nat) (s : State), src.val ≠ s.slot ∧
     s.tbusCopy (s.tbusIn src ok f0 f1) = some p ∧ s.sealedOff 4 = true) ∧
    (∃ (src : Fin 16) (ok : BitVec 2) (f0 : Int) (f1 : Int) (p : Nat) (s : State), src.val ≠ s.slot ∧
     s.tbusCopy (s.tbusIn src ok f0 f1) = some p ∧ s.sealedOff 4 = false) ∧
    (∃ (src : Fin 16) (ok : BitVec 2) (f0 : Int) (f1 : Int) (p : Nat) (s : State) (f : Nat), src.val ≠ s.slot ∧
     s.tbusCopy (s.tbusIn src ok f0 f1) = some p ∧ f < 2 ^ 51 ∧ s.flag Reg.timeSyncCtl 1 = true ∧
     s.time.running = true ∧ s.now < 2 ^ 64 ∧
     ((f * 8192 + src.val * 512 + 32 : Nat) : Int) - ((if p = 0 then f0 else f1) + 128) / 256 +
       (((s.fld (Reg.tbusOffset p) 15 0 + 128) / 256 : Nat) : Int) = (s.now : Int)) ∧
    (∃ (src : Fin 16) (ok : BitVec 2) (f0 : Int) (f1 : Int) (p : Nat) (s : State), src.val ≠ s.slot ∧
     s.tbusCopy (s.tbusIn src ok f0 f1) = some p ∧ s.slot = 0) ∧
    (∃ (src : Fin 16) (ok : BitVec 2) (f0 : Int) (f1 : Int) (p : Nat) (s : State) (slot : Fin 16), src.val ≠ s.slot ∧
     s.tbusCopy (s.tbusIn src ok f0 f1) = some p ∧ slot.val = s.slot ∧ src.val = 0 ∧ s.flag Reg.tbusCalCtl 0 = true ∧
     s.time.up < s.tbus.calStart + 200000000) ∧
    (∃ (src : Fin 16) (s : State), src.val = s.slot) ∧
    (∃ (src : Fin 16) (s : State), src.val = s.slot) ∧
    (∃ (src : Fin 16) (s : State), src.val = s.slot) ∧
    (∃ (src : Fin 16) (s : State), src.val = s.slot) ∧
    (∃ (p : Fin 2) (s : State), s.flag Reg.tbusCtl 1 = true ∧ s.flag Reg.tbusCtl (2 + p) = true) ∧
    (∃ (p : Fin 2) (s : State), s.flag Reg.tbusCtl 1 = true ∧ s.flag Reg.tbusCtl (2 + p) = true) ∧
    (∃ (src : Fin 16) (u : Nat) (s : State), s.tbus.heard.find? (fun e => decide (e.1 = src.val)) = some (src.val, u) ∧
     s.time.running = true) :=
  ⟨⟨1, 1, 5, 6, 0, tbusOn 5 [], by decide +kernel⟩,
   ⟨1, 2, 5, 6, 1, islands (tbusOn 5 []) 8 0, by decide +kernel⟩,
   ⟨1, 2, 5, 6, 1, tbusOn 5 [], by decide +kernel⟩,
   ⟨1, 2, 5, 6, 1, islands (tbusOn 5 []) 0x10 0, by decide +kernel⟩,
   ⟨1, 2, 5, 6, 1, tbusOn 5 [], by decide +kernel⟩,
   ⟨1, 1, 5, 6, 0, tbusOn 5 [(Reg.timeSyncCtl, 2), (Reg.tbusOffset 0, 8064)], 122, by decide +kernel⟩,
   ⟨1, 1, 5, 6, 0, tbusOn 0 [], by decide +kernel⟩,
   ⟨0, 1, 5, 6, 0, tbusOn 5 [(Reg.tbusCalCtl, 1)], 5, by decide +kernel⟩,
   ⟨5, tbusOn 5 [], by decide +kernel⟩,
   ⟨5, tbusOn 5 [], by decide +kernel⟩,
   ⟨5, tbusOn 5 [], by decide +kernel⟩,
   ⟨5, tbusOn 5 [], by decide +kernel⟩,
   ⟨1, tbusOn 5 [(Reg.tbusRxCrc, 0xFFFF0000)], by decide +kernel⟩,
   ⟨1, tbusOn 5 [(Reg.tbusRxCrc, 0xFFFF0000)], by decide +kernel⟩,
   ⟨1, 500, { tbusOn 5 [] with tbus := { live.tbus with heard := [(1, 500)], refSeq := [(1, 7), (2, 8)] } }, by decide +kernel⟩⟩

theorem witness_TbusSendsAndCalibrates :
    (∃ (d : Dom) (v : Word) (s : State), s.takes d Reg.tbusTxCmd v = true ∧ v.getLsbD 31 = true ∧
     let type := wfld v 19 16
     (type = 2 ∨ type = 3) ∧ s.tbus.txq.length < 16) ∧
    (∃ (d : Dom) (v : Word) (s : State), s.takes d Reg.tbusTxCmd v = true ∧ v.getLsbD 31 = true ∧
     let type := wfld v 19 16
     (type = 2 ∨ type = 3) ∧ 16 ≤ s.tbus.txq.length) ∧
    (∃ (d : Dom) (v : Word) (s : State), s.takes d Reg.tbusTxCmd v = true ∧ v.getLsbD 31 = true ∧
     let type := wfld v 19 16
     (type = 0 ∨ 3 < type ∨ (type = 1 ∧ s.slot ≠ 0))) ∧
    (∃ (w : Option (Dom × Word)) (s : State), s.flag Reg.tbusCalCtl 0 = false ∧
     (match w with
       | none => s.fld Reg.tbusCalCtl 31 16 ≠ 0
       | some (d, v) => s.takes d Reg.tbusCalCtl v = true ∧ v.getLsbD 0 = true)) ∧
    (∃ (s : State), s.flag Reg.tbusCalCtl 0 = true ∧ 256 ≤ sget 0 0 s.tbus.count ∧ 256 ≤ sget 0 1 s.tbus.count) ∧
    (∃ (s : State), s.flag Reg.tbusCalCtl 0 = true ∧ s.calFull = true) ∧
    (∃ (s : State), s.flag Reg.tbusCalCtl 0 = true ∧ s.calFull = false) ∧
    (∃ (w : Nat), w < 2 ^ 64) :=
  ⟨⟨.stw, 0x80020005, tbusOn 5 [], by decide +kernel⟩,
   ⟨.stw, 0x80020005, { tbusOn 5 [] with tbus := { live.tbus with txq := List.replicate 16 (2, 5, 7) } }, by decide +kernel⟩,
   ⟨.stw, 0x80010005, tbusOn 5 [], by decide +kernel⟩,
   ⟨some (.stw, 1), tbusOn 0 [], by decide +kernel⟩,
   ⟨{ tbusOn 5 [(Reg.tbusCalCtl, 1)] with tbus := { live.tbus with count := [(0, 256), (1, 256)], sumAdd := [(0, 1000)], sumSub := [(0, -1001)] } }, by decide +kernel⟩,
   ⟨{ tbusOn 5 [(Reg.tbusCalCtl, 1)] with tbus := { live.tbus with count := [(0, 256), (1, 256)] } }, by decide +kernel⟩,
   ⟨{ tbusOn 5 [(Reg.tbusCalCtl, 1)] with tbus := { live.tbus with count := [(0, 256), (1, 255)] } }, by decide +kernel⟩,
   ⟨0xFFFFFFFFFFFFFFFF, by decide +kernel⟩⟩

theorem witness_TriggerRulesAndPrimitives :
    (∃ (s : State), s.trig.tpq.length < 32) ∧
    (∃ (s : State), 32 ≤ s.trig.tpq.length) ∧
    (∃ (s : State), s.islandLive 20 = false) ∧
    (∃ (p : Nat) (r : List (Bool × Nat)) (s : State), s.islandLive 20 = true ∧ s.trig.tpq = (true, p) :: r) ∧
    (∃ (p : Nat) (r : List (Bool × Nat)) (s : State), s.islandLive 20 = true ∧ s.trig.tpq = (false, p) :: r ∧
     p < 2 ^ 64) ∧
    (∃ (s : State), s.islandLive 20 = true ∧ s.trig.tpq = [] ∧ s.compat = false ∧ sget [] 4 s.lane.cc = []) :=
  ⟨⟨{ live with trig := { live.trig with tpq := List.replicate 31 (true, 5) } }, by decide +kernel⟩,
   ⟨{ live with trig := { live.trig with tpq := List.replicate 32 (true, 5) } }, by decide +kernel⟩,
   ⟨islands live 0x100000 0, by decide +kernel⟩,
   ⟨5, [], { st [(Reg.utxState 16, 0x104)] with trig := { live.trig with tpq := [(true, 5)] } }, by decide +kernel⟩,
   ⟨5, [], { st [(Reg.utxState 16, 0x104)] with trig := { live.trig with tpq := [(false, 5)] } }, by decide +kernel⟩,
   ⟨st [(Reg.utxState 16, 2), (Reg.utxState 17, 2)], by decide +kernel⟩⟩

theorem witness_AcceptsReachTheRing :
    (∃ (d : Dom) (v : Word) (s : State), s.takes d Reg.trigAccGo v = true ∧ v.getLsbD 31 = true ∧ s.sealedOff 3 = false) ∧
    (∃ (d : Dom) (v : Word) (s : State), s.takes d Reg.trigAccGo v = true ∧ v.getLsbD 31 = true ∧ s.sealedOff 3 = true) ∧
    (
     ∃ (src : Fin 5) (pre : List (Nat × Nat × Nat)) (post : List (Nat × Nat × Nat)) (k : Nat) (tick : Nat) (id : Nat) (s : State),
     s.trig.fly = pre ++ (k, tick, id) :: post ∧ k % 8 = src.val ∧ (∀ x ∈ pre, x.1 % 8 ≠ src.val) ∧
     s.crosses (acceptIsland k) 3 = false) ∧
    (
     ∃ (src : Fin 5) (pre : List (Nat × Nat × Nat)) (post : List (Nat × Nat × Nat)) (k : Nat) (tick : Nat) (id : Nat) (s : State),
     s.trig.fly = pre ++ (k, tick, id) :: post ∧ k % 8 = src.val ∧ (∀ x ∈ pre, x.1 % 8 ≠ src.val) ∧
     s.crosses (acceptIsland k) 3 = true ∧ s.flag Reg.trigAccCtl src = false) ∧
    (
     ∃ (src : Fin 5) (pre : List (Nat × Nat × Nat)) (post : List (Nat × Nat × Nat)) (k : Nat) (tick : Nat) (id : Nat) (s : State),
     s.trig.fly = pre ++ (k, tick, id) :: post ∧ k % 8 = src.val ∧ (∀ x ∈ pre, x.1 % 8 ≠ src.val) ∧
     s.crosses (acceptIsland k) 3 = true ∧ s.flag Reg.trigAccCtl src = true) ∧
    (∃ (k : Nat) (tick : Nat) (id : Nat) (r : List (Nat × Nat × Nat)) (s : State), s.trig.router = (k, tick, id) :: r ∧
     k < 5 ∧
     let m := s.modeOf (frameOf tick)
     m ≠ 3 ∧ m ≠ 4) ∧
    (∃ (k : Nat) (tick : Nat) (id : Nat) (r : List (Nat × Nat × Nat)) (s : State), s.trig.router = (k, tick, id) :: r ∧
     k < 5 ∧
     let m := s.modeOf (frameOf tick)
     m = 3) ∧
    (∃ (s : State), s.memStill = true) ∧
    (∃ (p : PendAcc) (s : State), s.memStill = false ∧ s.ringNext = some p) :=
  ⟨⟨.stw, 0x80000005, live, by decide +kernel⟩,
   ⟨.stw, 0x80000005, { live with fab := { live.fab with isSealed := 8 } }, by decide +kernel⟩,
   ⟨3, [(1, 5, 6)], [], 3, 1000000, 5, { islands (st [(Reg.trigAccCtl, 0)]) 8 0 with trig := { live.trig with fly := [(1, 5, 6), (3, 1000000, 5)] } }, by decide +kernel⟩,
   ⟨3, [(1, 5, 6)], [], 3, 1000000, 5, { st [(Reg.trigAccCtl, 0)] with trig := { live.trig with fly := [(1, 5, 6), (3, 1000000, 5)] } }, by decide +kernel⟩,
   ⟨3, [(1, 5, 6)], [], 3, 1065536, 5, { st [(Reg.trigAccCtl, 0x1F)] with trig := { live.trig with fly := [(1, 5, 6), (3, 1065536, 5)] } }, by decide +kernel⟩,
   ⟨4, 999000, 5, [], { inMode 2 [] with trig := { live.trig with router := [(4, 999000, 5)] } }, by decide +kernel⟩,
   ⟨4, 999000, 5, [], { inMode 3 [(Reg.lringWin 4, 0x00640064)] with trig := { live.trig with router := [(4, 999000, 5)] } }, by decide +kernel⟩,
   ⟨islands live 0 0x40000, by decide +kernel⟩,
   ⟨⟨0, 900000, 1, 899000, 901000⟩, { inMode 3 [] with acq := { live.acq with pend := [⟨0, 900000, 1, 899000, 901000⟩] } }, by decide +kernel⟩⟩

theorem witness_HamperRecordsOpenCloseAndStay :
    (∃ (k : Nat) (tick : Nat) (id : Nat) (q : List (Nat × Nat × Nat)) (s : State), s.trig.router = (k, tick, id) :: q ∧
     s.modeOf (frameOf tick) = 4 ∧ s.hampState ≠ 0 ∧ s.acq.stop = none ∧
     (∀ w, s.acq.last = some w → w.2 + 1600 ≤ tick) ∧
     let pre := s.fld Reg.hampWin 15 0
     let lo := tick - Nat.min pre (tick - s.acq.arm)
     s.now < (frameOf lo + 4) * 65536 ∧ s.acq.arm ≤ tick ∧ s.flag Reg.hampCtl 0 = false ∧ s.hampFull = false) ∧
    (∃ (k : Nat) (tick : Nat) (id : Nat) (q : List (Nat × Nat × Nat)) (s : State), s.trig.router = (k, tick, id) :: q ∧
     s.modeOf (frameOf tick) = 4 ∧ s.hampState ≠ 0 ∧ s.acq.stop = none ∧
     (∀ w, s.acq.last = some w → w.2 + 1600 ≤ tick) ∧
     let pre := s.fld Reg.hampWin 15 0
     let lo := tick - Nat.min pre (tick - s.acq.arm)
     s.now < (frameOf lo + 4) * 65536 ∧ s.acq.arm ≤ tick ∧ s.flag Reg.hampCtl 0 = true) ∧
    (∃ (w : Nat × Nat) (s : State), s.acq.last = some w ∧ s.hampState = 2) ∧
    (∃ (w : Nat × Nat) (s : State), s.acq.last = some w ∧ s.hampState = 3) ∧
    (∃ (r : HampRec) (rest : List HampRec) (s : State), s.acq.recs = r :: rest ∧
     s.intakeClosed (frameOf (r.hi - 1)) = true ∧ s.passes 4 18 = true ∧
     let off := s.acq.storePos
     off + 64 ≤ s.hampSize ∧ s.hampUsed + 64 ≤ s.hampSize) ∧
    (∃ (d : Dom) (v : Word) (s : State), s.takes d Reg.hampCtl v = true ∧ s.hampState = 1 ∧
     s.flag Reg.hampCtl 0 = false ∧ v.getLsbD 0 = true) ∧
    (∃ (d : Dom) (v : Word) (s : State), s.takes d Reg.hampCtl v = true ∧ s.hampState = 4 ∧
     s.flag Reg.hampCtl 0 = true ∧ v.getLsbD 0 = false) ∧
    (∃ (d : Dom) (v : Word) (s : State), s.takes d Reg.hampRelease v = true) :=
  ⟨⟨1, 999000, 5, [], { inMode 4 [(Reg.hampStatus, 1), (Reg.hampSize, 1), (Reg.hampWin, 0x00C80064)] with trig := { live.trig with router := [(1, 999000, 5)] } }, by decide +kernel⟩,
   ⟨1, 999000, 5, [], { inMode 4 [(Reg.hampCtl, 1), (Reg.hampStatus, 4), (Reg.hampSize, 1), (Reg.hampWin, 0x00C80064)] with trig := { live.trig with router := [(1, 999000, 5)] } }, by decide +kernel⟩,
   ⟨(998000, 999900), { inMode 4 [(Reg.hampStatus, 2)] with acq := { live.acq with last := some (998000, 999900) } }, by decide +kernel⟩,
   ⟨(998000, 999900), { inMode 4 [(Reg.hampStatus, 3)] with acq := { live.acq with last := some (998000, 999900) } }, by decide +kernel⟩,
   ⟨{ src := 1, id := 5, seq := 3, tick := 900000, lo := 899900, hi := 900100, pre := 100, snap := 0 }, [], { inMode 4 [(Reg.hampStatus, 1), (Reg.hampCtl, 2), (Reg.hampSize, 1), (Reg.hampBase, 2)] with acq := { live.acq with recs := [{ src := 1, id := 5, seq := 3, tick := 900000, lo := 899900, hi := 900100, pre := 100, snap := 0 }] } }, by decide +kernel⟩,
   ⟨.stw, 1, inMode 4 [(Reg.hampStatus, 1)], by decide +kernel⟩,
   ⟨.stw, 0, inMode 4 [(Reg.hampStatus, 4), (Reg.hampCtl, 1)], by decide +kernel⟩,
   ⟨.stw, 1, { inMode 4 [(Reg.hampStatus, 1), (Reg.hampSize, 1)] with acq := { live.acq with store := [(0, 64), (64, 64)] } }, by decide +kernel⟩⟩

theorem witness_TailSlotsPinAndRelease :
    (∃ (d : Dom) (v : Word) (s : State), s.takes d Reg.tailFreezeGo v = true ∧ v.getLsbD 31 = true ∧
     s.sealedOff 4 = true) ∧
    (∃ (d : Dom) (v : Word) (s : State), s.takes d Reg.tailFreezeGo v = true ∧ v.getLsbD 31 = true ∧
     s.sealedOff 4 = false) ∧
    (∃ (src : Nat) (tick : Nat) (code : Nat) (r : List (Nat × Nat × Nat)) (s : State),
     let few := fun (s : State) => ∀ x ∈ s.acq.slots, x.1 < 4
     s.trig.alerts = (src, tick, code) :: r ∧ few s ∧ s.crosses (alertIsland src) 4 = false) ∧
    (∃ (src : Nat) (tick : Nat) (code : Nat) (r : List (Nat × Nat × Nat)) (s : State),
     let few := fun (s : State) => ∀ x ∈ s.acq.slots, x.1 < 4
     s.trig.alerts = (src, tick, code) :: r ∧ few s ∧
     let on := s.variant = .t ∧ s.flag Reg.tailAlertCtl (src % 8) = true
     s.crosses (alertIsland src) 4 = true ∧ ¬ on) ∧
    (∃ (src : Nat) (tick : Nat) (code : Nat) (r : List (Nat × Nat × Nat)) (s : State),
     let few := fun (s : State) => ∀ x ∈ s.acq.slots, x.1 < 4
     s.trig.alerts = (src, tick, code) :: r ∧ few s ∧
     let f := frameOf tick
     let lo := f - s.nat Reg.tailLookback
     let hi := f + s.nat Reg.tailLookahead
     let on := s.variant = .t ∧ s.flag Reg.tailAlertCtl (src % 8) = true
     s.crosses (alertIsland src) 4 = true ∧ on ∧ (∀ x ∈ s.acq.slots, ¬ (x.2.1 ≤ lo ∧ hi ≤ x.2.2)) ∧
     tick ≤ s.now + 65536 ∧ tick < 2 ^ 64 ∧ (∃ i, i < 4 ∧ ∀ x ∈ s.acq.slots, x.1 ≠ i)) ∧
    (∃ (src : Nat) (tick : Nat) (code : Nat) (r : List (Nat × Nat × Nat)) (s : State),
     let few := fun (s : State) => ∀ x ∈ s.acq.slots, x.1 < 4
     s.trig.alerts = (src, tick, code) :: r ∧ few s ∧
     let f := frameOf tick
     let lo := f - s.nat Reg.tailLookback
     let hi := f + s.nat Reg.tailLookahead
     let on := s.variant = .t ∧ s.flag Reg.tailAlertCtl (src % 8) = true
     s.crosses (alertIsland src) 4 = true ∧ on ∧
     ((∃ x ∈ s.acq.slots, x.2.1 ≤ lo ∧ hi ≤ x.2.2) ∨ s.now + 65536 < tick ∨ ∀ i, i < 4 → ∃ x ∈ s.acq.slots, x.1 = i)) ∧
    (∃ (i : Fin 4) (s : State), s.acq.tailStop = none ∧ s.slotState i = 1 ∧
     (s.tailRunning = false ∨ (s.intakeClosed (sget (0, 0) i.val s.acq.slots).2 = true ∧ ∀ p ∈ s.acq.pages,
       (sget (0, 0) i.val s.acq.slots).2 < p.f1 ∨ p.f2.getD p.f1 < (sget (0, 0) i.val s.acq.slots).1))) ∧
    (∃ (d : Dom) (i : Fin 4) (v : Word) (s : State),
     let few := fun (s : State) => ∀ x ∈ s.acq.slots, x.1 < 4
     s.takes d (Reg.tailFrelease i) v = true ∧ v.getLsbD 0 = true ∧ s.slotState i ≠ 0 ∧ few s) ∧
    (∃ (d : Dom) (i : Fin 4) (v : Word) (s : State),
     let few := fun (s : State) => ∀ x ∈ s.acq.slots, x.1 < 4
     s.takes d (Reg.tailFrelease i) v = true ∧ v.getLsbD 0 = true ∧ s.slotState i ≠ 0 ∧ few s ∧
     s.flag Reg.tailStatus 1 = false) ∧
    (∃ (n : Fin 16) (p : TailPage) (s : State),
     let few := fun (s : State) => ∀ x ∈ s.acq.slots, x.1 < 4
     s.acq.tailStop = none ∧ s.tailOpen n = some p ∧ p.opened + 16 ≤ s.time.frame ∧ s.flag Reg.tailStatus 1 = false ∧
     few s ∧ p.words.length ≤ 256 ∧ p.f1 < 2 ^ 48 ∧ s.tailFree (s.tailRegion.2 - s.tailRegion.1) s.acq.pos = none) ∧
    (∃ (n : Fin 16) (p : TailPage) (s : State) (q : Nat),
     let few := fun (s : State) => ∀ x ∈ s.acq.slots, x.1 < 4
     s.acq.tailStop = none ∧ s.tailOpen n = some p ∧ p.opened + 16 ≤ s.time.frame ∧ s.flag Reg.tailStatus 1 = false ∧
     few s ∧ p.words.length ≤ 256 ∧ p.f1 < 2 ^ 48 ∧ s.tailFree (s.tailRegion.2 - s.tailRegion.1) s.acq.pos = some q ∧
     (s.sealedOff 4 = true ∨ s.sealedOff 19 = true)) ∧
    (∃ (n : Fin 16) (p : TailPage) (s : State) (q : Nat),
     let few := fun (s : State) => ∀ x ∈ s.acq.slots, x.1 < 4
     s.acq.tailStop = none ∧ s.tailOpen n = some p ∧ p.opened + 16 ≤ s.time.frame ∧ s.flag Reg.tailStatus 1 = false ∧
     few s ∧ p.words.length ≤ 256 ∧ p.f1 < 2 ^ 48 ∧ s.tailFree (s.tailRegion.2 - s.tailRegion.1) s.acq.pos = some q ∧
     s.passes 4 19 = true) :=
  ⟨⟨.stw, 0x80000005, { live with fab := { live.fab with isSealed := 0x10 } }, by decide +kernel⟩,
   ⟨.stw, 0x80000005, live, by decide +kernel⟩,
   ⟨0, 999000, 5, [], { islands (st [(Reg.tailAlertCtl, 1)]) 0x10 0 with trig := { live.trig with alerts := [(0, 999000, 5)] } }, by decide +kernel⟩,
   ⟨0, 999000, 5, [], { st [(Reg.tailAlertCtl, 0)] with trig := { live.trig with alerts := [(0, 999000, 5)] } }, by decide +kernel⟩,
   ⟨0, 999000, 5, [], { st [(Reg.tailAlertCtl, 1)] with trig := { live.trig with alerts := [(0, 999000, 5)] }, acq := { live.acq with slots := [(0, 1, 2)] } }, by decide +kernel⟩,
   ⟨0, 999000, 5, [], { st [(Reg.tailAlertCtl, 1)] with trig := { live.trig with alerts := [(0, 999000, 5)] }, acq := { live.acq with slots := [(0, 1, 2), (1, 1, 2), (2, 1, 2), (3, 1, 2)] } }, by decide +kernel, by decide +kernel, by decide +kernel, by decide +kernel, Or.inr (Or.inr (by decide +kernel))⟩,
   ⟨3, { st [(Reg.tailFstat 3, 0x40000000)] with acq := { live.acq with slots := [(3, 1, 2)] } }, by decide +kernel⟩,
   ⟨.stw, 3, 1, { st [(Reg.tailFstat 3, 0x40000000)] with acq := { live.acq with slots := [(0, 5, 6), (3, 1, 2)] } }, by decide +kernel⟩,
   ⟨.stw, 3, 1, { st [(Reg.tailFstat 3, 0x40000000)] with acq := { live.acq with slots := [(0, 5, 6), (3, 1, 2)] } }, by decide +kernel⟩,
   ⟨5, { tile := 5, f1 := 0, opened := 0, words := [7] }, { st [(Reg.tailRegionFirst, 1), (Reg.tailRegionLast, 0)] with time := { live.time with frame := 16 }, acq := { live.acq with pages := [{ tile := 5, f1 := 0, opened := 0, words := [7] }] } }, by decide +kernel⟩,
   ⟨5, { tile := 5, f1 := 0, opened := 0, words := [7] }, islands { st [(Reg.tailRegionFirst, 0), (Reg.tailRegionLast, 0)] with time := { live.time with frame := 16 }, acq := { live.acq with pages := [{ tile := 5, f1 := 0, opened := 0, words := [7] }] } } 0x80000 0, 0, by decide +kernel⟩,
   ⟨5, { tile := 5, f1 := 0, opened := 0, words := [7] }, { st [(Reg.tailRegionFirst, 0), (Reg.tailRegionLast, 0)] with time := { live.time with frame := 16 }, acq := { live.acq with pages := [{ tile := 5, f1 := 0, opened := 0, words := [7] }] } }, 0, by decide +kernel⟩⟩

theorem witness_TailExtractionFeedsAStream :
    (∃ (d : Dom) (v : Word) (s : State), s.takes d Reg.tailXCtl v = true ∧ v.getLsbD 31 = true ∧
     let a := s.rd64 Reg.tailXStartLo
     let b := s.rd64 Reg.tailXEndLo
     let ts := s.fld Reg.tailXTiles 15 0
     let q := wfld v 21 16
     let good := a < b ∧ ts ≠ 0 ∧ s.flag (Reg.qdevCtl q) 0 = true ∧ s.flag (Reg.qdevCtl q) 8 = true ∧ s.acq.reqs.length < 4
     good) ∧
    (∃ (d : Dom) (v : Word) (s : State), s.takes d Reg.tailXCtl v = true ∧ v.getLsbD 31 = true ∧
     let a := s.rd64 Reg.tailXStartLo
     let b := s.rd64 Reg.tailXEndLo
     let ts := s.fld Reg.tailXTiles 15 0
     let q := wfld v 21 16
     let good := a < b ∧ ts ≠ 0 ∧ s.flag (Reg.qdevCtl q) 0 = true ∧ s.flag (Reg.qdevCtl q) 8 = true ∧ s.acq.reqs.length < 4
     ¬ good) ∧
    (∃ (s : State), s.xLive = false) ∧
    (∃ (r : XReq) (rest : List XReq) (s : State),
     let key := fun (r : XReq) => 0x8000 + r.id
     s.xLive = true ∧ s.acq.tailStop = none ∧ s.acq.cur = none ∧ s.acq.reqs = r :: rest ∧ s.rle (key r) = {}) ∧
    (∃ (c : XCur) (s : State),
     let key := fun (r : XReq) => 0x8000 + r.id
     s.xLive = true ∧ s.acq.tailStop = none ∧ s.tailRunning = false ∧ s.acq.cur = some c ∧ c.fed = false ∧
     s.xWaits c.req.queue = false ∧ (s.rle (key c.req)).ended = false ∧ s.xNext c.next = none) ∧
    (∃ (c : XCur) (s : State) (f : Nat),
     let key := fun (r : XReq) => 0x8000 + r.id
     s.xLive = true ∧ s.acq.tailStop = none ∧ s.tailRunning = false ∧ s.acq.cur = some c ∧ c.fed = false ∧
     s.xWaits c.req.queue = false ∧ (s.rle (key c.req)).ended = false ∧ s.xNext c.next = some f ∧
     f ≤ frameOf (c.req.stop - 1) ∧ (∀ x ∈ s.acq.slots, x.1 < 4)) ∧
    (∃ (c : XCur) (s : State),
     let key := fun (r : XReq) => 0x8000 + r.id
     s.acq.cur = some c ∧ c.fed = true ∧ s.rle (key c.req) = {} ∧ s.xWaits c.req.queue = false) :=
  ⟨⟨.stw, 0x803F0005, st [(Reg.tailXEndLo, 1), (Reg.tailXTiles, 1), (Reg.qdevCtl 63, 0x101)], by decide +kernel⟩,
   ⟨.stw, 0x803F0005, st [(Reg.tailXEndLo, 1), (Reg.tailXTiles, 1), (Reg.qdevCtl 62, 0x101)], by decide +kernel⟩,
   ⟨islands live 0x10 0, by decide +kernel⟩,
   ⟨⟨0, 2000000, 1, 0, 5⟩, [], { live with acq := { live.acq with reqs := [⟨0, 2000000, 1, 0, 5⟩] } }, by decide +kernel⟩,
   ⟨⟨⟨0, 2000000, 1, 0, 5⟩, 3, 0, 0, false⟩, { live with acq := { live.acq with cur := some ⟨⟨0, 2000000, 1, 0, 5⟩, 3, 0, 0, false⟩ } }, by decide +kernel⟩,
   ⟨⟨⟨0, 2000000, 1, 0, 5⟩, 3, 0, 0, false⟩, { live with acq := { live.acq with gone := [(160, 0)], cur := some ⟨⟨0, 2000000, 1, 0, 5⟩, 3, 0, 0, false⟩ } }, 10, by decide +kernel⟩,
   ⟨⟨⟨0, 2000000, 1, 0, 5⟩, 3, 0, 0, true⟩, { live with acq := { live.acq with cur := some ⟨⟨0, 2000000, 1, 0, 5⟩, 3, 0, 0, true⟩ } }, by decide +kernel⟩⟩

theorem witness_CompressorCodesAndDispatcherDeals :
    (∃ (key : Nat) (s : State),
     let x := s.rle key
     rleCode x.ended x.input = none) ∧
    (∃ (key : Nat) (s : State) (cw : List Byte) (n : Nat),
     let x := s.rle key
     rleCode x.ended x.input = some (cw, n) ∧ rleCode x.ended (x.input.drop n) = none ∧
     (x.size = 0 ∨ x.coded.length + 6 ≤ x.size - 16)) ∧
    (∃ (key : Nat) (s : State),
     let x := s.rle key
     x.ended = true ∧ x.input = [] ∧ x.size ≠ 0) ∧
    (∃ (j : Fin 4) (w : DealWord) (r : List DealWord) (s : State), sget [] j.val s.eng.q = w :: r ∧
     s.markerFirst j w.frame = true) ∧
    (∃ (j : Fin 4) (w : DealWord) (r : List DealWord) (s : State), sget [] j.val s.eng.q = w :: r ∧
     s.markerFirst j w.frame = false ∧ s.islandLive (dealIsland w.mode) = false) ∧
    (∃ (j : Fin 4) (w : DealWord) (r : List DealWord) (s : State), sget [] j.val s.eng.q = w :: r ∧
     let k := sget 0 j.val s.eng.rot
     let e := engAt j k
     s.markerFirst j w.frame = false ∧ k < 24 ∧ s.islandLive (dealIsland w.mode) = true ∧
     let shut := s.sealedOff (engIsland e) || s.sealedOff (dealIsland w.mode)
     shut = false ∧ s.fab.stopped.getLsbD (engIsland e) = true) ∧
    (∃ (j : Fin 4) (w : DealWord) (r : List DealWord) (s : State), sget [] j.val s.eng.q = w :: r ∧
     let k := sget 0 j.val s.eng.rot
     let e := engAt j k
     s.markerFirst j w.frame = false ∧ k < 24 ∧ s.islandLive (dealIsland w.mode) = true ∧
     let shut := s.sealedOff (engIsland e) || s.sealedOff (dealIsland w.mode)
     shut = false ∧ s.fab.stopped.getLsbD (engIsland e) = false ∧ (s.engine e).queue.length < 512) ∧
    (∃ (j : Fin 4) (w : DealWord) (r : List DealWord) (s : State), sget [] j.val s.eng.q = w :: r ∧
     let k := sget 0 j.val s.eng.rot
     let e := engAt j k
     s.markerFirst j w.frame = false ∧ k < 24 ∧ s.islandLive (dealIsland w.mode) = true ∧
     let shut := s.sealedOff (engIsland e) || s.sealedOff (dealIsland w.mode)
     shut = true) ∧
    (∃ (j : Fin 4) (w : DealWord) (r : List DealWord) (s : State), sget [] j.val s.eng.q = w :: r ∧
     let k := sget 0 j.val s.eng.rot
     let e := engAt j k
     s.markerFirst j w.frame = false ∧ k < 24 ∧ s.islandLive (dealIsland w.mode) = true ∧
     let shut := s.sealedOff (engIsland e) || s.sealedOff (dealIsland w.mode)
     shut = false ∧ s.fab.stopped.getLsbD (engIsland e) = false ∧ 512 ≤ (s.engine e).queue.length) ∧
    (∃ (j : Fin 4) (f : Nat) (m : Nat) (s : State), s.nextMarker j (sget [] j.val s.eng.todo) [] = some (f, m) ∧
     s.islandLive (dealIsland m) = false) ∧
    (∃ (j : Fin 4) (f : Nat) (m : Nat) (s : State), s.nextMarker j (sget [] j.val s.eng.todo) [] = some (f, m) ∧
     s.islandLive (dealIsland m) = true ∧ s.sealedOff (dealIsland m) = false) :=
  ⟨⟨3, stream live 3 { input := [0, 0] }, by decide +kernel⟩,
   ⟨3, stream live 3 { input := [0], ended := true }, [0x40], 1, by decide +kernel⟩,
   ⟨3, stream (st [(Reg.evbRleq, 0x80000003)]) 3 { size := 1024, ended := true, coded := [0x40], raw := [0] }, by decide +kernel⟩,
   ⟨0, ⟨1, 15, 2, 7, some 5⟩, [], { inMode 2 [] with eng := { live.eng with q := [(0, [⟨1, 15, 2, 7, some 5⟩])], todo := [(0, [(14, 2)])] } }, by decide +kernel⟩,
   ⟨0, ⟨1, 15, 2, 7, some 5⟩, [], islands { inMode 2 [] with eng := { live.eng with q := [(0, [⟨1, 15, 2, 7, some 5⟩])], todo := [(0, [(15, 2)])] } } 0 4, by decide +kernel⟩,
   ⟨0, ⟨1, 15, 2, 7, some 5⟩, [], islands { inMode 2 [] with eng := { live.eng with q := [(0, [⟨1, 15, 2, 7, some 5⟩])], todo := [(0, [(15, 2)])] } } 0 0x20, by decide +kernel⟩,
   ⟨0, ⟨1, 15, 2, 7, some 5⟩, [], { inMode 2 [] with eng := { live.eng with q := [(0, [⟨1, 15, 2, 7, some 5⟩])], todo := [(0, [(15, 2)])] } }, by decide +kernel⟩,
   ⟨0, ⟨1, 15, 2, 7, some 5⟩, [], islands { inMode 2 [] with eng := { live.eng with q := [(0, [⟨1, 15, 2, 7, some 5⟩])], todo := [(0, [(15, 2)])] } } 0x20 0, by decide +kernel⟩,
   ⟨0, ⟨1, 15, 2, 7, some 5⟩, [], { inMode 2 [] with eng := { live.eng with engs := [(0, { queue := List.replicate 512 {} })], q := [(0, [⟨1, 15, 2, 7, some 5⟩])], todo := [(0, [(15, 2)])] } }, by decide +kernel⟩,
   ⟨0, 14, 2, islands { inMode 2 [] with eng := { live.eng with todo := [(0, [(14, 2)])] } } 0 4, by decide +kernel⟩,
   ⟨0, 14, 2, { inMode 2 [] with eng := { live.eng with todo := [(0, [(14, 2)])] } }, by decide +kernel⟩⟩

theorem witness_EngineArithmeticOnRegisters :
    (∃ (e : Fin 96) (d : Fin 32) (a : Fin 32) (b : Fin 32) (s : State),
     let runs := fun (fn cost : Nat) => s.runsWord e (encA 0 d a b fn) cost
     runs 0x00 1) ∧
    (∃ (e : Fin 96) (d : Fin 32) (a : Fin 32) (b : Fin 32) (s : State),
     let runs := fun (fn cost : Nat) => s.runsWord e (encA 0 d a b fn) cost
     runs 0x01 1) ∧
    (∃ (e : Fin 96) (d : Fin 32) (a : Fin 32) (b : Fin 32) (s : State),
     let runs := fun (fn cost : Nat) => s.runsWord e (encA 0 d a b fn) cost
     runs 0x02 1) ∧
    (∃ (e : Fin 96) (d : Fin 32) (a : Fin 32) (b : Fin 32) (s : State),
     let runs := fun (fn cost : Nat) => s.runsWord e (encA 0 d a b fn) cost
     runs 0x03 1) ∧
    (∃ (e : Fin 96) (d : Fin 32) (a : Fin 32) (b : Fin 32) (s : State),
     let runs := fun (fn cost : Nat) => s.runsWord e (encA 0 d a b fn) cost
     runs 0x04 1) ∧
    (∃ (e : Fin 96) (d : Fin 32) (a : Fin 32) (b : Fin 32) (s : State),
     let runs := fun (fn cost : Nat) => s.runsWord e (encA 0 d a b fn) cost
     runs 0x05 1) ∧
    (∃ (e : Fin 96) (d : Fin 32) (a : Fin 32) (b : Fin 32) (s : State),
     let runs := fun (fn cost : Nat) => s.runsWord e (encA 0 d a b fn) cost
     runs 0x06 1) ∧
    (∃ (e : Fin 96) (d : Fin 32) (a : Fin 32) (b : Fin 32) (s : State),
     let runs := fun (fn cost : Nat) => s.runsWord e (encA 0 d a b fn) cost
     runs 0x07 1) ∧
    (∃ (e : Fin 96) (d : Fin 32) (a : Fin 32) (b : Fin 32) (s : State),
     let runs := fun (fn cost : Nat) => s.runsWord e (encA 0 d a b fn) cost
     runs 0x08 1) ∧
    (∃ (e : Fin 96) (d : Fin 32) (a : Fin 32) (b : Fin 32) (s : State),
     let runs := fun (fn cost : Nat) => s.runsWord e (encA 0 d a b fn) cost
     runs 0x09 1) ∧
    (∃ (e : Fin 96) (d : Fin 32) (a : Fin 32) (b : Fin 32) (s : State),
     let runs := fun (fn cost : Nat) => s.runsWord e (encA 0 d a b fn) cost
     runs 0x0A 1) ∧
    (∃ (e : Fin 96) (d : Fin 32) (a : Fin 32) (b : Fin 32) (s : State),
     let runs := fun (fn cost : Nat) => s.runsWord e (encA 0 d a b fn) cost
     runs 0x0B 1) ∧
    (∃ (e : Fin 96) (d : Fin 32) (a : Fin 32) (b : Fin 32) (s : State),
     let runs := fun (fn cost : Nat) => s.runsWord e (encA 0 d a b fn) cost
     runs 0x0C 1) ∧
    (∃ (e : Fin 96) (d : Fin 32) (a : Fin 32) (b : Fin 32) (s : State),
     let runs := fun (fn cost : Nat) => s.runsWord e (encA 0 d a b fn) cost
     runs 0x0D 1) ∧
    (∃ (e : Fin 96) (d : Fin 32) (a : Fin 32) (b : Fin 32) (s : State),
     let runs := fun (fn cost : Nat) => s.runsWord e (encA 0 d a b fn) cost
     runs 0x10 2) :=
  ⟨⟨95, 3, 1, 2, engOn 95 (encA 0 3 1 2 0x0) eng1 [], by dsimp only [State.runsWord]; decide +kernel⟩,
   ⟨95, 3, 1, 2, engOn 95 (encA 0 3 1 2 0x1) eng1 [], by dsimp only [State.runsWord]; decide +kernel⟩,
   ⟨95, 3, 1, 2, engOn 95 (encA 0 3 1 2 0x2) eng1 [], by dsimp only [State.runsWord]; decide +kernel⟩,
   ⟨95, 3, 1, 2, engOn 95 (encA 0 3 1 2 0x3) eng1 [], by dsimp only [State.runsWord]; decide +kernel⟩,
   ⟨95, 3, 1, 2, engOn 95 (encA 0 3 1 2 0x4) eng1 [], by dsimp only [State.runsWord]; decide +kernel⟩,
   ⟨95, 3, 1, 2, engOn 95 (encA 0 3 1 2 0x5) eng1 [], by dsimp only [State.runsWord]; decide +kernel⟩,
   ⟨95, 3, 1, 2, engOn 95 (encA 0 3 1 2 0x6) eng1 [], by dsimp only [State.runsWord]; decide +kernel⟩,
   ⟨95, 3, 1, 2, engOn 95 (encA 0 3 1 2 0x7) eng1 [], by dsimp only [State.runsWord]; decide +kernel⟩,
   ⟨95, 3, 1, 2, engOn 95 (encA 0 3 1 2 0x8) eng1 [], by dsimp only [State.runsWord]; decide +kernel⟩,
   ⟨95, 3, 1, 2, engOn 95 (encA 0 3 1 2 0x9) eng1 [], by dsimp only [State.runsWord]; decide +kernel⟩,
   ⟨95, 3, 1, 2, engOn 95 (encA 0 3 1 2 0xa) eng1 [], by dsimp only [State.runsWord]; decide +kernel⟩,
   ⟨95, 3, 1, 2, engOn 95 (encA 0 3 1 2 0xb) eng1 [], by dsimp only [State.runsWord]; decide +kernel⟩,
   ⟨95, 3, 1, 2, engOn 95 (encA 0 3 1 2 0xc) eng1 [], by dsimp only [State.runsWord]; decide +kernel⟩,
   ⟨95, 3, 1, 2, engOn 95 (encA 0 3 1 2 0xd) eng1 [], by dsimp only [State.runsWord]; decide +kernel⟩,
   ⟨95, 3, 1, 2, engOn 95 (encA 0 3 1 2 0x10) eng1 [], by dsimp only [State.runsWord]; decide +kernel⟩⟩

theorem witness_EngineLanesImmediatesAndFields :
    (∃ (e : Fin 96) (d : Fin 32) (a : Fin 32) (b : Fin 32) (s : State),
     let aRuns := fun (op b fn : Nat) => s.runsWord e (encA op d a b fn) 1
     aRuns 0 b 0x20) ∧
    (∃ (e : Fin 96) (d : Fin 32) (a : Fin 32) (b : Fin 32) (s : State),
     let aRuns := fun (op b fn : Nat) => s.runsWord e (encA op d a b fn) 1
     aRuns 0 b 0x21) ∧
    (∃ (e : Fin 96) (d : Fin 32) (a : Fin 32) (b : Fin 32) (s : State),
     let aRuns := fun (op b fn : Nat) => s.runsWord e (encA op d a b fn) 1
     aRuns 0 b 0x22) ∧
    (∃ (e : Fin 96) (d : Fin 32) (a : Fin 32) (b : Fin 32) (s : State),
     let aRuns := fun (op b fn : Nat) => s.runsWord e (encA op d a b fn) 1
     aRuns 0 b 0x23) ∧
    (∃ (e : Fin 96) (d : Fin 32) (a : Fin 32) (b : Fin 32) (s : State),
     let aRuns := fun (op b fn : Nat) => s.runsWord e (encA op d a b fn) 1
     aRuns 0 b 0x24) ∧
    (∃ (e : Fin 96) (d : Fin 32) (a : Fin 32) (b : Fin 32) (s : State),
     let aRuns := fun (op b fn : Nat) => s.runsWord e (encA op d a b fn) 1
     aRuns 0 b 0x25) ∧
    (∃ (e : Fin 96) (d : Fin 32) (a : Fin 32) (b : Fin 32) (s : State),
     let aRuns := fun (op b fn : Nat) => s.runsWord e (encA op d a b fn) 1
     aRuns 1 b 0) ∧
    (∃ (e : Fin 96) (d : Fin 32) (a : Fin 32) (b : Fin 32) (s : State),
     let aRuns := fun (op b fn : Nat) => s.runsWord e (encA op d a b fn) 1
     aRuns 1 b 1) ∧
    (∃ (e : Fin 96) (d : Fin 32) (a : Fin 32) (b : Fin 32) (s : State),
     let aRuns := fun (op b fn : Nat) => s.runsWord e (encA op d a b fn) 1
     aRuns 1 b 2) ∧
    (∃ (e : Fin 96) (d : Fin 32) (a : Fin 32) (b : Fin 32) (c : Fin 32) (s : State),
     let aRuns := fun (op b fn : Nat) => s.runsWord e (encA op d a b fn) 1
     aRuns 2 b c) ∧
    (∃ (e : Fin 96) (d : Fin 32) (a : Fin 32) (b : Fin 32) (c : Fin 32) (s : State),
     let aRuns := fun (op b fn : Nat) => s.runsWord e (encA op d a b fn) 1
     aRuns 3 b c) ∧
    (∃ (e : Fin 96) (d : Fin 32) (a : Fin 32) (imm : BitVec 16) (s : State),
     let bRuns := fun (op : Nat) => s.runsWord e (encB op d a imm) 1
     bRuns 0x08) ∧
    (∃ (e : Fin 96) (d : Fin 32) (a : Fin 32) (imm : BitVec 16) (s : State),
     let bRuns := fun (op : Nat) => s.runsWord e (encB op d a imm) 1
     bRuns 0x09) ∧
    (∃ (e : Fin 96) (d : Fin 32) (a : Fin 32) (imm : BitVec 16) (s : State),
     let bRuns := fun (op : Nat) => s.runsWord e (encB op d a imm) 1
     bRuns 0x0A) ∧
    (∃ (e : Fin 96) (d : Fin 32) (a : Fin 32) (imm : BitVec 16) (s : State),
     let bRuns := fun (op : Nat) => s.runsWord e (encB op d a imm) 1
     bRuns 0x0B) ∧
    (∃ (e : Fin 96) (d : Fin 32) (a : Fin 32) (imm : BitVec 16) (s : State), s.runsWord e (encB 0x0C d a imm) 1) ∧
    (∃ (e : Fin 96) (d : Fin 32) (a : Fin 32) (imm : BitVec 16) (s : State),
     let bRuns := fun (op : Nat) => s.runsWord e (encB op d a imm) 1
     bRuns 0x0D) ∧
    (∃ (e : Fin 96) (d : Fin 32) (a : Fin 32) (imm : BitVec 16) (s : State),
     let bRuns := fun (op : Nat) => s.runsWord e (encB op d a imm) 1
     bRuns 0x0E) :=
  ⟨⟨95, 3, 1, 2, engOn 95 (encA 0x0 3 1 2 0x20) eng1 [], by dsimp only [State.runsWord]; decide +kernel⟩,
   ⟨95, 3, 1, 2, engOn 95 (encA 0x0 3 1 2 0x21) eng1 [], by dsimp only [State.runsWord]; decide +kernel⟩,
   ⟨95, 3, 1, 2, engOn 95 (encA 0x0 3 1 2 0x22) eng1 [], by dsimp only [State.runsWord]; decide +kernel⟩,
   ⟨95, 3, 1, 2, engOn 95 (encA 0x0 3 1 2 0x23) eng1 [], by dsimp only [State.runsWord]; decide +kernel⟩,
   ⟨95, 3, 1, 2, engOn 95 (encA 0x0 3 1 2 0x24) eng1 [], by dsimp only [State.runsWord]; decide +kernel⟩,
   ⟨95, 3, 1, 2, engOn 95 (encA 0x0 3 1 2 0x25) eng1 [], by dsimp only [State.runsWord]; decide +kernel⟩,
   ⟨95, 3, 1, 31, engOn 95 (encA 0x1 3 1 31 0) eng1 [], by dsimp only [State.runsWord]; decide +kernel⟩,
   ⟨95, 3, 1, 31, engOn 95 (encA 0x1 3 1 31 1) eng1 [], by dsimp only [State.runsWord]; decide +kernel⟩,
   ⟨95, 3, 1, 31, engOn 95 (encA 0x1 3 1 31 2) eng1 [], by dsimp only [State.runsWord]; decide +kernel⟩,
   ⟨95, 3, 1, 16, 31, engOn 95 (encA 2 3 1 16 31) eng1 [], by dsimp only [State.runsWord]; decide +kernel⟩,
   ⟨95, 3, 1, 16, 31, engOn 95 (encA 3 3 1 16 31) eng1 [], by dsimp only [State.runsWord]; decide +kernel⟩,
   ⟨95, 3, 1, 0xFFFF, engOn 95 (encB 8 3 1 0xFFFF) eng1 [], by dsimp only [State.runsWord]; decide +kernel⟩,
   ⟨95, 3, 1, 0xFFFF, engOn 95 (encB 9 3 1 0xFFFF) eng1 [], by dsimp only [State.runsWord]; decide +kernel⟩,
   ⟨95, 3, 1, 0xFFFF, engOn 95 (encB 10 3 1 0xFFFF) eng1 [], by dsimp only [State.runsWord]; decide +kernel⟩,
   ⟨95, 3, 1, 0xFFFF, engOn 95 (encB 11 3 1 0xFFFF) eng1 [], by dsimp only [State.runsWord]; decide +kernel⟩,
   ⟨95, 3, 1, 0xFFFF, engOn 95 (encB 12 3 1 0xFFFF) eng1 [], by dsimp only [State.runsWord]; decide +kernel⟩,
   ⟨95, 3, 1, 0xFFFF, engOn 95 (encB 13 3 1 0xFFFF) eng1 [], by dsimp only [State.runsWord]; decide +kernel⟩,
   ⟨95, 3, 1, 0xFFFF, engOn 95 (encB 14 3 1 0xFFFF) eng1 [], by dsimp only [State.runsWord]; decide +kernel⟩⟩

theorem witness_EngineLoadsAndStores :
    (∃ (e : Fin 96) (d : Fin 32) (a : Fin 32) (imm : BitVec 16) (s : State),
     let x := s.engine e
     let code := 1 + e.val / 8
     let cell := fun (adr : Nat) => decodeCell (s.mem.byte (memKey code adr)) (sget 0 (memKey code adr) s.mem.flips)
     let reads := fun (adr n : Nat) => ∀ i, i < n → (cell (adr + i)).ue = false
     let ok := fun (A : Word) (n : Nat) => A.toNat < 0x40000 ∧ A.toNat % n = 0
     let at' := x.g a + imm.signExtend 32
     let loads := fun (A : Word) (n : Nat) (w : Word) (cost : Nat) => s.runsWord e w cost ∧ ok A n ∧ reads A.toNat n
     let B := fun (op : Nat) => encB op d a imm
     loads at' 4 (B 0x10) 2) ∧
    (∃ (e : Fin 96) (d : Fin 32) (a : Fin 32) (imm : BitVec 16) (s : State),
     let x := s.engine e
     let code := 1 + e.val / 8
     let cell := fun (adr : Nat) => decodeCell (s.mem.byte (memKey code adr)) (sget 0 (memKey code adr) s.mem.flips)
     let reads := fun (adr n : Nat) => ∀ i, i < n → (cell (adr + i)).ue = false
     let ok := fun (A : Word) (n : Nat) => A.toNat < 0x40000 ∧ A.toNat % n = 0
     let at' := x.g a + imm.signExtend 32
     let loads := fun (A : Word) (n : Nat) (w : Word) (cost : Nat) => s.runsWord e w cost ∧ ok A n ∧ reads A.toNat n
     let B := fun (op : Nat) => encB op d a imm
     loads at' 2 (B 0x11) 2) ∧
    (∃ (e : Fin 96) (d : Fin 32) (a : Fin 32) (imm : BitVec 16) (s : State),
     let x := s.engine e
     let code := 1 + e.val / 8
     let cell := fun (adr : Nat) => decodeCell (s.mem.byte (memKey code adr)) (sget 0 (memKey code adr) s.mem.flips)
     let reads := fun (adr n : Nat) => ∀ i, i < n → (cell (adr + i)).ue = false
     let ok := fun (A : Word) (n : Nat) => A.toNat < 0x40000 ∧ A.toNat % n = 0
     let at' := x.g a + imm.signExtend 32
     let loads := fun (A : Word) (n : Nat) (w : Word) (cost : Nat) => s.runsWord e w cost ∧ ok A n ∧ reads A.toNat n
     let B := fun (op : Nat) => encB op d a imm
     loads at' 2 (B 0x12) 2) ∧
    (∃ (e : Fin 96) (d : Fin 32) (a : Fin 32) (imm : BitVec 16) (s : State),
     let x := s.engine e
     let code := 1 + e.val / 8
     let cell := fun (adr : Nat) => decodeCell (s.mem.byte (memKey code adr)) (sget 0 (memKey code adr) s.mem.flips)
     let reads := fun (adr n : Nat) => ∀ i, i < n → (cell (adr + i)).ue = false
     let ok := fun (A : Word) (n : Nat) => A.toNat < 0x40000 ∧ A.toNat % n = 0
     let at' := x.g a + imm.signExtend 32
     let loads := fun (A : Word) (n : Nat) (w : Word) (cost : Nat) => s.runsWord e w cost ∧ ok A n ∧ reads A.toNat n
     let B := fun (op : Nat) => encB op d a imm
     loads at' 1 (B 0x13) 2) ∧
    (∃ (e : Fin 96) (d : Fin 32) (a : Fin 32) (imm : BitVec 16) (s : State),
     let x := s.engine e
     let code := 1 + e.val / 8
     let cell := fun (adr : Nat) => decodeCell (s.mem.byte (memKey code adr)) (sget 0 (memKey code adr) s.mem.flips)
     let reads := fun (adr n : Nat) => ∀ i, i < n → (cell (adr + i)).ue = false
     let ok := fun (A : Word) (n : Nat) => A.toNat < 0x40000 ∧ A.toNat % n = 0
     let at' := x.g a + imm.signExtend 32
     let loads := fun (A : Word) (n : Nat) (w : Word) (cost : Nat) => s.runsWord e w cost ∧ ok A n ∧ reads A.toNat n
     let B := fun (op : Nat) => encB op d a imm
     pairOk d = true ∧ loads at' 8 (B 0x14) 3) ∧
    (∃ (e : Fin 96) (d : Fin 32) (a : Fin 32) (b : Fin 32) (s : State),
     let x := s.engine e
     let code := 1 + e.val / 8
     let cell := fun (adr : Nat) => decodeCell (s.mem.byte (memKey code adr)) (sget 0 (memKey code adr) s.mem.flips)
     let reads := fun (adr n : Nat) => ∀ i, i < n → (cell (adr + i)).ue = false
     let ok := fun (A : Word) (n : Nat) => A.toNat < 0x40000 ∧ A.toNat % n = 0
     let hidx := x.hit.tile * 128 + dfld x.hit.word 63 57
     let loads := fun (A : Word) (n : Nat) (w : Word) (cost : Nat) => s.runsWord e w cost ∧ ok A n ∧ reads A.toNat n
     let A := x.g a + word (2 * hidx)
     loads A 2 (encA 0x15 d a b 0) 2) ∧
    (∃ (e : Fin 96) (d : Fin 32) (a : Fin 32) (b : Fin 32) (s : State),
     let x := s.engine e
     let code := 1 + e.val / 8
     let cell := fun (adr : Nat) => decodeCell (s.mem.byte (memKey code adr)) (sget 0 (memKey code adr) s.mem.flips)
     let reads := fun (adr n : Nat) => ∀ i, i < n → (cell (adr + i)).ue = false
     let ok := fun (A : Word) (n : Nat) => A.toNat < 0x40000 ∧ A.toNat % n = 0
     let hidx := x.hit.tile * 128 + dfld x.hit.word 63 57
     let loads := fun (A : Word) (n : Nat) (w : Word) (cost : Nat) => s.runsWord e w cost ∧ ok A n ∧ reads A.toNat n
     let A := x.g a + word (4 * hidx)
     loads A 4 (encA 0x16 d a b 0) 2) ∧
    (∃ (e : Fin 96) (d : Fin 32) (a : Fin 32) (imm : BitVec 16) (s : State),
     let x := s.engine e
     let ok := fun (A : Word) (n : Nat) => A.toNat < 0x40000 ∧ A.toNat % n = 0
     let at' := x.g a + imm.signExtend 32
     let stores := fun (A : Word) (n : Nat) (w : Word) => s.runsWord e w 1 ∧ ok A n ∧ s.flag Reg.seccInject 31 = false
     let B := fun (op : Nat) => encB op d a imm
     stores at' 4 (B 0x18)) ∧
    (∃ (e : Fin 96) (d : Fin 32) (a : Fin 32) (imm : BitVec 16) (s : State),
     let x := s.engine e
     let ok := fun (A : Word) (n : Nat) => A.toNat < 0x40000 ∧ A.toNat % n = 0
     let at' := x.g a + imm.signExtend 32
     let stores := fun (A : Word) (n : Nat) (w : Word) => s.runsWord e w 1 ∧ ok A n ∧ s.flag Reg.seccInject 31 = false
     let B := fun (op : Nat) => encB op d a imm
     stores at' 2 (B 0x19)) ∧
    (∃ (e : Fin 96) (d : Fin 32) (a : Fin 32) (imm : BitVec 16) (s : State),
     let x := s.engine e
     let ok := fun (A : Word) (n : Nat) => A.toNat < 0x40000 ∧ A.toNat % n = 0
     let at' := x.g a + imm.signExtend 32
     let stores := fun (A : Word) (n : Nat) (w : Word) => s.runsWord e w 1 ∧ ok A n ∧ s.flag Reg.seccInject 31 = false
     let B := fun (op : Nat) => encB op d a imm
     stores at' 1 (B 0x1A)) ∧
    (∃ (e : Fin 96) (d : Fin 32) (a : Fin 32) (imm : BitVec 16) (s : State),
     let x := s.engine e
     let ok := fun (A : Word) (n : Nat) => A.toNat < 0x40000 ∧ A.toNat % n = 0
     let at' := x.g a + imm.signExtend 32
     let stores := fun (A : Word) (n : Nat) (w : Word) => s.runsWord e w 1 ∧ ok A n ∧ s.flag Reg.seccInject 31 = false
     let B := fun (op : Nat) => encB op d a imm
     pairOk d = true ∧ stores at' 8 (B 0x1B)) ∧
    (∃ (e : Fin 96) (d : Fin 32) (a : Fin 32) (b : Fin 32) (s : State),
     let x := s.engine e
     let code := 1 + e.val / 8
     let cell := fun (adr : Nat) => decodeCell (s.mem.byte (memKey code adr)) (sget 0 (memKey code adr) s.mem.flips)
     let reads := fun (adr n : Nat) => ∀ i, i < n → (cell (adr + i)).ue = false
     let ok := fun (A : Word) (n : Nat) => A.toNat < 0x40000 ∧ A.toNat % n = 0
     let loads := fun (A : Word) (n : Nat) (w : Word) (cost : Nat) => s.runsWord e w cost ∧ ok A n ∧ reads A.toNat n
     let A := x.g a
     loads A 4 (encA 0x1D d a b 0) 3 ∧ s.flag Reg.seccInject 31 = false) ∧
    (∃ (e : Fin 96) (d : Fin 32) (a : Fin 32) (imm : BitVec 16) (s : State) (n : Nat) (c : Instr),
     let x := s.engine e
     let ok := fun (A : Word) (n : Nat) => A.toNat < 0x40000 ∧ A.toNat % n = 0
     let at' := x.g a + imm.signExtend 32
     let B := fun (op : Nat) => encB op d a imm
     
     ((n = 4 ∧ c = Instr.ldw e d a imm ∧ s.runsWord e (B 0x10) 2) ∨ (n = 4 ∧ c = Instr.stw e d a imm ∧ s.runsWord e (B 0x18) 1)) ∧
     ¬ ok at' n ∧ x.sent = true ∧ x.cut = false ∧ (∀ u, x.unit = some u → u.marker = false)) :=
  ⟨⟨95, 3, 5, 0xFFFF, engOn 95 (encB 0x10 3 5 0xFFFF) eng1 [1, 0x82, 3, 0x84, 5, 6, 7, 0x88, 0x89, 10, 11, 12, 13, 14, 15, 16], by dsimp only [State.runsWord]; decide +kernel⟩,
   ⟨95, 3, 5, 0xFFFF, engOn 95 (encB 0x11 3 5 0xFFFF) eng1 [1, 0x82, 3, 0x84, 5, 6, 7, 0x88, 0x89, 10, 11, 12, 13, 14, 15, 16], by dsimp only [State.runsWord]; decide +kernel⟩,
   ⟨95, 3, 5, 0xFFFF, engOn 95 (encB 0x12 3 5 0xFFFF) eng1 [1, 0x82, 3, 0x84, 5, 6, 7, 0x88, 0x89, 10, 11, 12, 13, 14, 15, 16], by dsimp only [State.runsWord]; decide +kernel⟩,
   ⟨95, 3, 5, 0xFFFF, engOn 95 (encB 0x13 3 5 0xFFFF) eng1 [1, 0x82, 3, 0x84, 5, 6, 7, 0x88, 0x89, 10, 11, 12, 13, 14, 15, 16], by dsimp only [State.runsWord]; decide +kernel⟩,
   ⟨95, 2, 5, 0xFFFF, engOn 95 (encB 0x14 2 5 0xFFFF) eng1 [1, 0x82, 3, 0x84, 5, 6, 7, 0x88, 0x89, 10, 11, 12, 13, 14, 15, 16], by dsimp only [State.runsWord]; decide +kernel⟩,
   ⟨95, 3, 6, 0, engOn 95 (encA 0x15 3 6 0 0) eng1 [1, 0x82, 3, 0x84, 5, 6, 7, 0x88], by dsimp only [State.runsWord]; decide +kernel⟩,
   ⟨95, 3, 6, 0, engOn 95 (encA 0x16 3 6 0 0) eng1 [1, 0x82, 3, 0x84, 5, 6, 7, 0x88], by dsimp only [State.runsWord]; decide +kernel⟩,
   ⟨95, 3, 5, 0xFFFF, engOn 95 (encB 0x18 3 5 0xFFFF) eng1 [1, 0x82, 3, 0x84, 5, 6, 7, 0x88, 0x89, 10, 11, 12, 13, 14, 15, 16], by dsimp only [State.runsWord]; decide +kernel⟩,
   ⟨95, 3, 5, 0xFFFF, engOn 95 (encB 0x19 3 5 0xFFFF) eng1 [1, 0x82, 3, 0x84, 5, 6, 7, 0x88, 0x89, 10, 11, 12, 13, 14, 15, 16], by dsimp only [State.runsWord]; decide +kernel⟩,
   ⟨95, 3, 5, 0xFFFF, engOn 95 (encB 0x1a 3 5 0xFFFF) eng1 [1, 0x82, 3, 0x84, 5, 6, 7, 0x88, 0x89, 10, 11, 12, 13, 14, 15, 16], by dsimp only [State.runsWord]; decide +kernel⟩,
   ⟨95, 2, 5, 0xFFFF, engOn 95 (encB 0x1b 2 5 0xFFFF) eng1 [1, 0x82, 3, 0x84, 5, 6, 7, 0x88, 0x89, 10, 11, 12, 13, 14, 15, 16], by dsimp only [State.runsWord]; decide +kernel⟩,
   ⟨95, 3, 6, 1, engOn 95 (encA 0x1D 3 6 1 0) eng1 [1, 0x82, 3, 0x84], by dsimp only [State.runsWord]; decide +kernel⟩,
   ⟨95, 3, 5, 0xFFFE, engOn 95 (encB 0x10 3 5 0xFFFE) { eng1 with sent := true } [1, 0x82, 3, 0x84], 4, .ldw 95 3 5 0xFFFE, Or.inl ⟨rfl, rfl, by decide +kernel, by decide +kernel, by decide +kernel⟩, by decide +kernel, by decide +kernel, by decide +kernel, fun _ h => nomatch h⟩⟩

theorem witness_ClusterLoadsAndMemoryPort :
    (∃ (d : Dom) (n : Fin 12) (v : Word) (s : State), s.takes d (Reg.eclLoadCtl n) v = true ∧ v.getLsbD 31 = true ∧
     s.loadRefused n = false) ∧
    (∃ (d : Dom) (n : Fin 12) (v : Word) (s : State), s.takes d (Reg.eclLoadCtl n) v = true ∧ v.getLsbD 31 = true ∧
     s.loadRefused n = true) ∧
    (∃ (n : Fin 12) (s : State), s.islandLive (5 + n.val) = false ∨ s.memStill = true) ∧
    (∃ (n : Fin 12) (s : State),
     let cell := fun (s : State) (code adr : Nat) =>
       decodeCell (s.mem.byte (memKey code adr)) (sget 0 (memKey code adr) s.mem.flips)
     let len := wfld (s.eload n).len 18 0
     let src := (s.eload n).src.toNat
     s.islandLive (5 + n.val) = true ∧ s.memStill = false ∧ s.sealedOff (5 + n.val) = false ∧ s.sealedOff 18 = false ∧
     s.flag (Reg.eclLoadCtl n) 31 = true ∧ (s.eload n).dst.getLsbD 31 = false ∧ s.flag Reg.seccInject 31 = false ∧
     (∀ i, i < len → (cell s 0 (src + i)).ue = false)) ∧
    (∃ (r : Requester) (n : Fin 12) (v : Word) (s : State),
     let k := Reg.eclMemAddr n
     let im := s.flag k 31
     (im = true → 4 * s.fld k 17 2 < 0x4000 ∧ s.clusterStopped n = true) ∧ s.asks r = true ∧
     s.takes (s.reqDomain r) (Reg.eclMemData n) v = true ∧ (∀ b, r ≠ .steward b) ∧ s.flag Reg.seccInject 31 = false) ∧
    (∃ (r : Requester) (n : Fin 12) (s : State),
     let cell := fun (s : State) (code adr : Nat) =>
       decodeCell (s.mem.byte (memKey code adr)) (sget 0 (memKey code adr) s.mem.flips)
     let k := Reg.eclMemAddr n
     let im := s.flag k 31
     let code := if im then 13 + n.val else 1 + n.val
     let a := (if im then s.fld k 26 24 * 0x4000 else 0) + 4 * s.fld k 17 2
     (im = true → 4 * s.fld k 17 2 < 0x4000 ∧ s.clusterStopped n = true) ∧ s.asks r = true ∧
     s.reads r (Reg.eclMemData n) = true ∧ (∀ e ∈ s.fab.latch, e.1 ≠ reqIdx r) ∧
     (∀ i, i < 4 → (cell s code (a + i)).ue = false)) :=
  ⟨⟨.stw, 11, 0x80000000, st [(Reg.eclLoadLen 11, 4)], by decide +kernel⟩,
   ⟨.stw, 11, 0x80000000, st [(Reg.eclLoadLen 11, 2)], by decide +kernel⟩,
   ⟨0, islands live 0x20 0, by decide +kernel⟩,
   ⟨11, { st [(Reg.eclLoadCtl 11, 0x80000000)] with eng := { live.eng with loads := [(11, ⟨0x10000, 0x3FFF8, 8⟩)] } }.smWrite 0 0x10000 [1, 2, 3, 4, 5, 6, 7, 8], by decide +kernel⟩,
   ⟨.port 0, 11, 0x12345678, owning (st [(Reg.eclMemAddr 11, 0x3FFFC)]) [(Pg.ecl 11, .held .pcie0)], by decide +kernel⟩,
   ⟨.port 0, 11, (st [(Reg.eclMemAddr 11, 0x87003FFC)]).smWrite 24 0x1FFFC [1, 2, 3, 4], by decide +kernel⟩⟩

theorem witness_EngineBranchesAndValues :
    (∃ (e : Fin 96) (cond : Fin 32) (disp : BitVec 22) (s : State),
     let x := s.engine e
     let F := x.fl
     let holds := [true, F.z, !F.z, F.n != F.v, F.n == F.v, !F.c, F.c, F.k, !F.k, F.q].getD cond false
     let cost := if holds then 2 else 1
     s.runsWord e (encC 0x20 cond disp) cost) ∧
    (∃ (e : Fin 96) (disp : BitVec 22) (s : State), s.runsWord e (encC 0x21 0 disp) 2) ∧
    (∃ (e : Fin 96) (d : Fin 32) (a : Fin 32) (b : Fin 32) (s : State), s.runsWord e (encA 0x22 d a b 0) 2) ∧
    (∃ (e : Fin 96) (d : Fin 32) (a : Fin 32) (b : Fin 32) (s : State),
     let run := fun (fn : Nat) => s.runsWord e (encA 0x30 d a b fn) 1
     a.val ≤ 16 ∧ run 3) ∧
    (∃ (e : Fin 96) (d : Fin 32) (a : Fin 32) (b : Fin 32) (s : State),
     let x := s.engine e
     let run := fun (fn : Nat) => s.runsWord e (encA 0x30 d a b fn) 1
     16 < a.val ∧ run 3 ∧ x.sent = true ∧ x.cut = false ∧ (∀ u, x.unit = some u → u.marker = false)) ∧
    (∃ (e : Fin 96) (d : Fin 32) (a : Fin 32) (b : Fin 32) (s : State),
     let run := fun (fn : Nat) => s.runsWord e (encA 0x30 d a b fn) 1
     run 4) ∧
    (∃ (e : Fin 96) (d : Fin 32) (a : Fin 32) (b : Fin 32) (s : State),
     let run := fun (fn : Nat) => s.runsWord e (encA 0x30 d a b fn) 1
     run 5 ∧ pairOk d = true ∧ pairOk a = true) ∧
    (∃ (e : Fin 96) (d : Fin 32) (a : Fin 32) (b : Fin 32) (s : State),
     let run := fun (fn : Nat) => s.runsWord e (encA 0x30 d a b fn) 1
     run 6 ∧ pairOk a = true ∧ pairOk b = true) ∧
    (∃ (e : Fin 96) (d : Fin 32) (a : Fin 32) (b : Fin 32) (s : State),
     let x := s.engine e
     let hidx := x.hit.tile * 128 + dfld x.hit.word 63 57
     let run := fun (fn : Nat) => s.runsWord e (encA 0x30 d a b fn) 1
     let code := 1 + e.val / 8
     let A := x.g b + word (2 * hidx)
     let cell := fun (adr : Nat) => decodeCell (s.mem.byte (memKey code adr)) (sget 0 (memKey code adr) s.mem.flips)
     run 7 ∧ pairOk a = true ∧ A.toNat + 2 ≤ 0x40000 ∧ A.toNat % 2 = 0 ∧ (∀ i, i < 2 → (cell (A.toNat + i)).ue = false)) ∧
    (∃ (e : Fin 96) (d : Fin 32) (a : Fin 32) (b : Fin 32) (s : State),
     let run := fun (fn : Nat) => s.runsWord e (encA 0x30 d a b fn) 1
     run 8 ∧ a.val ≤ 1) ∧
    (∃ (e : Fin 96) (d : Fin 32) (a : Fin 32) (b : Fin 32) (s : State),
     let run := fun (fn : Nat) => s.runsWord e (encA 0x30 d a b fn) 1
     run 9 ∧ b.val < 8 ∧ pairOk a = true) :=
  ⟨⟨95, 1, 0x3FFFFF, engOn 95 (encC 0x20 1 0x3FFFFF) { eng1 with fl := { z := true } } [], by dsimp only [State.runsWord]; decide +kernel⟩,
   ⟨95, 0x200000, engOn 95 (encC 0x21 0 0x200000) eng1 [], by dsimp only [State.runsWord]; decide +kernel⟩,
   ⟨95, 4, 2, 2, engOn 95 (encA 0x22 4 2 2 0) { eng1 with regs := [(31, 0x1FFF)] } [], by dsimp only [State.runsWord]; decide +kernel⟩,
   ⟨95, 4, 16, 2, engOn 95 (encA 0x30 4 16 2 3) { eng1 with fl := { z := true, q := true } } [], by dsimp only [State.runsWord]; decide +kernel⟩,
   ⟨95, 4, 17, 2, engOn 95 (encA 0x30 4 17 2 3) { eng1 with sent := true } [], by dsimp only [State.runsWord]; decide +kernel⟩,
   ⟨95, 4, 2, 2, engOn 95 (encA 0x30 4 2 2 4) { eng1 with fl := { k := true } } [], by dsimp only [State.runsWord]; decide +kernel⟩,
   ⟨95, 4, 2, 2, engOn 95 (encA 0x30 4 2 2 5) { eng1 with frame := 15, regs := [(2, 0xC0000001), (3, 0x12345)] } [], by dsimp only [State.runsWord]; decide +kernel⟩,
   ⟨95, 4, 2, 6, engOn 95 (encA 0x30 4 2 6 6) { eng1 with regs := [(2, 0xC0000001), (3, 0x12345), (6, 5), (7, 0x12346)] } [], by dsimp only [State.runsWord]; decide +kernel⟩,
   ⟨95, 4, 2, 0, engOn 95 (encA 0x30 4 2 0 7) { eng1 with regs := [(2, 0xC0000001), (3, 0x12345)] } [0x34, 0x12, 0, 0], by dsimp only [State.runsWord]; decide +kernel⟩,
   ⟨95, 4, 1, 5, engOn 95 (encA 0x30 4 1 5 8) { eng1 with hit := { ctxB := 0x80000007, word := 0x240000000 } } [], by dsimp only [State.runsWord]; decide +kernel⟩,
   ⟨95, 4, 2, 7, engOn 95 (encA 0x30 4 2 7 9) { eng1 with hit := { tile := 15, word := 0xFE00000000000000 }, regs := [(2, 0xC0000001), (3, 0x12345)] } [], by dsimp only [State.runsWord]; decide +kernel⟩⟩

theorem witness_EngineUnitsAndOutput :
    (∃ (e : Fin 96) (d : Fin 32) (a : Fin 32) (b : Fin 32) (s : State),
     let x := s.engine e
     let at' := fun (w : Word) => s.engRuns e = true ∧ (s.engFetch e).2 = some w
     at' (encA 0x30 d a b 0) ∧ x.waiting = true ∧ x.queue = []) ∧
    (∃ (e : Fin 96) (d : Fin 32) (a : Fin 32) (b : Fin 32) (s : State) (u : EUnit) (rest : List EUnit),
     let x := s.engine e
     let at' := fun (w : Word) => s.engRuns e = true ∧ (s.engFetch e).2 = some w
     at' (encA 0x30 d a b 0) ∧ x.waiting = true ∧ x.queue = u :: rest ∧ x.prog = some u.mode ∧ pairOk d = true ∧
     u.marker = false ∧ 1 ≤ x.budget) ∧
    (∃ (e : Fin 96) (d : Fin 32) (a : Fin 32) (b : Fin 32) (s : State) (u : EUnit) (rest : List EUnit),
     let x := s.engine e
     let at' := fun (w : Word) => s.engRuns e = true ∧ (s.engFetch e).2 = some w
     at' (encA 0x30 d a b 0) ∧ x.waiting = true ∧ x.queue = u :: rest ∧ x.prog = some u.mode ∧ pairOk d = true ∧
     u.marker = true ∧ 2 ≤ x.budget) ∧
    (∃ (e : Fin 96) (d : Fin 32) (a : Fin 32) (b : Fin 32) (s : State) (u : EUnit) (rest : List EUnit),
     let x := s.engine e
     let at' := fun (w : Word) => s.engRuns e = true ∧ (s.engFetch e).2 = some w
     at' (encA 0x30 d a b 0) ∧ x.waiting = true ∧ x.queue = u :: rest ∧ x.prog ≠ some u.mode ∧ 2 ≤ u.mode ∧ u.mode ≤ 5) ∧
    (∃ (e : Fin 96) (d : Fin 32) (a : Fin 32) (b : Fin 32) (s : State) (u : EUnit),
     let x := s.engine e
     let at' := fun (w : Word) => s.engRuns e = true ∧ (s.engFetch e).2 = some w
     at' (encA 0x30 d a b 0) ∧ x.waiting = false ∧ x.unit = some u ∧ u.marker = false ∧ x.queue = []) ∧
    (∃ (e : Fin 96) (d : Fin 32) (a : Fin 32) (b : Fin 32) (s : State) (u : EUnit) (n : Nat) (v : Ev) (i : Instr),
     let x := s.engine e
     let c := sget (0, 0) x.mode x.counts
     ((i = .hitput e a b ∧ s.runsWord e (encA 0x30 d a b 1) 1) ∨
       (i = .emit e 0 a b ∧ s.runsWord e (encA 0x30 0 a b 2) 1)) ∧
     x.unit = some u ∧ u.marker = false ∧ u.ev = some n ∧ s.ev? n = some v ∧ v.forced = false ∧ v.tag < 512 ∧
     (∃ p, p < s.fld Reg.evbStore 25 16 * 8192 ∧ p ∉ s.storeUsed) ∧ s.flag Reg.seccInject 31 = false ∧
     c.2 + 1 ≤ c.1 + 8 ∧ s.sealedOff 17 = true) ∧
    (∃ (e : Fin 96) (d : Fin 32) (a : Fin 32) (b : Fin 32) (s : State) (u : EUnit) (n : Nat) (v : Ev) (i : Instr),
     let x := s.engine e
     let c := sget (0, 0) x.mode x.counts
     ((i = .hitput e a b ∧ s.runsWord e (encA 0x30 d a b 1) 1) ∨
       (i = .emit e 0 a b ∧ s.runsWord e (encA 0x30 0 a b 2) 1)) ∧
     x.unit = some u ∧ u.marker = false ∧ u.ev = some n ∧ s.ev? n = some v ∧ v.forced = false ∧ v.tag < 512 ∧
     (∃ p, p < s.fld Reg.evbStore 25 16 * 8192 ∧ p ∉ s.storeUsed) ∧ s.flag Reg.seccInject 31 = false ∧
     c.2 + 1 ≤ c.1 + 8 ∧ s.sealedOff (engIsland e) = false ∧ s.sealedOff 17 = false ∧ s.passes (engIsland e) 17 = false) ∧
    (∃ (e : Fin 96) (d : Fin 32) (a : Fin 32) (b : Fin 32) (s : State) (u : EUnit) (n : Nat) (v : Ev) (i : Instr),
     let x := s.engine e
     let c := sget (0, 0) x.mode x.counts
     ((i = .hitput e a b ∧ s.runsWord e (encA 0x30 d a b 1) 1) ∨
       (i = .emit e 0 a b ∧ s.runsWord e (encA 0x30 0 a b 2) 1)) ∧
     x.unit = some u ∧ u.marker = false ∧ u.ev = some n ∧ s.ev? n = some v ∧ v.forced = false ∧ v.tag < 512 ∧
     (∃ p, p < s.fld Reg.evbStore 25 16 * 8192 ∧ p ∉ s.storeUsed) ∧ s.flag Reg.seccInject 31 = false ∧
     c.2 + 1 ≤ c.1 + 8 ∧ s.passes (engIsland e) 17 = true ∧ s.framesBefore u.frame = true) ∧
    (∃ (e : Fin 96) (d : Fin 32) (a : Fin 32) (b : Fin 32) (s : State) (u : EUnit) (n : Nat) (v : Ev) (i : Instr),
     let x := s.engine e
     let c := sget (0, 0) x.mode x.counts
     ((i = .hitput e a b ∧ s.runsWord e (encA 0x30 d a b 1) 1) ∨
       (i = .emit e 0 a b ∧ s.runsWord e (encA 0x30 0 a b 2) 1)) ∧
     x.unit = some u ∧ u.marker = false ∧ u.ev = some n ∧ s.ev? n = some v ∧ v.forced = false ∧ v.tag < 512 ∧
     (∃ p, p < s.fld Reg.evbStore 25 16 * 8192 ∧ p ∉ s.storeUsed) ∧ s.flag Reg.seccInject 31 = false ∧
     c.2 + 1 ≤ c.1 + 8 ∧ s.passes (engIsland e) 17 = true ∧ s.passes 17 18 = true ∧ s.framesBefore u.frame = false) ∧
    (∃ (e : Fin 96) (a : Fin 32) (b : Fin 32) (s : State),
     let x := s.engine e
     let c := sget (0, 0) x.mode x.counts
     let key := rleKey e (s.fld (Reg.eclCtl (e / 8) (e % 8)) 14 0)
     s.runsWord e (encA 0x30 1 a b 2) 1 ∧ c.2 + 1 ≤ c.1 + 8 ∧ (s.rle key).ended = false) ∧
    (∃ (e : Fin 96) (a : Fin 32) (b : Fin 32) (s : State),
     let x := s.engine e
     let c := sget (0, 0) x.mode x.counts
     s.runsWord e (encA 0x30 1 a b 2) 1 ∧ c.1 + 8 < c.2 + 1) ∧
    (∃ (e : Fin 96) (d : Fin 32) (a : Fin 32) (imm : BitVec 16) (s : State), imm.toNat < 256 ∧
     s.runsWord e (encB 0x31 d a imm) 1) ∧
    (∃ (e : Fin 96) (d : Fin 32) (a : Fin 32) (imm : BitVec 16) (s : State), imm.toNat < 256 ∧
     s.runsWord e (encB 0x32 d a imm) 1) ∧
    (∃ (e : Fin 96) (s : State) (w : Word),
     let x := s.engine e
     let at' := fun (w : Word) => s.engRuns e = true ∧ (s.engFetch e).2 = some w
     at' w ∧ x.waiting = false ∧ x.fits (engCost x w) = false ∧ ¬ (wfld w 31 26 = 0x30 ∧ wfld w 10 0 = 0) ∧
     x.unit = none) ∧
    (∃ (e : Fin 96) (s : State) (w : Word) (u : EUnit),
     let x := s.engine e
     let at' := fun (w : Word) => s.engRuns e = true ∧ (s.engFetch e).2 = some w
     at' w ∧ x.waiting = false ∧ x.fits (engCost x w) = false ∧ ¬ (wfld w 31 26 = 0x30 ∧ wfld w 10 0 = 0) ∧
     x.unit = some u ∧ u.marker = false ∧ (x.sent = true ∨ x.cut = true)) :=
  ⟨⟨95, 4, 2, 6, engOn 95 (encA 0x30 4 2 6 0) { eng1 with waiting := true, regs := [] } [], by decide +kernel⟩,
   ⟨95, 4, 2, 6, engOn 95 (encA 0x30 4 2 6 0) { eng1 with waiting := true, queue := [{ mode := 2, frame := 15, tile := 3, word := 0x0200000000000001, ev := some 7 }] } [], { mode := 2, frame := 15, tile := 3, word := 0x0200000000000001, ev := some 7 }, [], by decide +kernel⟩,
   ⟨95, 4, 2, 6, engOn 95 (encA 0x30 4 2 6 0) { eng1 with waiting := true, mark := 9, queue := [{ marker := true, mode := 2, frame := 15 }] } [], { marker := true, mode := 2, frame := 15 }, [], by decide +kernel⟩,
   ⟨95, 4, 2, 6, engOn 95 (encA 0x30 4 2 6 0) { eng1 with prog := some 5, waiting := true, queue := [{ mode := 2, frame := 15, tile := 3, word := 0x0200000000000001, ev := some 7 }] } [], { mode := 2, frame := 15, tile := 3, word := 0x0200000000000001, ev := some 7 }, [], by decide +kernel⟩,
   ⟨95, 4, 2, 6, engOn 95 (encA 0x30 4 2 6 0) { eng1 with unit := some { mode := 2, frame := 15, tile := 3, word := 0x0200000000000001, ev := some 7 } } [], { mode := 2, frame := 15, tile := 3, word := 0x0200000000000001, ev := some 7 }, by decide +kernel⟩,
   ⟨95, 4, 2, 6, islands (evs (engOn 95 (encA 0x30 0 2 6 2) { eng1 with unit := some { mode := 2, frame := 15, tile := 3, word := 0x0200000000000001, ev := some 7 } } []) [(Reg.evbStore, 0x00010100)] [{ num := 7, kind := 0, mode := 2, frame := 15, group := 3, tag := 5, tick := 0, lo := 0, hi := 0 }]) 0x20000 0, { mode := 2, frame := 15, tile := 3, word := 0x0200000000000001, ev := some 7 }, 7, { num := 7, kind := 0, mode := 2, frame := 15, group := 3, tag := 5, tick := 0, lo := 0, hi := 0 }, Instr.emit 95 0 2 6, Or.inr ⟨rfl, by dsimp only [State.runsWord]; decide +kernel⟩, by decide +kernel, by decide +kernel, by decide +kernel, by decide +kernel, by decide +kernel, by decide +kernel, ⟨0, by decide +kernel, by decide +kernel⟩, by decide +kernel, by decide +kernel, by decide +kernel⟩,
   ⟨95, 4, 2, 6, islands (evs (engOn 95 (encA 0x30 0 2 6 2) { eng1 with unit := some { mode := 2, frame := 15, tile := 3, word := 0x0200000000000001, ev := some 7 } } []) [(Reg.evbStore, 0x00010100)] [{ num := 7, kind := 0, mode := 2, frame := 15, group := 3, tag := 5, tick := 0, lo := 0, hi := 0 }]) 0 0x20000, { mode := 2, frame := 15, tile := 3, word := 0x0200000000000001, ev := some 7 }, 7, { num := 7, kind := 0, mode := 2, frame := 15, group := 3, tag := 5, tick := 0, lo := 0, hi := 0 }, Instr.emit 95 0 2 6, Or.inr ⟨rfl, by dsimp only [State.runsWord]; decide +kernel⟩, by decide +kernel, by decide +kernel, by decide +kernel, by decide +kernel, by decide +kernel, by decide +kernel, ⟨0, by decide +kernel, by decide +kernel⟩, by decide +kernel, by decide +kernel, by decide +kernel⟩,
   ⟨95, 4, 2, 6, before (evs (engOn 95 (encA 0x30 0 2 6 2) { eng1 with unit := some { mode := 2, frame := 15, tile := 3, word := 0x0200000000000001, ev := some 7 } } []) [(Reg.evbStore, 0x00010100)] [{ num := 7, kind := 0, mode := 2, frame := 15, group := 3, tag := 5, tick := 0, lo := 0, hi := 0 }]), { mode := 2, frame := 15, tile := 3, word := 0x0200000000000001, ev := some 7 }, 7, { num := 7, kind := 0, mode := 2, frame := 15, group := 3, tag := 5, tick := 0, lo := 0, hi := 0 }, Instr.emit 95 0 2 6, Or.inr ⟨rfl, by dsimp only [State.runsWord]; decide +kernel⟩, by decide +kernel, by decide +kernel, by decide +kernel, by decide +kernel, by decide +kernel, by decide +kernel, ⟨0, by decide +kernel, by decide +kernel⟩, by decide +kernel, by decide +kernel, by decide +kernel⟩,
   ⟨95, 4, 2, 6, evs (engOn 95 (encA 0x30 0 2 6 2) { eng1 with unit := some { mode := 2, frame := 15, tile := 3, word := 0x0200000000000001, ev := some 7 } } []) [(Reg.evbStore, 0x00010100)] [{ num := 7, kind := 0, mode := 2, frame := 15, group := 3, tag := 5, tick := 0, lo := 0, hi := 0 }], { mode := 2, frame := 15, tile := 3, word := 0x0200000000000001, ev := some 7 }, 7, { num := 7, kind := 0, mode := 2, frame := 15, group := 3, tag := 5, tick := 0, lo := 0, hi := 0 }, Instr.emit 95 0 2 6, Or.inr ⟨rfl, by dsimp only [State.runsWord]; decide +kernel⟩, by decide +kernel, by decide +kernel, by decide +kernel, by decide +kernel, by decide +kernel, by decide +kernel, ⟨0, by decide +kernel, by decide +kernel⟩, by decide +kernel, by decide +kernel, by decide +kernel⟩,
   ⟨95, 2, 6, engOn 95 (encA 0x30 1 2 6 2) { eng1 with unit := some { mode := 2, frame := 15, tile := 3, word := 0x0200000000000001, ev := some 7 } } [], by dsimp only [State.runsWord]; decide +kernel⟩,
   ⟨95, 2, 6, engOn 95 (encA 0x30 1 2 6 2) { eng1 with unit := some { mode := 2, frame := 15, tile := 3, word := 0x0200000000000001, ev := some 7 }, counts := [(2, (1, 9))] } [], by dsimp only [State.runsWord]; decide +kernel⟩,
   ⟨95, 0, 2, 0xFF, engOn 95 (encB 0x31 0 2 0xFF) { eng1 with frame := 15 } [], by dsimp only [State.runsWord]; decide +kernel⟩,
   ⟨95, 0, 2, 0xFF, engOn 95 (encB 0x32 0 2 0xFF) { eng1 with frame := 15 } [], by dsimp only [State.runsWord]; decide +kernel⟩,
   ⟨95, engOn 95 (encA 0 3 1 2 0) { eng1 with used := 256 } [], encA 0 3 1 2 0, by decide +kernel⟩,
   ⟨95, engOn 95 (encA 0 3 1 2 0x10) { eng1 with used := 15, sent := true, unit := some { mode := 2, frame := 15, tile := 3, word := 0x0200000000000001, ev := some 7 } } [], encA 0 3 1 2 0x10, { mode := 2, frame := 15, tile := 3, word := 0x0200000000000001, ev := some 7 }, by decide +kernel⟩⟩

theorem witness_EventsCompleteAndAreAdmitted :
    (∃ (tag : Fin 512) (v : Ev) (s : State), s.evTag? tag = some v ∧ v.prio < 4 ∧ s.flag Reg.seccInject 31 = false ∧
     s.memStill = true ∧ v.complete = false) ∧
    (∃ (tag : Fin 512) (v : Ev) (s : State), s.evTag? tag = some v ∧ v.prio < 4 ∧ s.flag Reg.seccInject 31 = false ∧
     s.memStill = true ∧ v.complete = false) ∧
    (∃ (tag : Fin 512) (v : Ev) (s : State), s.evTag? tag = some v ∧ v.prio < 4 ∧ s.flag Reg.seccInject 31 = false ∧
     s.memStill = false ∧ v.complete = false ∧ s.evPassed v = true ∧ (∀ w ∈ s.evb.evs, w.num = v.num → w = v) ∧
     (∀ w ∈ s.evb.evs, w.complete = true → w.isQ = false) ∧ v.storeDrop = true) ∧
    (∃ (tag : Fin 512) (v : Ev) (s : State) (body : List Nat) (heads : List Nat), s.evTag? tag = some v ∧ v.prio < 4 ∧
     s.flag Reg.seccInject 31 = false ∧ s.memStill = false ∧ v.complete = false ∧ s.evPassed v = true ∧
     (∀ w ∈ s.evb.evs, w.num = v.num → w = v) ∧ (∀ w ∈ s.evb.evs, w.complete = true → w.isQ = false) ∧
     v.storeDrop = false ∧ (s.evPlace v.num (s.evWords v) 0).2 = some (body, heads) ∧ v.isQ = false) ∧
    (∃ (tag : Fin 512) (v : Ev) (s : State) (body : List Nat) (heads : List Nat), s.evTag? tag = some v ∧ v.prio < 4 ∧
     s.flag Reg.seccInject 31 = false ∧ s.memStill = false ∧ v.complete = false ∧ s.evPassed v = true ∧
     (∀ w ∈ s.evb.evs, w.num = v.num → w = v) ∧ (∀ w ∈ s.evb.evs, w.complete = true → w.isQ = false) ∧
     v.storeDrop = false ∧ (s.evPlace v.num (s.evWords v) 0).2 = some (body, heads) ∧ v.isQ = true ∧
     v.offered = false ∧ s.evTurn v = true) ∧
    (∃ (tag : Fin 512) (v : Ev) (s : State), s.evTag? tag = some v ∧ v.prio < 4 ∧ s.flag Reg.seccInject 31 = false ∧
     s.memStill = false ∧ v.complete = false) ∧
    (∃ (tag : Fin 512) (v : Ev) (s : State), s.evTag? tag = some v ∧ v.prio < 4 ∧ s.flag Reg.seccInject 31 = false ∧
     v.complete = true ∧ v.isQ = false ∧ s.evTurn v = true ∧ v.dnum < 4) :=
  ⟨⟨5, { num := 7, kind := 0, mode := 2, frame := 14, group := 3, tag := 5, tick := 0, lo := 0, hi := 0 }, islands (evs (passedAll 2 15) [(Reg.evbStore, 0x00010100)] [{ num := 7, kind := 0, mode := 2, frame := 14, group := 3, tag := 5, tick := 0, lo := 0, hi := 0 }]) 0 0x40000, by decide +kernel⟩,
   ⟨5, { num := 7, kind := 0, mode := 2, frame := 14, group := 3, tag := 5, tick := 0, lo := 0, hi := 0 }, islands (evs (passedAll 2 15) [(Reg.evbStore, 0x00010100)] [{ num := 7, kind := 0, mode := 2, frame := 14, group := 3, tag := 5, tick := 0, lo := 0, hi := 0 }]) 0 0x40000, by decide +kernel⟩,
   ⟨5, { num := 7, kind := 0, mode := 2, frame := 14, group := 3, tag := 5, tick := 0, lo := 0, hi := 0, storeDrop := true }, evs (passedAll 2 15) [(Reg.evbStore, 0x00010100)] [{ num := 7, kind := 0, mode := 2, frame := 14, group := 3, tag := 5, tick := 0, lo := 0, hi := 0, storeDrop := true }], by decide +kernel⟩,
   ⟨5, { num := 7, kind := 0, mode := 2, frame := 14, group := 3, tag := 5, tick := 0, lo := 0, hi := 0, isQ := false, dnum := 1 }, evs (passedAll 2 15) [(Reg.evbStore, 0x00010100)] [{ num := 7, kind := 0, mode := 2, frame := 14, group := 3, tag := 5, tick := 0, lo := 0, hi := 0, isQ := false, dnum := 1 }], (evBody (evs (passedAll 2 15) [(Reg.evbStore, 0x00010100)] [{ num := 7, kind := 0, mode := 2, frame := 14, group := 3, tag := 5, tick := 0, lo := 0, hi := 0, isQ := false, dnum := 1 }]) 7).1, (evBody (evs (passedAll 2 15) [(Reg.evbStore, 0x00010100)] [{ num := 7, kind := 0, mode := 2, frame := 14, group := 3, tag := 5, tick := 0, lo := 0, hi := 0, isQ := false, dnum := 1 }]) 7).2, by decide +kernel, by decide +kernel, by decide +kernel, by decide +kernel, by decide +kernel, by decide +kernel, by decide +kernel, by decide +kernel, by decide +kernel, evBody_spec _ 7 _ (by decide +kernel) (State.evPlace_isSome _ _ _ _ (by decide +kernel) (by decide +kernel)), by decide +kernel⟩,
   ⟨5, { num := 7, kind := 0, mode := 2, frame := 14, group := 3, tag := 5, tick := 0, lo := 0, hi := 0, isQ := true, dnum := 3 }, evs (passedAll 2 15) [(Reg.evbStore, 0x00010100)] [{ num := 7, kind := 0, mode := 2, frame := 14, group := 3, tag := 5, tick := 0, lo := 0, hi := 0, isQ := true, dnum := 3 }], (evBody (evs (passedAll 2 15) [(Reg.evbStore, 0x00010100)] [{ num := 7, kind := 0, mode := 2, frame := 14, group := 3, tag := 5, tick := 0, lo := 0, hi := 0, isQ := true, dnum := 3 }]) 7).1, (evBody (evs (passedAll 2 15) [(Reg.evbStore, 0x00010100)] [{ num := 7, kind := 0, mode := 2, frame := 14, group := 3, tag := 5, tick := 0, lo := 0, hi := 0, isQ := true, dnum := 3 }]) 7).2, by decide +kernel, by decide +kernel, by decide +kernel, by decide +kernel, by decide +kernel, by decide +kernel, by decide +kernel, by decide +kernel, by decide +kernel, evBody_spec _ 7 _ (by decide +kernel) (State.evPlace_isSome _ _ _ _ (by decide +kernel) (by decide +kernel)), by decide +kernel, by decide +kernel, by decide +kernel⟩,
   ⟨5, { num := 7, kind := 0, mode := 2, frame := 14, group := 3, tag := 5, tick := 0, lo := 0, hi := 0 }, evs (passedAll 2 15) [(Reg.evbStore, 0x00010100)] [{ num := 7, kind := 0, mode := 2, frame := 14, group := 3, tag := 5, tick := 0, lo := 0, hi := 0 }], by decide +kernel⟩,
   ⟨5, { num := 7, kind := 0, mode := 2, frame := 14, group := 3, tag := 5, tick := 0, lo := 0, hi := 0, complete := true, dnum := 3, body := [0, 1], heads := [0] }, evs (passedAll 2 15) [(Reg.evbStore, 0x00010100)] [{ num := 7, kind := 0, mode := 2, frame := 14, group := 3, tag := 5, tick := 0, lo := 0, hi := 0, complete := true, dnum := 3, body := [0, 1], heads := [0] }], by decide +kernel⟩⟩

theorem witness_QueuesEnableFlushAndPlacePackets :
    (∃ (d : Dom) (q : Fin 64) (v : Word) (s : State),
     let k := Reg.qdevCtl q
     s.takes d k (setBit v 0 true) = true ∧ s.qOn q = false ∧ s.qRefused q (setBit (setBit v 0 true) 31 false) = false) ∧
    (∃ (d : Dom) (q : Fin 64) (v : Word) (s : State),
     let k := Reg.qdevCtl q
     s.takes d k (setBit v 0 true) = true ∧ s.qOn q = false ∧ s.qRefused q (setBit (setBit v 0 true) 31 false) = true) ∧
    (∃ (d : Dom) (q : Fin 64) (v : Word) (s : State),
     let k := Reg.qdevCtl q
     s.takes d k (setBit v 0 false) = true ∧ s.qOn q = true) ∧
    (∃ (d : Dom) (q : Fin 64) (v : Word) (s : State),
     let k := Reg.qdevCtl q
     s.takes d k (setBit v 31 true) = true ∧ v.getLsbD 0 = true ∧ s.qOn q = true) ∧
    (∃ (d : Dom) (q : Fin 64) (v : Word) (s : State),
     let k := Reg.qdevCtl q
     s.takes d k (setBit v 0 false) = true ∧ s.qOn q = true ∧ s.qHead q = none) ∧
    (∃ (d : Dom) (q : Fin 64) (v : Word) (s : State),
     let k := Reg.qdevCtl q
     s.takes d k (setBit v 31 true) = true ∧ v.getLsbD 0 = true ∧ s.qOn q = true ∧ s.qHead q = none) ∧
    (∃ (q : Fin 64) (p : Packet) (s : State), s.qHead q = some p ∧ s.qOn q = false) ∧
    (∃ (q : Fin 64) (p : Packet) (s : State), s.qHead q = some p ∧
     let g := packetGranules p.payload.length
     let fits := g ≤ s.qGranules q ∧ p.payload.length ≤ 2 ^ 24 ∧ s.qMismatch q = false
     fits ∧ s.qRoom q g = false ∧ s.qOn q = true ∧ s.portAnswers (s.qPort q) = true ∧ p.waits = false) ∧
    (∃ (q : Fin 64) (p : Packet) (s : State), s.qHead q = some p ∧
     let g := packetGranules p.payload.length
     let fits := g ≤ s.qGranules q ∧ p.payload.length ≤ 2 ^ 24 ∧ s.qMismatch q = false
     fits ∧ s.qRoom q g = false ∧ s.qOn q = true ∧ s.portAnswers (s.qPort q) = true ∧ p.waits = true) ∧
    (∃ (q : Fin 64) (p : Packet) (s : State), s.qHead q = some p ∧
     let g := packetGranules p.payload.length
     let fits := g ≤ s.qGranules q ∧ p.payload.length ≤ 2 ^ 24 ∧ s.qMismatch q = false
     fits ∧ s.qRoom q g = true ∧ s.portAnswers (s.qPort q) = true ∧ s.qStill q = true) ∧
    (∃ (q : Fin 64) (p : Packet) (s : State), s.qHead q = some p ∧
     let g := packetGranules p.payload.length
     let shut := (17 :: s.qIslands q).any (fun i => s.sealedOff i)
     let fits := g ≤ s.qGranules q ∧ p.payload.length ≤ 2 ^ 24 ∧ s.qMismatch q = false
     fits ∧ s.qRoom q g = true ∧ s.portAnswers (s.qPort q) = true ∧ s.qStill q = false ∧ shut = true) ∧
    (∃ (q : Fin 64) (p : Packet) (s : State), s.qHead q = some p ∧
     let g := packetGranules p.payload.length
     let shut := (17 :: s.qIslands q).any (fun i => s.sealedOff i)
     let fits := g ≤ s.qGranules q ∧ p.payload.length ≤ 2 ^ 24 ∧ s.qMismatch q = false
     fits ∧ s.qRoom q g = true ∧ s.portAnswers (s.qPort q) = true ∧ s.qStill q = false ∧ shut = false ∧
     s.qBulk q = false ∧ s.flag Reg.seccInject 31 = false) ∧
    (∃ (q : Fin 64) (s : State), s.qOn q = true ∧ s.fab.stopped.getLsbD (22 + (s.qPort q).val) = true) ∧
    (∃ (q : Fin 64) (ok : Bool) (grant : Word) (done : Word) (ep : Byte) (s : State), s.qOn q = true ∧
     let x := s.dq q
     s.fab.stopped.getLsbD (22 + (s.qPort q).val) = false ∧ ok = true ∧ s.portAnswers (s.qPort q) = true ∧
     ep.toNat = s.fld (Reg.qdevStat q) 31 28 ∧ (grant.toNat + 2 ^ 32 - x.used % 2 ^ 32) % 2 ^ 32 ≤ s.qGranules q ∧
     (x.cplw + 2 ^ 32 - done.toNat % 2 ^ 32) % 2 ^ 32 < 2 ^ 31) ∧
    (∃ (q : Fin 64) (ok : Bool) (s : State), s.qOn q = true ∧ s.fab.stopped.getLsbD (22 + (s.qPort q).val) = false ∧
     ok = false) ∧
    (∃ (q : Fin 64) (u : Nat) (s : State), (s.dq q).noticeAt = some u ∧ s.fld (Reg.qdevMod q) 31 16 ≠ 0 ∧
     s.fld (Reg.qdevMod q) 15 0 ≠ 0) :=
  ⟨⟨.stw, 63, 0, st [(Reg.qdevSize 63, 1), (Reg.qdevBase 63, 0x10)], by decide +kernel⟩,
   ⟨.stw, 63, 0, st [(Reg.qdevSize 63, 257)], by decide +kernel⟩,
   ⟨.stw, 63, 0, st [(Reg.qdevCtl 63, 1)], by decide +kernel⟩,
   ⟨.stw, 63, 1, st [(Reg.qdevCtl 63, 1)], by decide +kernel⟩,
   ⟨.stw, 63, 0, st [(Reg.qdevCtl 63, 1)], by decide +kernel⟩,
   ⟨.stw, 63, 1, st [(Reg.qdevCtl 63, 1)], by decide +kernel⟩,
   ⟨63, ⟨63, 0, [1, 2, 3], false, false, false, none, false⟩, { st [(Reg.qdevSize 63, 1), (Reg.qdevBase 63, 0x10)] with que := { live.que with packets := [⟨63, 0, [1, 2, 3], false, false, false, none, false⟩] } }, by decide +kernel⟩,
   ⟨63, ⟨63, 0, [1, 2, 3], false, false, false, none, false⟩, { st [(Reg.qdevSize 63, 1), (Reg.qdevBase 63, 0x10), (Reg.qdevCtl 63, 1)] with que := { live.que with packets := [⟨63, 0, [1, 2, 3], false, false, false, none, false⟩] } }, by decide +kernel⟩,
   ⟨63, ⟨63, 0, [1, 2, 3], false, false, true, none, false⟩, { st [(Reg.qdevSize 63, 1), (Reg.qdevBase 63, 0x10), (Reg.qdevCtl 63, 1)] with que := { live.que with packets := [⟨63, 0, [1, 2, 3], false, false, true, none, false⟩] } }, by decide +kernel⟩,
   ⟨63, ⟨63, 0, [1, 2, 3], false, false, false, none, false⟩, islands { st [(Reg.qdevSize 63, 1), (Reg.qdevBase 63, 0x10), (Reg.qdevCtl 63, 1)] with que := { live.que with packets := [⟨63, 0, [1, 2, 3], false, false, false, none, false⟩], dev := [(63, { cons := some (64, 0) })] } } 0 0x40000, by decide +kernel⟩,
   ⟨63, ⟨63, 0, [1, 2, 3], false, false, false, none, false⟩, islands { st [(Reg.qdevSize 63, 1), (Reg.qdevBase 63, 0x10), (Reg.qdevCtl 63, 1)] with que := { live.que with packets := [⟨63, 0, [1, 2, 3], false, false, false, none, false⟩], dev := [(63, { cons := some (64, 0) })] } } 0x40000 0, by decide +kernel⟩,
   ⟨63, ⟨63, 0, [1, 2, 3], false, false, false, none, false⟩, { st [(Reg.qdevSize 63, 1), (Reg.qdevBase 63, 0x10), (Reg.qdevCtl 63, 1)] with que := { live.que with packets := [⟨63, 0, [1, 2, 3], false, false, false, none, false⟩], dev := [(63, { cons := some (64, 0) })] } }, by decide +kernel⟩,
   ⟨63, islands (st [(Reg.qdevSize 63, 1), (Reg.qdevBase 63, 0x10), (Reg.qdevCtl 63, 1)]) 0 0x400000, by decide +kernel⟩,
   ⟨63, true, 64, 0, 0, st [(Reg.qdevSize 63, 1), (Reg.qdevBase 63, 0x10), (Reg.qdevCtl 63, 1)], by decide +kernel⟩,
   ⟨63, false, st [(Reg.qdevSize 63, 1), (Reg.qdevBase 63, 0x10), (Reg.qdevCtl 63, 1)], by decide +kernel⟩,
   ⟨63, 500, { st [(Reg.qdevMod 63, 0x00050005)] with que := { live.que with dev := [(63, { notices := 1, noticeAt := some 500 })] } }, by decide +kernel⟩⟩

theorem witness_UplinkTrainsAndSends :
    (∃ (n : Fin 18) (s : State),
     let prios := fun (s : State) => ∀ (g : Nat), ∀ v ∈ (s.lg g).tx, v.prio < 4
     prios s ∧ s.ust n = 1) ∧
    (∃ (n : Fin 18) (s : State),
     let prios := fun (s : State) => ∀ (g : Nat), ∀ v ∈ (s.lg g).tx, v.prio < 4
     prios s ∧ s.ust n = 1) ∧
    (∃ (n : Fin 18) (s : State),
     let prios := fun (s : State) => ∀ (g : Nat), ∀ v ∈ (s.lg g).tx, v.prio < 4
     prios s ∧ s.ust n = 2) ∧
    (∃ (n : Fin 18) (s : State),
     let prios := fun (s : State) => ∀ (g : Nat), ∀ v ∈ (s.lg g).tx, v.prio < 4
     prios s ∧ s.ust n = 4) ∧
    (∃ (n : Fin 18) (s : State) (u : Nat),
     let prios := fun (s : State) => ∀ (g : Nat), ∀ v ∈ (s.lg g).tx, v.prio < 4
     prios s ∧ s.ust n = 5 ∧ (s.ul n).dlmAt = some u) ∧
    (∃ (s : State),
     let prios := fun (s : State) => ∀ (g : Nat), ∀ v ∈ (s.lg g).tx, v.prio < 4
     prios s) ∧
    (∃ (n : Fin 18) (s : State) (d : Dom) (v : Word),
     let prios := fun (s : State) => ∀ (g : Nat), ∀ v ∈ (s.lg g).tx, v.prio < 4
     prios s ∧ s.takes d (Reg.utxCmd n) v = true ∧ v.getLsbD 0 = true ∧ s.ust n ≠ 0) ∧
    (∃ (d : Dom) (v : Word) (s : State),
     let prios := fun (s : State) => ∀ (g : Nat), ∀ v ∈ (s.lg g).tx, v.prio < 4
     prios s ∧ s.takes d Reg.ulnkLaneEn v = true) ∧
    (∃ (g : Fin 4) (f : Nat) (s : State), (s.lg g).change = some f) ∧
    (∃ (d : Dom) (v : Word) (s : State),
     let prios := fun (s : State) => ∀ (g : Nat), ∀ v ∈ (s.lg g).tx, v.prio < 4
     prios s ∧ s.takes d Reg.ulnkCtl v = true ∧ v.getLsbD 0 ≠ s.compat ∧
     (2 ≤ s.modeNow ∨ s.flag Reg.modePend 31 = true)) ∧
    (∃ (d : Dom) (v : Word) (s : State),
     let prios := fun (s : State) => ∀ (g : Nat), ∀ v ∈ (s.lg g).tx, v.prio < 4
     prios s ∧ s.takes d Reg.ulnkCtl v = true ∧ v.getLsbD 0 ≠ s.compat ∧ s.modeNow < 2 ∧ s.flag Reg.modePend 31 = false) ∧
    (∃ (g : Fin 4) (v : LaneEv) (r : List LaneEv) (s : State), sget [] g.val s.evb.lanes = v :: r ∧
     let still := s.memStill || s.fab.stopped.getLsbD 17 || s.fab.stopped.getLsbD 20
     ((s.lg g).paused = true ∨ s.gActive g = 0 ∨ still = true)) ∧
    (∃ (g : Fin 4) (v : LaneEv) (r : List LaneEv) (s : State), sget [] g.val s.evb.lanes = v :: r ∧
     let still := s.memStill || s.fab.stopped.getLsbD 17 || s.fab.stopped.getLsbD 20
     let shut := s.sealedOff 17 || s.sealedOff 20
     (s.lg g).paused = false ∧ s.gActive g ≠ 0 ∧ still = false ∧ shut = true) ∧
    (∃ (g : Fin 4) (v : LaneEv) (r : List LaneEv) (s : State), sget [] g.val s.evb.lanes = v :: r ∧
     let still := s.memStill || s.fab.stopped.getLsbD 17 || s.fab.stopped.getLsbD 20
     let shut := s.sealedOff 17 || s.sealedOff 20
     (s.lg g).paused = false ∧ s.gActive g ≠ 0 ∧ still = false ∧ shut = false ∧ v.prio < 4) ∧
    (∃ (s : State),
     let f := s.time.frame
     let k := if s.lane.sfFrame = f then s.lane.sfc else 0
     s.islandLive 20 = false ∨ (if s.compat then 8 else 117) ≤ k) ∧
    (∃ (s : State),
     let f := s.time.frame
     let k := if s.lane.sfFrame = f then s.lane.sfc else 0
     s.islandLive 20 = true ∧ k < (if s.compat then 8 else 117)) :=
  ⟨⟨17, st [(Reg.utxState 17, 1)], (fun _ _ h => nomatch h), by decide +kernel⟩,
   ⟨17, st [(Reg.utxState 17, 1)], (fun _ _ h => nomatch h), by decide +kernel⟩,
   ⟨17, st [(Reg.utxState 17, 2)], (fun _ _ h => nomatch h), by decide +kernel⟩,
   ⟨17, st [(Reg.utxState 17, 0x34)], (fun _ _ h => nomatch h), by decide +kernel⟩,
   ⟨17, { st [(Reg.utxState 17, 5)] with lane := { live.lane with lanes := [(17, { dlmAt := some 500 })] } }, 500, (fun _ _ h => nomatch h), by decide +kernel, by decide +kernel⟩,
   ⟨st [(Reg.utxState 17, 3)], fun _ _ h => nomatch h⟩,
   ⟨17, st [(Reg.utxState 17, 3)], .stw, 1, (fun _ _ h => nomatch h), by decide +kernel, by decide +kernel, by decide +kernel⟩,
   ⟨.stw, 0x30000, st [(Reg.utxState 0, 3), (Reg.ulnkLaneEn, 1)], (fun _ _ h => nomatch h), by decide +kernel⟩,
   ⟨3, 16, { st [(Reg.utxState 15, 3)] with lane := { live.lane with groups := [(3, { change := some 16, paused := true })], lanes := [(15, { pendOff := true })] } }, by decide +kernel⟩,
   ⟨.stw, 1, st [(Reg.modeCurrent, 2)], (fun _ _ h => nomatch h), by decide +kernel, by decide +kernel, by decide +kernel⟩,
   ⟨.stw, 1, st [(Reg.modeCurrent, 1), (Reg.utxState 3, 3)], (fun _ _ h => nomatch h), by decide +kernel, by decide +kernel, by decide +kernel, by decide +kernel⟩,
   ⟨3, ⟨5, 3, [0, 1], [0]⟩, [], { (evs live [(Reg.ulnkGstat, 0)] []) with evb := { live.evb with lanes := [(3, [⟨5, 3, [0, 1], [0]⟩])] }, lane := { live.lane with groups := [(3, { paused := false })] } }, by decide +kernel⟩,
   ⟨3, ⟨5, 3, [0, 1], [0]⟩, [], islands { (evs live [(Reg.ulnkGstat, 0x1000), (Reg.evbStore, 0x00010100)] []) with evb := { live.evb with lanes := [(3, [⟨5, 3, [0, 1], [0]⟩])] }, lane := { live.lane with groups := [(3, { paused := false })] } } 0x20000 0, by decide +kernel⟩,
   ⟨3, ⟨5, 3, [0, 1], [0]⟩, [], { (evs live [(Reg.ulnkGstat, 0x1000), (Reg.evbStore, 0x00010100)] []) with evb := { live.evb with lanes := [(3, [⟨5, 3, [0, 1], [0]⟩])] }, lane := { live.lane with groups := [(3, { paused := false })] } }, by decide +kernel⟩,
   ⟨{ st [] with lane := { live.lane with sfFrame := 15, sfc := 117 } }, by decide +kernel⟩,
   ⟨{ st [(Reg.utxState 3, 2)] with lane := { live.lane with sfFrame := 15, sfc := 116 } }, by decide +kernel⟩⟩

theorem witness_MemoryProtectionScrubsAndCounts :
    (∃ (d : Dom) (m : Fin 3) (v : Word) (s : State),
     let w := setFld v 1 0 m
     s.takes d Reg.scrubCtl w = true ∧ w.getLsbD 31 = true ∧ s.scrubRefused w = false) ∧
    (∃ (d : Dom) (m : Fin 3) (v : Word) (s : State),
     let w := setFld v 1 0 m
     s.takes d Reg.scrubCtl w = true ∧ w.getLsbD 31 = true ∧ s.scrubRefused w = true) ∧
    (∃ (o : ScrubOp) (s : State), s.mem.scrub = some o ∧ s.flag Reg.seccInject 31 = false ∧
     s.flag Reg.deccInject 31 = false ∧ o.mem < 26 ∧ o.mode = 2) ∧
    (∃ (o : ScrubOp) (s : State), s.mem.scrub = some o ∧ s.flag Reg.seccInject 31 = false ∧
     s.flag Reg.deccInject 31 = false ∧ o.mem < 26 ∧ o.mode = 0) ∧
    (∃ (o : ScrubOp) (s : State), s.mem.scrub = some o ∧ s.flag Reg.seccInject 31 = false ∧
     s.flag Reg.deccInject 31 = false ∧ o.mem < 26 ∧
     let u := scrubUnit o.mem
     o.mode = 1 ∧ o.mem < 25 ∧ (o.hi - o.lo) % u = 0) ∧
    (∃ (k : Fin 26) (s : State),
     let c := (bucketRegs k).1
     s.fld c 15 0 ≠ 0) ∧
    (∃ (d : Dom) (v : Word) (s : State), v.getLsbD 31 = true ∧ s.takes d Reg.seccInject v = true) ∧
    (∃ (d : Dom) (v : Word) (s : State), v.getLsbD 31 = true ∧ s.takes d Reg.deccInject v = true) ∧
    (∃ (d : Dom) (r : Fin 32) (v : Word) (s : State),
     let k := Reg.deccRemap r
     let good := wfld v 27 22 ≤ 34 ∧ (s.flag k 31 = true → (s.rd k ^^^ v) &&& 0x0FFFFFFF = 0)
     s.takes d k v = true ∧ good) ∧
    (∃ (d : Dom) (r : Fin 32) (v : Word) (s : State),
     let k := Reg.deccRemap r
     let good := wfld v 27 22 ≤ 34 ∧ (s.flag k 31 = true → (s.rd k ^^^ v) &&& 0x0FFFFFFF = 0)
     s.takes d k v = true ∧ ¬ good) ∧
    (∃ (d : Dom) (v : Word) (s : State), s.takes d Reg.deccRetireCtl v = true ∧ v.getLsbD 31 = true ∧
     s.tailRunning = true) ∧
    (∃ (d : Dom) (v : Word) (s : State) (bs : List Byte), s.takes d Reg.deccRetireCtl v = true ∧ v.getLsbD 31 = true ∧
     let n := s.fld Reg.deccRetireCount 16 0
     let base := s.fld Reg.deccRetireBase 12 0 * 2 ^ 20
     s.tailRunning = false ∧ base + 4 * n ≤ 2 ^ 33 ∧ (s.dramRead base (4 * n)).2 = (bs, false) ∧
     let l := (List.range n).map (fun i => leNat ((bs.drop (4 * i)).take 4))
     retireListOk l = true) ∧
    (∃ (d : Dom) (v : Word) (s : State), s.takes d Reg.deccRetireAdd v = true ∧ v.getLsbD 31 = true ∧
     let next := s.tailFree (s.tailRegion.2 - s.tailRegion.1) s.acq.pos
     (s.tailRunning = false ∨ s.acq.pages = [] ∨ next ≠ some (wfld v 21 0))) ∧
    (∃ (d : Dom) (v : Word) (s : State) (x : TailPage) (r : List TailPage), s.takes d Reg.deccRetireAdd v = true ∧
     v.getLsbD 31 = true ∧
     let next := s.tailFree (s.tailRegion.2 - s.tailRegion.1) s.acq.pos
     s.tailRunning = true ∧ s.acq.pages = x :: r ∧ next = some (wfld v 21 0) ∧ (∀ y ∈ s.acq.slots, y.1 < 4)) :=
  ⟨⟨.stw, 2, 0x80000000, st [(Reg.scrubEndLo, 0x100)], by decide +kernel⟩,
   ⟨.stw, 0, 0x80000000, st [], by decide +kernel⟩,
   ⟨⟨0, 2, 0, 0, 0x100, 999900⟩, { live with mem := { live.mem with scrub := some ⟨0, 2, 0, 0, 0x100, 999900⟩ } }, by decide +kernel⟩,
   ⟨⟨0, 0, 0, 0, 0x100, 999900⟩, { (live.smFill 0 0 0x100 (some 0)) with mem := { (live.smFill 0 0 0x100 (some 0)).mem with scrub := some ⟨0, 0, 0, 0, 0x100, 999900⟩ } }, by decide +kernel⟩,
   ⟨⟨0, 1, 0, 0, 0x100, 999900⟩, { (live.smFill 0 0 0x100 (some 0)) with mem := { (live.smFill 0 0 0x100 (some 0)).mem with flips := [(5, 2)], scrub := some ⟨0, 1, 0, 0, 0x100, 999900⟩ } }, by decide +kernel⟩,
   ⟨25, st [((bucketRegs 25).1, 5), ((bucketRegs 25).2.1, 3)], by decide +kernel⟩,
   ⟨.stw, 0x98001FFF, live, by decide +kernel⟩,
   ⟨.stw, 0x8000007F, live, by decide +kernel⟩,
   ⟨.stw, 31, 0x88800001, live, by decide +kernel⟩,
   ⟨.stw, 31, 0x88C00001, live, by decide +kernel⟩,
   ⟨.stw, 0x80000000, st [(Reg.tailStatus, 1)], by decide +kernel⟩,
   ⟨.stw, 0x80000000, st [(Reg.deccRetireCount, 0)], [], by decide +kernel⟩,
   ⟨.stw, 0x803FFFFF, live, by decide +kernel⟩,
   ⟨.stw, 0x80000000, { st [(Reg.tailStatus, 1), (Reg.tailRegionFirst, 0), (Reg.tailRegionLast, 0)] with time := { live.time with frame := 16 }, acq := { live.acq with pages := [{ tile := 5, f1 := 0, opened := 0, words := [7] }] } }, { tile := 5, f1 := 0, opened := 0, words := [7] }, [], by decide +kernel⟩⟩

theorem witness_SlowControlConvertsAndRecords :
    (∃ (d : Dom) (c : Fin 2) (v : Word) (s : State),
     let k := Reg.slowConv c
     let len := wfld v 28 24
     s.takes d k (setBit v 31 true) = true ∧ s.flag k 31 = false ∧ 1 ≤ len ∧ len ≤ 16 ∧ s.convRefused c len = false) ∧
    (∃ (d : Dom) (c : Fin 2) (v : Word) (s : State),
     let k := Reg.slowConv c
     let len := wfld v 28 24
     s.takes d k (setBit v 31 true) = true ∧ s.flag k 31 = false ∧ 1 ≤ len ∧ len ≤ 16 ∧ s.convRefused c len = true) ∧
    (∃ (s : State), s.crosses 0 27 = false) ∧
    (∃ (c : Fin 2) (a : TimeAct) (pre : List TimeAct) (post : List TimeAct) (s : State), s.crosses 0 27 = true ∧
     s.time.acts = pre ++ a :: post ∧ (∀ b ∈ pre, b.code ≠ 2) ∧ a.code = 2 ∧ a.arg % 4 = 2 ^ c.val ∧
     let k := Reg.slowConv c
     let on := s.flag k 31 = true ∧ s.flag k 30 = true
     on ∧ (s.conv c).busy = false) ∧
    (∃ (c : Fin 2) (a : TimeAct) (pre : List TimeAct) (post : List TimeAct) (s : State), s.crosses 0 27 = true ∧
     s.time.acts = pre ++ a :: post ∧ (∀ b ∈ pre, b.code ≠ 2) ∧ a.code = 2 ∧ a.arg % 4 = 2 ^ c.val ∧
     let k := Reg.slowConv c
     let on := s.flag k 31 = true ∧ s.flag k 30 = true
     let ends := s.passEnds c && (s.conv c).again.isNone
     on ∧ (s.conv c).busy = true ∧ ends = true) ∧
    (∃ (c : Fin 2) (a : TimeAct) (pre : List TimeAct) (post : List TimeAct) (s : State), s.crosses 0 27 = true ∧
     s.time.acts = pre ++ a :: post ∧ (∀ b ∈ pre, b.code ≠ 2) ∧ a.code = 2 ∧ a.arg % 4 = 2 ^ c.val ∧
     let k := Reg.slowConv c
     let on := s.flag k 31 = true ∧ s.flag k 30 = true
     let ends := s.passEnds c && (s.conv c).again.isNone
     on ∧ (s.conv c).busy = true ∧ ends = false) ∧
    (∃ (c : Fin 2) (a : TimeAct) (pre : List TimeAct) (post : List TimeAct) (s : State), s.crosses 0 27 = true ∧
     s.time.acts = pre ++ a :: post ∧ (∀ b ∈ pre, b.code ≠ 2) ∧ a.code = 2 ∧ a.arg % 4 = 2 ^ c.val ∧
     let k := Reg.slowConv c
     let on := s.flag k 31 = true ∧ s.flag k 30 = true
     ¬ on) ∧
    (∃ (c : Fin 2) (s : State),
     let x := s.conv c
     x.busy = true ∧ x.held = none ∧ x.pos < 16) ∧
    (∃ (d : Dom) (v : Word) (s : State), s.takes d Reg.excCtl v = true) ∧
    (∃ (s : State), s.slow.pauseAt = none ∧ s.flag Reg.slowCtl 0 = true) ∧
    (∃ (u : Nat) (s : State), s.slow.pauseAt = some u) ∧
    (∃ (ws : List DWord) (r : List (List DWord)) (s : State), s.slow.recs = ws :: r ∧ s.recLive = false) ∧
    (∃ (ws : List DWord) (r : List (List DWord)) (s : State), s.slow.recs = ws :: r ∧ s.recLive = true ∧
     let q := if s.slow.rseq = 4294967295 then 1 else s.slow.rseq + 1
     let a := s.rd64 Reg.slowDmaBaseLo + q % 2 ^ s.fld Reg.slowDmaCtl 4 0 * 32
     let sram := s.flag Reg.slowDmaCtl 30
     sram = true ∧ a + 32 ≤ 0x3000000 ∧ s.passes 27 18 = true ∧ s.flag Reg.seccInject 31 = false) ∧
    (∃ (ok : Bool) (ws : List DWord) (r : List (List DWord)) (s : State), s.slow.recs = ws :: r ∧ s.recLive = true ∧
     let p : Fin 2 := if s.flag Reg.slowDmaCtl 16 then 1 else 0
     let sram := s.flag Reg.slowDmaCtl 30
     sram = false ∧ ok = true ∧ s.portAnswers p = true) ∧
    (∃ (ok : Bool) (ws : List DWord) (r : List (List DWord)) (s : State), s.slow.recs = ws :: r ∧ s.recLive = true ∧
     let p : Fin 2 := if s.flag Reg.slowDmaCtl 16 then 1 else 0
     let sram := s.flag Reg.slowDmaCtl 30
     sram = false ∧ (ok = false ∨ s.portAnswers p = false)) :=
  ⟨⟨.stw, 1, 0x90000001, st [], by decide +kernel⟩,
   ⟨.stw, 1, 0x90000001, st [(Reg.slowCfg 16, 27)], by decide +kernel⟩,
   ⟨islands live 0x8000000 0, by decide +kernel⟩,
   ⟨1, ⟨2, 2, 5, 1000, 0, 0⟩, [⟨3, 1, 2, 3, 0, 0⟩], [], { st [(Reg.slowConv 1, 0xC1000000)] with time := { live.time with acts := [⟨3, 1, 2, 3, 0, 0⟩, ⟨2, 2, 5, 1000, 0, 0⟩] } }, by decide +kernel⟩,
   ⟨1, ⟨2, 2, 5, 1000, 0, 0⟩, [⟨3, 1, 2, 3, 0, 0⟩], [], { st [(Reg.slowConv 1, 0xC1000000)] with time := { live.time with acts := [⟨3, 1, 2, 3, 0, 0⟩, ⟨2, 2, 5, 1000, 0, 0⟩] }, slow := { live.slow with convs := [(1, { busy := true, due := 1000000 })] } }, by decide +kernel⟩,
   ⟨1, ⟨2, 2, 5, 1000, 0, 0⟩, [⟨3, 1, 2, 3, 0, 0⟩], [], { st [(Reg.slowConv 1, 0xC1000000)] with time := { live.time with acts := [⟨3, 1, 2, 3, 0, 0⟩, ⟨2, 2, 5, 1000, 0, 0⟩] }, slow := { live.slow with convs := [(1, { busy := true, due := 2000000 })] } }, by decide +kernel⟩,
   ⟨1, ⟨2, 2, 5, 1000, 0, 0⟩, [⟨3, 1, 2, 3, 0, 0⟩], [], { st [(Reg.slowConv 1, 0x81000000)] with time := { live.time with acts := [⟨3, 1, 2, 3, 0, 0⟩, ⟨2, 2, 5, 1000, 0, 0⟩] } }, by decide +kernel⟩,
   ⟨1, { st [(Reg.slowConv 1, 0x81000000)] with slow := { live.slow with convs := [(1, { busy := true, due := 1000050 })] } }, by decide +kernel⟩,
   ⟨.stw, 0xFF, st [(Reg.excCtl, 1), (Reg.excStatus, 1)], by decide +kernel⟩,
   ⟨st [(Reg.slowCtl, 1)], by decide +kernel⟩,
   ⟨500, { live with slow := { live.slow with blankLow := true, pauseAt := some 500 } }, by decide +kernel⟩,
   ⟨[1, 2, 3], [], islands { st [(Reg.slowDmaCtl, 0x40000004), (Reg.slowDmaBaseLo, 0x2FFFFC0)] with slow := { live.slow with recs := [[1, 2, 3]] } } 0 0x8000000, by decide +kernel⟩,
   ⟨[1, 2, 3], [], { st [(Reg.slowDmaCtl, 0x40000004), (Reg.slowDmaBaseLo, 0x2FFFFC0)] with slow := { live.slow with recs := [[1, 2, 3]] } }, by decide +kernel⟩,
   ⟨true, [1, 2, 3], [], { st [(Reg.slowDmaCtl, 0x10004)] with slow := { live.slow with rseq := 4294967295, recs := [[1, 2, 3]] } }, by decide +kernel⟩,
   ⟨false, [1, 2, 3], [], { st [(Reg.slowDmaCtl, 0x10004)] with slow := { live.slow with recs := [[1, 2, 3]] } }, by decide +kernel⟩⟩

theorem witness_ServoLoopsRunTheirLaw :
    (∃ (d : Dom) (l : Fin 16) (v : Word) (s : State),
     let k := Reg.servoCtl l
     s.takes d k (setBit v 31 true) = true ∧ s.flag k 31 = false ∧ s.lstate l = 0 ∧
     s.loopRefused l (setBit v 31 true) = false) ∧
    (∃ (d : Dom) (l : Fin 16) (v : Word) (s : State),
     let k := Reg.servoCtl l
     s.takes d k (setBit v 31 true) = true ∧ s.flag k 31 = false ∧ s.lstate l = 0 ∧
     s.loopRefused l (setBit v 31 true) = true) ∧
    (∃ (d : Dom) (l : Fin 16) (v : Word) (s : State),
     let k := Reg.servoCtl l
     s.takes d k (setBit v 31 false) = true ∧ s.flag k 31 = true) ∧
    (∃ (d : Dom) (l : Fin 16) (v : Word) (s : State),
     let k := Reg.servoCtl l
     s.takes d k v = true ∧ s.flag k 31 = true ∧ v.getLsbD 31 = true ∧ (s.lstate l = 1 ∨ s.lstate l = 2) ∧
     s.fld (Reg.servoStatus l) 10 8 = 0) ∧
    (∃ (d : Dom) (l : Fin 16) (v : Word) (s : State), s.takes d (Reg.servoCmd l) v = true ∧ v.getLsbD 0 = true ∧
     s.lstate l = 3) ∧
    (∃ (s : State), s.crosses 0 27 = false) ∧
    (∃ (l : Fin 16) (a : TimeAct) (pre : List TimeAct) (post : List TimeAct) (s : State), s.crosses 0 27 = true ∧
     s.time.acts = pre ++ a :: post ∧ (∀ b ∈ pre, b.code ≠ 3) ∧ a.code = 3 ∧ a.arg = 2 ^ l.val ∧
     (s.modeNow = 0 ∨ s.lstate l ≠ 1)) ∧
    (∃ (l : Fin 16) (a : TimeAct) (pre : List TimeAct) (post : List TimeAct) (s : State), s.crosses 0 27 = true ∧
     s.time.acts = pre ++ a :: post ∧ (∀ b ∈ pre, b.code ≠ 3) ∧ a.code = 3 ∧ a.arg = 2 ^ l.val ∧
     let nx := (s.dims l).1
     let nu := (s.dims l).2.2
     let out := fun (j : Nat) => s.fld (Reg.servoOutsel l) (8 * j + 3) (8 * j)
     s.modeNow ≠ 0 ∧ s.lstate l = 1 ∧ (s.sl l).start = none ∧ (s.sl l).tried = none ∧ 1 ≤ nx ∧ nx ≤ 6 ∧
     (s.dims l).2.1 = 0 ∧ (nu = 1 ∨ nu = 2) ∧ (nu = 2 → out 0 ≠ out 1)) :=
  ⟨⟨.stw, 15, 0x10100, live, by decide +kernel⟩,
   ⟨.stw, 15, 0x00100, live, by decide +kernel⟩,
   ⟨.stw, 15, 0x10100, st [(Reg.servoCtl 15, 0x80010100), (Reg.servoStatus 15, 1)], by decide +kernel⟩,
   ⟨.stw, 15, 0xC0010100, st [(Reg.servoCtl 15, 0x80010100), (Reg.servoStatus 15, 1)], by decide +kernel⟩,
   ⟨.stw, 15, 1, st [(Reg.servoCtl 15, 0x80010100), (Reg.servoStatus 15, 3), (Reg.servoStaleRun 15, 3)], by decide +kernel⟩,
   ⟨islands live 0x8000000 0, by decide +kernel⟩,
   ⟨15, ⟨3, 2 ^ 15, 5, 1000, 0, 0⟩, [⟨2, 1, 2, 3, 0, 0⟩], [], { st [(Reg.servoCtl 15, 0x80010100), (Reg.servoStatus 15, 1)] with time := { live.time with acts := [⟨2, 1, 2, 3, 0, 0⟩, ⟨3, 2 ^ 15, 5, 1000, 0, 0⟩] } }, by decide +kernel⟩,
   ⟨15, ⟨3, 2 ^ 15, 5, 1000, 0, 0⟩, [⟨2, 1, 2, 3, 0, 0⟩], [], { st [(Reg.modeCurrent, 2), (Reg.servoCtl 15, 0x80020200), (Reg.servoStatus 15, 1), (Reg.servoOutsel 15, 0x0703), (Reg.servoX 15 0, 0x00057FFF), (Reg.servoR 15, 0xFFF60003)] with time := { live.time with acts := [⟨2, 1, 2, 3, 0, 0⟩, ⟨3, 2 ^ 15, 5, 1000, 0, 0⟩] } }, by decide +kernel⟩⟩

theorem witness_CalibrationLightStartsRegulatesAndFaults :
    (∃ (d : Dom) (v : Word) (s : State), s.takes d Reg.lightCtl (setBit v 31 true) = true ∧ s.lightState = 0 ∧
     s.modeNow = 5 ∧ s.lightAllow = true) ∧
    (∃ (d : Dom) (v : Word) (s : State), s.takes d Reg.lightCtl (setBit v 31 true) = true ∧ s.lightState = 0 ∧
     (s.modeNow ≠ 5 ∨ s.lightAllow = false)) ∧
    (∃ (s : State), s.lightState = 1 ∧ s.time.up ≤ s.light.rampAt + 2000000) ∧
    (∃ (s : State), s.lightState = 1 ∧ s.light.rampAt + 2000000 < s.time.up) ∧
    (∃ (s : State), s.lightState = 1) ∧
    (∃ (mv : Nat) (s : State), (s.lightState = 1 ∨ s.lightState = 2) ∧ s.boostCeil * 40 + 1000 < mv) ∧
    (∃ (k : Fin 8) (mv : Nat) (s : State), s.lightState = 2 ∧ (∃ p ∈ sget [] k.val s.light.pulses, 200 ≤ p.2) ∧
     mv < 200) ∧
    (∃ (k : Fin 8) (mv : Nat) (s : State), s.lightState = 2 ∧ (∃ p ∈ sget [] k.val s.light.pulses, 200 ≤ p.2) ∧
     let short := s.fld Reg.lightHead 7 0 * 100
     200 ≤ mv ∧ short < mv) ∧
    (∃ (k : Fin 8) (mv : Nat) (s : State), s.lightState = 2 ∧ (∃ p ∈ sget [] k.val s.light.pulses, 200 ≤ p.2) ∧
     let short := s.fld Reg.lightHead 7 0 * 100
     200 ≤ mv ∧ mv ≤ short) ∧
    (∃ (d : Dom) (v : Word) (s : State), s.takes d Reg.lightCmd v = true ∧ v.getLsbD 0 = true ∧ s.lightState = 3) ∧
    (∃ (d : Dom) (v : Word) (s : State), s.takes d Reg.lightCtl v = true ∧ v.getLsbD 31 = true ∧ s.lightState = 2 ∧
     wfld v 1 0 ≤ 2 ∧ wfld v 1 0 ≠ s.lightClass ∧ (∀ a ∈ s.time.acts, a.code ≠ 4)) ∧
    (∃ (s : State), s.crosses 0 27 = false) ∧
    (∃ (a : TimeAct) (pre : List TimeAct) (post : List TimeAct) (s : State), s.crosses 0 27 = true ∧
     s.time.acts = pre ++ a :: post ∧ (∀ b ∈ pre, b.code ≠ 4) ∧ a.code = 4 ∧ s.lightState = 2 ∧ a.arg % 65536 ≤ 2) ∧
    (∃ (a : TimeAct) (pre : List TimeAct) (post : List TimeAct) (s : State), s.crosses 0 27 = true ∧
     s.time.acts = pre ++ a :: post ∧ (∀ b ∈ pre, b.code ≠ 4) ∧ a.code = 4 ∧ (s.lightState ≠ 2 ∨ 2 < a.arg % 65536)) ∧
    (∃ (volts : List (Fin 8 × Nat)) (v : Nat) (s : State), s.lightState = 2 ∧
     let e := s.elapse s.light.headAt
     let vs := volts.filter (fun p => s.flag (Reg.lightScfg p.1) 31 && e.stringOn e.time.up p.1)
     (∀ p ∈ vs, v ≤ p.2) ∧ (∃ p ∈ vs, p.2 = v)) ∧
    (∃ (volts : List (Fin 8 × Nat)) (s : State), s.lightState = 2 ∧
     let e := s.elapse s.light.headAt
     let vs := volts.filter (fun p => s.flag (Reg.lightScfg p.1) 31 && e.stringOn e.time.up p.1)
     vs = []) ∧
    (∃ (s : State), s.lightState = 2 ∧ s.light.period = 256 ∧ s.flag Reg.lightCtl 8 = false) ∧
    (∃ (pd0 : BitVec 16) (s : State), s.lightState = 2 ∧ s.light.period = 256 ∧ s.flag Reg.lightCtl 8 = true ∧
     pd0.toNat < s.fld Reg.lightRatio 7 0) ∧
    (∃ (pd0 : BitVec 16) (s : State), s.lightState = 2 ∧ s.light.period = 256 ∧ s.flag Reg.lightCtl 8 = true ∧
     s.fld Reg.lightRatio 7 0 ≤ pd0.toNat ∧ pd0 ≠ 0) ∧
    (∃ (s : State), s.lightState = 2 ∧ s.lightClass ≠ 0) :=
  ⟨⟨.stw, 0x80000000, inMode 5 [(Reg.guardLight, 0x800003FF), (Reg.guardFLight, 0x800003FF)], by decide +kernel⟩,
   ⟨.stw, 0x80000000, live, by decide +kernel⟩,
   ⟨st [(Reg.lightStatus, 1)], by decide +kernel⟩,
   ⟨{ st [(Reg.lightStatus, 1)] with time := { live.time with up := 2000001 } }, by decide +kernel⟩,
   ⟨st [(Reg.lightStatus, 1)], by decide +kernel⟩,
   ⟨41921, st [(Reg.lightStatus, 2)], by decide +kernel⟩,
   ⟨7, 199, { st [(Reg.lightStatus, 2)] with light := { live.light with pulses := [(7, [(0, 200)])] } }, by decide +kernel⟩,
   ⟨7, 301, { st [(Reg.lightStatus, 2), (Reg.lightHead, 3)] with light := { live.light with pulses := [(7, [(0, 200)])] } }, by decide +kernel⟩,
   ⟨7, 300, { st [(Reg.lightStatus, 2), (Reg.lightHead, 3)] with light := { live.light with pulses := [(7, [(0, 200)])] } }, by decide +kernel⟩,
   ⟨.stw, 0x4C430001, st [(Reg.lightStatus, 3)], by decide +kernel⟩,
   ⟨.stw, 0x80000002, st [(Reg.lightStatus, 0x12)], by decide +kernel⟩,
   ⟨islands live 0x8000000 0, by decide +kernel⟩,
   ⟨⟨4, 2, 5, 1000, 0, 0⟩, [⟨2, 1, 2, 3, 0, 0⟩], [], { st [(Reg.lightStatus, 2)] with time := { live.time with acts := [⟨2, 1, 2, 3, 0, 0⟩, ⟨4, 2, 5, 1000, 0, 0⟩] } }, by decide +kernel⟩,
   ⟨⟨4, 3, 5, 1000, 0, 0⟩, [⟨2, 1, 2, 3, 0, 0⟩], [], { st [(Reg.lightStatus, 2)] with time := { live.time with acts := [⟨2, 1, 2, 3, 0, 0⟩, ⟨4, 3, 5, 1000, 0, 0⟩] } }, by decide +kernel⟩,
   ⟨[(7, 549), (3, 100)], 549, { st [(Reg.lightStatus, 2), (Reg.lightScfg 7, 0x80000000)] with light := { live.light with spans := [(7, 990000, 995000)] } }, by decide +kernel⟩,
   ⟨[(3, 100)], st [(Reg.lightStatus, 2)], by decide +kernel⟩,
   ⟨{ st [(Reg.lightStatus, 0x22)] with light := { live.light with period := 256 } }, by decide +kernel⟩,
   ⟨5, { st [(Reg.lightStatus, 0x22), (Reg.lightCtl, 0x100), (Reg.lightRatio, 6)] with light := { live.light with period := 256 } }, by decide +kernel⟩,
   ⟨5, { st [(Reg.lightStatus, 0x22), (Reg.lightCtl, 0x100), (Reg.lightRatio, 5)] with light := { live.light with period := 256 } }, by decide +kernel⟩,
   ⟨st [(Reg.lightStatus, 0x12)], by decide +kernel⟩⟩

theorem witness_StewardsProveThemselvesOrFail :
    (∃ (b : Fin 2) (s : State),
     let reach := fun (k : Nat) (s : State) => s.mayWrite .stw k = true ∧ s.fab.inReset.getLsbD (islandOf k) = false ∧
       s.fab.stopped.getLsbD (islandOf k) = false ∧ s.srst Pg.stw = false ∧ s.islandLive 26 = true ∧ s.inWarm = false
     s.stwRuns b = true ∧ reach Reg.stwKick s) ∧
    (∃ (b : Fin 2) (v : Word) (s : State),
     let reach := fun (k : Nat) (s : State) => s.mayWrite .stw k = true ∧ s.fab.inReset.getLsbD (islandOf k) = false ∧
       s.fab.stopped.getLsbD (islandOf k) = false ∧ s.srst Pg.stw = false ∧ s.islandLive 26 = true ∧ s.inWarm = false
     s.stwRuns b = true ∧ reach Reg.stwAluSig s ∧ v = Config.aluKa) ∧
    (∃ (b : Fin 2) (v : Word) (s : State),
     let reach := fun (k : Nat) (s : State) => s.mayWrite .stw k = true ∧ s.fab.inReset.getLsbD (islandOf k) = false ∧
       s.fab.stopped.getLsbD (islandOf k) = false ∧ s.srst Pg.stw = false ∧ s.islandLive 26 = true ∧ s.inWarm = false
     s.stwRuns b = true ∧ reach Reg.stwAluSig s ∧ v ≠ Config.aluKa) ∧
    (∃ (b : Fin 2) (s : State), s.stwRuns b = true) ∧
    (∃ (b : Fin 2) (s : State), s.stwRuns b = true ∧
     let n := (s.stwLeak b false 0).fld (diagReg b) 31 16
     let lim := s.fld Reg.stwMemlim 31 16
     (n ≠ lim ∨ lim = 65535)) ∧
    (∃ (b : Fin 2) (s : State), s.stwRuns b = true ∧
     let n := (s.stwLeak b false 0).fld (diagReg b) 31 16
     let lim := s.fld Reg.stwMemlim 31 16
     n = lim ∧ lim < 65535) ∧
    (∃ (b : Fin 2) (s : State),
     let meets := fun (check : Nat) => ∃ c ∈ s.stwDeadlines b, c.1 = check ∧ ∃ d ∈ s.stwDeadlines (1 - b.val), d.2 / 5 = c.2 / 5
     meets 0) ∧
    (∃ (b : Fin 2) (s : State),
     let meets := fun (check : Nat) => ∃ c ∈ s.stwDeadlines b, c.1 = check ∧ ∃ d ∈ s.stwDeadlines (1 - b.val), d.2 / 5 = c.2 / 5
     meets 2) ∧
    (∃ (b : Fin 2) (s : State),
     let meets := fun (check : Nat) => ∃ c ∈ s.stwDeadlines b, c.1 = check ∧ ∃ d ∈ s.stwDeadlines (1 - b.val), d.2 / 5 = c.2 / 5
     ¬ meets 0 ∧ (s.stwState b = 2 ∨ (s.stwState b = 3 ∧ s.busyStw = false))) ∧
    (∃ (b : Fin 2) (s : State), s.stwState b = 3 ∧ s.busyStw = true) ∧
    (∃ (b : Fin 2) (s : State),
     let meets := fun (check : Nat) => ∃ c ∈ s.stwDeadlines b, c.1 = check ∧ ∃ d ∈ s.stwDeadlines (1 - b.val), d.2 / 5 = c.2 / 5
     ¬ meets 2 ∧ (s.stwState b = 2 ∨ s.stwState b = 3)) ∧
    (∃ (b : Fin 2) (s : State), s.stwState b = 1 ∧ (s.steward b).passed = false) ∧
    (∃ (b : Fin 2) (s : State), s.stwState b = 1 ∧
     let o := 1 - b.val
     s.stwState o = 3) ∧
    (∃ (b : Fin 2) (s : State), s.stwState b = 1 ∧
     let o := 1 - b.val
     s.stwState o ≠ 3 ∧ (s.stwState o ≠ 1 ∨ s.fld Reg.stwBoot 0 0 = b.val)) ∧
    (∃ (b : Fin 2) (s : State), s.stwState b = 1 ∧
     let o := 1 - b.val
     s.stwState o = 1 ∧ s.fld Reg.stwBoot 0 0 ≠ b.val ∧ (s.steward o).passed = false) :=
  ⟨⟨0, live, by decide +kernel⟩,
   ⟨0, Config.aluKa, live, by decide +kernel, by decide +kernel, rfl⟩,
   ⟨0, Config.aluKa + 1, live, by decide +kernel, by decide +kernel, by bv_omega⟩,
   ⟨0, live, by decide +kernel⟩,
   ⟨0, live, by decide +kernel⟩,
   ⟨0, st [(Reg.stwMemlim, 0)], by decide +kernel⟩,
   ⟨1, { live with stw := { live.stw with a := { live.stw.a with kickAt := 5 }, b := { live.stw.b with kickAt := 5 } } }, by decide +kernel⟩,
   ⟨0, { live with stw := { live.stw with a := { live.stw.a with sigAt := 5 }, b := { live.stw.b with sigAt := 7 } } }, by decide +kernel⟩,
   ⟨1, { live with stw := { live.stw with a := { live.stw.a with kickAt := 5 } } }, by decide +kernel⟩,
   ⟨0, st [(Reg.stwRole, 0x623)], by decide +kernel⟩,
   ⟨0, { live with stw := { live.stw with a := { live.stw.a with sigAt := 5 } } }, by decide +kernel⟩,
   ⟨1, st [(Reg.stwRole, 0x13)], by decide +kernel⟩,
   ⟨1, st [(Reg.stwRole, 0x13)], by decide +kernel⟩,
   ⟨0, st [(Reg.stwRole, 0x41)], by decide +kernel⟩,
   ⟨1, st [(Reg.stwRole, 0x11)], by decide +kernel⟩⟩

theorem witness_RolesMoveBySwapAndRejoin :
    (∃ (s : State), s.busyStw = true) ∧
    (∃ (s : State), s.busyStw = false) ∧
    (∃ (b : Fin 2) (s : State), s.stwState b = 4 ∧
     let up := if s.time.running then Nat.max s.time.up ((s.steward b).since + 2000000) else s.time.up
     let past := (s.steward b).rejoins.filter (fun u => decide (up < u + 172800000000000))
     past.length < s.fld Reg.stwCfg 19 16) ∧
    (∃ (b : Fin 2) (s : State), s.stwState b = 4 ∧
     let up := if s.time.running then Nat.max s.time.up ((s.steward b).since + 2000000) else s.time.up
     let past := (s.steward b).rejoins.filter (fun u => decide (up < u + 172800000000000))
     s.fld Reg.stwCfg 19 16 ≤ past.length) ∧
    (∃ (d : Dom) (v : Word) (s : State), s.takes d Reg.stwCmd (setBit v 1 true) = true ∧ v.getLsbD 0 = false) ∧
    (∃ (d : Dom) (v : Word) (s : State), s.takes d Reg.stwCmd (setBit v 1 true) = true ∧ v.getLsbD 0 = true) ∧
    (∃ (v : Word), v.getLsbD 1 = true) ∧
    (∃ (d : Dom) (v : Word) (s : State) (a : _),
     let can := fun (a : Nat) (s : State) => s.flag Reg.stwRole 9 = true ∧ s.busyStw = false ∧ s.stwState (1 - a) = 2
     s.takes d Reg.stwCmd (setBit v 0 true) = true ∧ v.getLsbD 1 = false ∧ s.activeStw = some a ∧ can a s) ∧
    (∃ (d : Dom) (v : Word) (s : State) (a : _),
     let can := fun (a : Nat) (s : State) => s.flag Reg.stwRole 9 = true ∧ s.busyStw = false ∧ s.stwState (1 - a) = 2
     s.takes d Reg.stwCmd (setBit v 0 true) = true ∧ v.getLsbD 1 = false ∧ s.activeStw = some a ∧ ¬ can a s) ∧
    (∃ (p : Fin 2) (s : State), s.portAnswers p = false) ∧
    (∃ (p : Fin 2) (s : State),
     let a := s.fld Reg.stwSwapDb 25 0
     s.portAnswers p = true ∧ s.inWin2 p a 4 = false) ∧
    (∃ (p : Fin 2) (s : State),
     let a := s.fld Reg.stwSwapDb 25 0
     s.portAnswers p = true ∧ s.inWin2 p a 4 = true ∧ s.doorbellsAt p a ≠ []) ∧
    (∃ (p : Fin 2) (s : State),
     let a := s.fld Reg.stwSwapDb 25 0
     s.portAnswers p = true ∧ s.inWin2 p a 4 = true ∧ s.doorbellsAt p a = [] ∧ a < 0x2FFFFFD ∧
     s.passes (22 + p) 18 = true ∧ s.flag Reg.seccInject 31 = false ∧
     let armed := s.flag Reg.stwSwapDb 31 = true ∧ s.flag Reg.stwCfg (24 + p.val) = true
     ¬ armed) ∧
    (∃ (p : Fin 2) (s : State) (n : _),
     let can := fun (a : Nat) (s : State) => s.flag Reg.stwRole 9 = true ∧ s.busyStw = false ∧ s.stwState (1 - a) = 2
     let a := s.fld Reg.stwSwapDb 25 0
     s.portAnswers p = true ∧ s.inWin2 p a 4 = true ∧ s.doorbellsAt p a = [] ∧ a < 0x2FFFFFD ∧
     s.passes (22 + p) 18 = true ∧ s.flag Reg.seccInject 31 = false ∧
     let armed := s.flag Reg.stwSwapDb 31 = true ∧ s.flag Reg.stwCfg (24 + p.val) = true
     armed ∧ s.activeStw = some n ∧ can n s) ∧
    (∃ (p : Fin 2) (s : State),
     let can := fun (a : Nat) (s : State) => s.flag Reg.stwRole 9 = true ∧ s.busyStw = false ∧ s.stwState (1 - a) = 2
     let a := s.fld Reg.stwSwapDb 25 0
     s.portAnswers p = true ∧ s.inWin2 p a 4 = true ∧ s.doorbellsAt p a = [] ∧ a < 0x2FFFFFD ∧
     s.passes (22 + p) 18 = true ∧ s.flag Reg.seccInject 31 = false ∧
     let armed := s.flag Reg.stwSwapDb 31 = true ∧ s.flag Reg.stwCfg (24 + p.val) = true
     armed ∧ (∀ n, s.activeStw = some n → ¬ can n s)) :=
  ⟨⟨{ st [(Reg.stwRole, 0x623)] with stw := { live.stw with swapping := true } }, by decide +kernel⟩,
   ⟨live, by decide +kernel⟩,
   ⟨1, st [(Reg.stwRole, 0x43), (Reg.stwCfg, 0x10000)], by decide +kernel⟩,
   ⟨1, st [(Reg.stwRole, 0x43), (Reg.stwCfg, 0)], by decide +kernel⟩,
   ⟨.stw, 0x53570002, st [(Reg.stwRole, 0x43)], by decide +kernel⟩,
   ⟨.stw, 0x53570003, st [(Reg.stwRole, 0x43)], by decide +kernel⟩,
   ⟨0x53570002, by decide +kernel⟩,
   ⟨.stw, 0x53570001, live, 0, by decide +kernel⟩,
   ⟨.stw, 0x53570001, st [(Reg.stwRole, 0x23)], 0, by decide +kernel⟩,
   ⟨0, { live with fab := { live.fab with port0 := {} } }, by decide +kernel⟩,
   ⟨0, st [(Reg.pcieWin2Base 0, 1), (Reg.pcieWin2Limit 0, 2)], by decide +kernel⟩,
   ⟨0, st [(Reg.stwSwapDb, 0x80001000), (Reg.stwCfg, 0x01000000), (Reg.pcieWin2Base 0, 0), (Reg.pcieWin2Limit 0, 2), (Reg.qcmdCtl 2, 1), (Reg.qcmdBase 2, 1)], by decide +kernel⟩,
   ⟨0, st [(Reg.stwSwapDb, 0x40), (Reg.pcieWin2Base 0, 0), (Reg.pcieWin2Limit 0, 2)], by decide +kernel⟩,
   ⟨0, st [(Reg.stwSwapDb, 0x80000040), (Reg.stwCfg, 0x01000000), (Reg.pcieWin2Base 0, 0), (Reg.pcieWin2Limit 0, 2)], 0, by decide +kernel⟩,
   ⟨0, st [(Reg.stwRole, 0x23), (Reg.stwSwapDb, 0x80000040), (Reg.stwCfg, 0x01000000), (Reg.pcieWin2Base 0, 0), (Reg.pcieWin2Limit 0, 2)], by decide +kernel⟩⟩

theorem witness_MirrorAndStewardFrames :
    (∃ (s : State), s.activeStw = none) ∧
    (∃ (s : State), s.activeStw.isSome = true ∧ s.standby? = none) ∧
    (∃ (s : State) (b : _),
     let alone := fun (s : State) => s.stw.mir.toStandby = [] ∧ s.stw.mir.waitStandby = [] ∧ s.stw.mir.waitActive = []
     s.standby? = some b ∧ alone s ∧ s.crosses 24 25 = false) ∧
    (∃ (s : State) (b : _),
     let m := s.stw.mir
     s.standby? = some b ∧ s.crosses 24 25 = false ∧ m.waitActive = [] ∧ 64 ≤ m.toStandby.length ∧
     (∀ y ∈ m.toStandby ++ m.waitStandby, s.itemLate y = false)) ∧
    (
     ∃ (item : Fin 5) (mfmt : BitVec 16) (seq : Word) (offset : Word) (data : List Byte) (crc : Word) (s : State) (b : _),
     let alone := fun (s : State) => s.stw.mir.toStandby = [] ∧ s.stw.mir.waitStandby = [] ∧ s.stw.mir.waitActive = []
     let open' := fun (s : State) => s.crosses 24 25 = true ∧ s.stw.mir.toActive.length ≤ 62
     let m := s.stw.mir
     let x : MirMsg := ⟨1, item, mfmt.toNat, seq.toNat, offset.toNat, data.take 44, crc, s.time.up, false⟩
     s.standby? = some b ∧ alone s ∧ open' s ∧ x.good = true ∧ s.mirrorAccept b ≤ mfmt.toNat ∧
     (m.expect = none ∨ m.expect = some seq.toNat)) ∧
    (
     ∃ (item : Fin 5) (mfmt : BitVec 16) (seq : Word) (offset : Word) (data : List Byte) (crc : Word) (s : State) (b : _) (e : _),
     let alone := fun (s : State) => s.stw.mir.toStandby = [] ∧ s.stw.mir.waitStandby = [] ∧ s.stw.mir.waitActive = []
     let open' := fun (s : State) => s.crosses 24 25 = true ∧ s.stw.mir.toActive.length ≤ 62
     let m := s.stw.mir
     let x : MirMsg := ⟨1, item, mfmt.toNat, seq.toNat, offset.toNat, data.take 44, crc, s.time.up, false⟩
     s.standby? = some b ∧ alone s ∧ open' s ∧ x.good = true ∧ s.mirrorAccept b ≤ mfmt.toNat ∧ m.expect = some e ∧
     e ≠ seq.toNat) ∧
    (
     ∃ (item : Fin 5) (mfmt : BitVec 16) (seq : Word) (offset : Word) (data : List Byte) (crc : Word) (s : State) (b : _),
     let alone := fun (s : State) => s.stw.mir.toStandby = [] ∧ s.stw.mir.waitStandby = [] ∧ s.stw.mir.waitActive = []
     let open' := fun (s : State) => s.crosses 24 25 = true ∧ s.stw.mir.toActive.length ≤ 62
     let x : MirMsg := ⟨1, item, mfmt.toNat, seq.toNat, offset.toNat, data.take 44, crc, s.time.up, false⟩
     s.standby? = some b ∧ alone s ∧ open' s ∧ (x.good = false ∨ mfmt.toNat < s.mirrorAccept b)) ∧
    (∃ (x : MirMsg) (r : List MirMsg) (s : State),
     let alone := fun (s : State) => s.stw.mir.toStandby = [] ∧ s.stw.mir.waitStandby = [] ∧ s.stw.mir.waitActive = []
     s.stw.mir.toActive = x :: r ∧ x.kind = 2 ∧ s.crosses 24 25 = true ∧ alone s) ∧
    (∃ (x : MirMsg) (r : List MirMsg) (s : State),
     let alone := fun (s : State) => s.stw.mir.toStandby = [] ∧ s.stw.mir.waitStandby = [] ∧ s.stw.mir.waitActive = []
     s.stw.mir.toActive = x :: r ∧ x.kind = 3 ∧ s.crosses 24 25 = true ∧ alone s) ∧
    (∃ (x : MirMsg) (r : List MirMsg) (s : State), s.stw.mir.toActive = x :: r ∧ (x.kind ≠ 2 ∨ s.crosses 24 25 = false)) ∧
    (∃ (x : MirMsg) (r : List MirMsg) (s : State), s.stw.mir.toActive = x :: r ∧ (x.kind ≠ 3 ∨ s.crosses 24 25 = false)) ∧
    (∃ (s : State), s.activeStw = none) ∧
    (∃ (seq : Word) (crc : Word) (s : State) (b : _),
     let alone := fun (s : State) => s.stw.mir.toStandby = [] ∧ s.stw.mir.waitStandby = [] ∧ s.stw.mir.waitActive = []
     let open' := fun (s : State) => s.crosses 24 25 = true ∧ s.stw.mir.toActive.length ≤ 62
     let m := s.stw.mir
     s.standby? = some b ∧ alone s ∧ open' s ∧
     let x : MirMsg := { kind := 4, mfmt := s.fwField (1 - b) 26, seq := seq.toNat, crc := crc, sentAt := s.time.up }
     x.good = true ∧ (m.expect = none ∨ m.expect = some seq.toNat) ∧ m.clean = true) ∧
    (∃ (seq : Word) (crc : Word) (s : State) (b : _),
     let alone := fun (s : State) => s.stw.mir.toStandby = [] ∧ s.stw.mir.waitStandby = [] ∧ s.stw.mir.waitActive = []
     let open' := fun (s : State) => s.crosses 24 25 = true ∧ s.stw.mir.toActive.length ≤ 62
     let m := s.stw.mir
     s.standby? = some b ∧ alone s ∧ open' s ∧
     let x : MirMsg := { kind := 4, mfmt := s.fwField (1 - b) 26, seq := seq.toNat, crc := crc, sentAt := s.time.up }
     x.good = true ∧ (m.expect = none ∨ m.expect = some seq.toNat) ∧ m.clean = false) ∧
    (∃ (seq : Word) (crc : Word) (s : State) (b : _),
     let alone := fun (s : State) => s.stw.mir.toStandby = [] ∧ s.stw.mir.waitStandby = [] ∧ s.stw.mir.waitActive = []
     let open' := fun (s : State) => s.crosses 24 25 = true ∧ s.stw.mir.toActive.length ≤ 62
     let m := s.stw.mir
     s.standby? = some b ∧ alone s ∧ open' s ∧
     let x : MirMsg := { kind := 4, mfmt := s.fwField (1 - b) 26, seq := seq.toNat, crc := crc, sentAt := s.time.up }
     (x.good = false ∨ (m.expect ≠ none ∧ m.expect ≠ some seq.toNat))) ∧
    (∃ (s : State),
     let due := (s.stw.mir.toStandby ++ s.stw.mir.waitStandby).find? (fun m => decide (m.kind = 1) && !m.late)
     due = none) ∧
    (∃ (s : State) (x : _),
     let due := (s.stw.mir.toStandby ++ s.stw.mir.waitStandby).find? (fun m => decide (m.kind = 1) && !m.late)
     due = some x ∧ s.time.running = true) ∧
    (∃ (b : Fin 2) (seq : Word) (s : State), s.stwRuns b = true ∧
     let was := (s.steward b).health
     let follows := fun (k : Nat) => was = none ∨ (∃ m, was = some m ∧ k = (m + 1) % 2 ^ 32)
     follows seq.toNat) ∧
    (∃ (b : Fin 2) (seq : Word) (s : State), s.stwRuns b = true ∧
     let was := (s.steward b).health
     let follows := fun (k : Nat) => was = none ∨ (∃ m, was = some m ∧ k = (m + 1) % 2 ^ 32)
     ¬ follows seq.toNat) ∧
    (∃ (b : Fin 2) (s : State), s.stwRuns b = true ∧
     let was := (s.steward b).health
     let h := s.fld Reg.stwHcfg 15 0
     let n := s.time.frame / h % 2 ^ 32
     let follows := fun (k : Nat) => was = none ∨ (∃ m, was = some m ∧ k = (m + 1) % 2 ^ 32)
     h ≠ 0 ∧ s.time.frame % h = 0 ∧ was ≠ some n ∧ follows n) ∧
    (∃ (b : Fin 2) (s : State), s.stwRuns b = true ∧
     let was := (s.steward b).health
     let h := s.fld Reg.stwHcfg 15 0
     let n := s.time.frame / h % 2 ^ 32
     let follows := fun (k : Nat) => was = none ∨ (∃ m, was = some m ∧ k = (m + 1) % 2 ^ 32)
     h ≠ 0 ∧ s.time.frame % h = 0 ∧ was ≠ some n ∧ ¬ follows n) ∧
    (∃ (b : Fin 2) (s : State), s.stwRuns b = true ∧
     let was := (s.steward b).health
     let h := s.fld Reg.stwHcfg 15 0
     let n := s.time.frame / h % 2 ^ 32
     (h = 0 ∨ s.time.frame % h ≠ 0 ∨ was = some n)) ∧
    (∃ (b : Fin 2) (s : State), s.stwRuns b = true ∧
     let h := s.fld Reg.stwHcfg 15 0
     let n := s.time.frame / h % 2 ^ 32
     let per := s.fld Reg.stwHcfg 15 0 * s.fld Reg.stwHcfg 23 16
     let n := s.time.frame / per
     (per = 0 ∨ s.time.frame % per ≠ 0 ∨ (s.steward b).telem = some n)) ∧
    (∃ (b : Fin 2) (s : State), s.stwRuns b = true ∧
     let h := s.fld Reg.stwHcfg 15 0
     let n := s.time.frame / h % 2 ^ 32
     let per := s.fld Reg.stwHcfg 15 0 * s.fld Reg.stwHcfg 23 16
     let n := s.time.frame / per
     per ≠ 0 ∧ s.time.frame % per = 0 ∧ (s.steward b).telem ≠ some n) :=
  ⟨⟨st [(Reg.stwRole, 0x44)], by decide +kernel⟩,
   ⟨st [(Reg.stwRole, 0x13)], by decide +kernel⟩,
   ⟨islands (mirSt [] {}) 0 0x2000000, 1, by decide +kernel⟩,
   ⟨islands (mirSt [] { toStandby := List.replicate 64 { kind := 1, sentAt := 1000000 } }) 0 0x2000000, 1, by decide +kernel⟩,
   ⟨4, 1, 7, 0xFFFFFFF0, [1, 2, 3], crcOf item7, mirSt [] { expect := some 7 }, 1, by decide +kernel⟩,
   ⟨4, 1, 7, 0xFFFFFFF0, [1, 2, 3], crcOf item7, mirSt [] { expect := some 6 }, 1, 6, by decide +kernel⟩,
   ⟨4, 1, 7, 0xFFFFFFF0, [1, 2, 3], 0, mirSt [] {}, 1, by decide +kernel⟩,
   ⟨{ kind := 2, seq := 7 }, [{ kind := 3 }], mirSt [] { toActive := [{ kind := 2, seq := 7 }, { kind := 3 }] }, by decide +kernel⟩,
   ⟨{ kind := 3, seq := 7 }, [{ kind := 2 }], mirSt [] { toActive := [{ kind := 3, seq := 7 }, { kind := 2 }] }, by decide +kernel⟩,
   ⟨{ kind := 3, seq := 7 }, [], mirSt [] { toActive := [{ kind := 3, seq := 7 }] }, by decide +kernel⟩,
   ⟨{ kind := 3, seq := 7 }, [], islands (mirSt [] { toActive := [{ kind := 3, seq := 7 }] }) 0x2000000 0, by decide +kernel⟩,
   ⟨st [(Reg.stwRole, 0x44)], by decide +kernel⟩,
   ⟨7, crcOf end7, mirSt [(Reg.stwRole, 0x23), (Reg.updAct, 0x10000000)] { ends := 1, clean := true, expect := some 7 }, 1, by decide +kernel⟩,
   ⟨7, crcOf end7, mirSt [(Reg.stwRole, 0x23)] { ends := 2 }, 1, by decide +kernel⟩,
   ⟨7, crcOf end7, mirSt [] { ends := 1, expect := some 6 }, 1, by decide +kernel⟩,
   ⟨mirSt [] { toStandby := [{ kind := 4 }] }, by decide +kernel⟩,
   ⟨mirSt [] { toStandby := [{ kind := 4 }], waitStandby := [{ kind := 1, sentAt := 900000 }] }, { kind := 1, sentAt := 900000 }, by decide +kernel⟩,
   ⟨1, 6, { live with stw := { live.stw with b := { live.stw.b with health := some 5 } } }, by decide +kernel⟩,
   ⟨1, 7, { live with stw := { live.stw with b := { live.stw.b with health := some 5 } } }, by decide +kernel⟩,
   ⟨1, { st [(Reg.stwHcfg, 0x07010005)] with stw := { live.stw with b := { live.stw.b with health := some 2 } } }, by decide +kernel⟩,
   ⟨1, { st [(Reg.stwHcfg, 0x07010005)] with stw := { live.stw with b := { live.stw.b with health := some 1 } } }, by decide +kernel⟩,
   ⟨1, { st [(Reg.stwHcfg, 0x07010005)] with stw := { live.stw with b := { live.stw.b with health := some 3 } } }, by decide +kernel⟩,
   ⟨1, live, by decide +kernel⟩,
   ⟨1, st [(Reg.stwHcfg, 0x07010001), (Reg.stwHq, 0x3F)], by decide +kernel⟩⟩

theorem witness_IdentitiesGuardrailsAndFuses :
    (∃ (d : Dom) (v : Word) (s : State), s.takes d Reg.idmCmd v = true) ∧
    (∃ (s : State), s.flag Reg.idmCmd 31 = false) ∧
    (∃ (s : State), s.flag Reg.idmCmd 31 = true) ∧
    (∃ (hub : Int) (dram : Int) (tiles : List Int) (c : Nat) (x : Int) (s : State),
     let rs := [(0, hub)] ++ (if s.variant = .t then [(1, dram)] else []) ++ (tiles.take 16).zipIdx.map (fun e => (16 + e.2, e.1))
     let was := s.flag Reg.guardStatus 16
     let lim := (s.thermLimit : Int)
     rs.find? (fun r => decide (r.2 = x)) = some (c, x) ∧ (∀ r ∈ rs, r.2 ≤ x) ∧ lim * 128 < x ∧ was = false) ∧
    (∃ (hub : Int) (dram : Int) (tiles : List Int) (c : Nat) (x : Int) (s : State),
     let rs := [(0, hub)] ++ (if s.variant = .t then [(1, dram)] else []) ++ (tiles.take 16).zipIdx.map (fun e => (16 + e.2, e.1))
     let was := s.flag Reg.guardStatus 16
     let lim := (s.thermLimit : Int)
     let hyst := (s.thermHyst : Int)
     rs.find? (fun r => decide (r.2 = x)) = some (c, x) ∧ (∀ r ∈ rs, r.2 ≤ x) ∧ was = true ∧ x ≤ (lim - hyst) * 128 ∧
     x ≤ lim * 128) ∧
    (∃ (hub : Int) (dram : Int) (tiles : List Int) (c : Nat) (x : Int) (s : State),
     let rs := [(0, hub)] ++ (if s.variant = .t then [(1, dram)] else []) ++ (tiles.take 16).zipIdx.map (fun e => (16 + e.2, e.1))
     let was := s.flag Reg.guardStatus 16
     let lim := (s.thermLimit : Int)
     let hyst := (s.thermHyst : Int)
     rs.find? (fun r => decide (r.2 = x)) = some (c, x) ∧ (∀ r ∈ rs, r.2 ≤ x) ∧ was = true ∧ (lim - hyst) * 128 < x) ∧
    (∃ (hub : Int) (dram : Int) (tiles : List Int) (c : Nat) (x : Int) (s : State),
     let rs := [(0, hub)] ++ (if s.variant = .t then [(1, dram)] else []) ++ (tiles.take 16).zipIdx.map (fun e => (16 + e.2, e.1))
     let was := s.flag Reg.guardStatus 16
     let lim := (s.thermLimit : Int)
     rs.find? (fun r => decide (r.2 = x)) = some (c, x) ∧ (∀ r ∈ rs, r.2 ≤ x) ∧ was = false ∧ x ≤ lim * 128) ∧
    (∃ (d : Dom) (v : Word) (s : State), s.takes d Reg.guardFuseCtl v = true ∧
     let g := wfld v 2 0
     let may := g ≤ 5 ∧ s.flag Reg.guardStatus 0 = true ∧ s.modeNow = 0 ∧ s.flag Reg.guardStatus (8 + g) = false ∧ s.stw.burn = none
     may) ∧
    (∃ (d : Dom) (v : Word) (s : State), s.takes d Reg.guardFuseCtl v = true ∧
     let g := wfld v 2 0
     let may := g ≤ 5 ∧ s.flag Reg.guardStatus 0 = true ∧ s.modeNow = 0 ∧ s.flag Reg.guardStatus (8 + g) = false ∧ s.stw.burn = none
     ¬ may) ∧
    (∃ (s : State), s.stw.burn = none) ∧
    (∃ (g : Nat) (start : Nat) (w : Nat → Word) (s : State), g ≤ 5 ∧
     s.stw.burn = some (g, (guardGroup g).map (fun k => (k, w k)), start)) :=
  ⟨⟨.stw, 0x80008001, live, by decide +kernel⟩,
   ⟨live, by decide +kernel⟩,
   ⟨{ st [(Reg.idmCmd, 0x80008001)] with stw := { live.stw with idm := 0x8001 } }, by decide +kernel⟩,
   ⟨14721, 0, List.replicate 16 (-5), 0, 14721, live, by decide +kernel⟩,
   ⟨0, 0, [-5, 13440], 17, 13440, st [(Reg.guardStatus, 0x10000), (Reg.guardTherm, 0xA6973), (Reg.guardFTherm, 0xA6973)], by decide +kernel⟩,
   ⟨0, 0, [-5, 13441], 17, 13441, st [(Reg.guardStatus, 0x10000), (Reg.guardTherm, 0xA6973), (Reg.guardFTherm, 0xA6973)], by decide +kernel⟩,
   ⟨14720, 0, List.replicate 16 (-5), 0, 14720, live, by decide +kernel⟩,
   ⟨.stw, 0x46550005, st [(Reg.guardStatus, 1)], by decide +kernel⟩,
   ⟨.stw, 0x46550006, st [(Reg.guardStatus, 1)], by decide +kernel⟩,
   ⟨live, by decide +kernel⟩,
   ⟨5, 500, (fun k => word k), { live with stw := { live.stw with burn := some (5, (guardGroup 5).map (fun k => (k, word k)), 500) } }, by decide +kernel⟩⟩

theorem witness_UpdateSessionsVerifyWriteAndErase :
    (∃ (d : Dom) (v : Word) (s : State), s.takes d Reg.updSession (setFld v 1 0 1) = true ∧
     s.flag Reg.updSstat 31 = false) ∧
    (∃ (d : Dom) (v : Word) (s : State), s.takes d Reg.updSession (setFld v 1 0 1) = true ∧
     s.flag Reg.updSstat 31 = true) ∧
    (∃ (d : Dom) (v : Word) (s : State), s.takes d Reg.updSession (setFld v 1 0 2) = true ∧
     s.sessionOwner = some (domIdx d)) ∧
    (∃ (d : Dom) (v : Word) (s : State), s.takes d Reg.updSession (setFld v 1 0 2) = true ∧
     s.sessionOwner ≠ some (domIdx d)) ∧
    (∃ (s : State), s.flag Reg.updSstat 31 = true ∧ s.flag Reg.updOpres 31 = false) ∧
    (∃ (s : State), s.flag Reg.updSstat 31 = false ∨ s.flag Reg.updOpres 31 = true) ∧
    (∃ (d : Dom) (v : Word) (s : State) (c : _),
     c ∈ [(1, Instr.updVerify d v), (2, .updWrite d v), (3, .updErase d v)] ∧
     s.takes d Reg.updOp (setFld (setBit v 31 true) 3 0 c.1) = true ∧ s.flag Reg.updOpres 31 = true) ∧
    (∃ (d : Dom) (v : Word) (s : State) (c : _),
     c ∈ [(1, Instr.updVerify d v), (2, .updWrite d v), (3, .updErase d v)] ∧
     s.takes d Reg.updOp (setFld (setBit v 31 true) 3 0 c.1) = true ∧ s.flag Reg.updOpres 31 = false) ∧
    (∃ (s : State), s.upd.op = none) ∧
    (∃ (op : Nat) (t0 : Nat) (src : Nat) (len : Nat) (s : State), s.upd.op = some (op, t0, src, len) ∧ t0 < 4 ∧ op = 3) ∧
    (∃ (op : Nat) (t0 : Nat) (src : Nat) (len : Nat) (s : State), s.upd.op = some (op, t0, src, len) ∧ t0 < 4 ∧
     let x := s.smRead 0 src len
     let code := if x.2.2 then 12 else x.1.stagedCode op t0 x.2.1
     op ≠ 1 ∧ op ≠ 3 ∧ code ≠ 0) ∧
    (∃ (op : Nat) (t0 : Nat) (src : Nat) (len : Nat) (s : State), s.upd.op = some (op, t0, src, len) ∧ t0 < 4 ∧
     let x := s.smRead 0 src len
     let code := if x.2.2 then 12 else x.1.stagedCode op t0 x.2.1
     op = 1 ∧ code ≠ 0) ∧
    (∃ (op : Nat) (t0 : Nat) (src : Nat) (len : Nat) (s : State), s.upd.op = some (op, t0, src, len) ∧ t0 < 4 ∧
     let x := s.smRead 0 src len
     let code := if x.2.2 then 12 else x.1.stagedCode op t0 x.2.1
     op = 1 ∧ code = 0) ∧
    (∃ (op : Nat) (t0 : Nat) (src : Nat) (len : Nat) (s : State), s.upd.op = some (op, t0, src, len) ∧ t0 < 4 ∧
     let x := s.smRead 0 src len
     let code := if x.2.2 then 12 else x.1.stagedCode op t0 x.2.1
     op = 2 ∧ code = 0) :=
  ⟨⟨.stw, 0x55440000, live, by decide +kernel⟩,
   ⟨.pcie0, 0x55440000, st [(Reg.updSstat, 0x80000000)], by decide +kernel⟩,
   ⟨.stw, 0x55440000, st [(Reg.updSstat, 0x80000000)], by decide +kernel⟩,
   ⟨.stw, 0x55440000, st [(Reg.updSstat, 0x90000000)], by decide +kernel⟩,
   ⟨st [(Reg.updSstat, 0x80000000)], by decide +kernel⟩,
   ⟨live, by decide +kernel⟩,
   ⟨.stw, 0, st [(Reg.updSstat, 0x80000000), (Reg.updOpres, 0x80000000)], (3, Instr.updErase .stw 0), by decide +kernel⟩,
   ⟨.stw, 0x10000, st [(Reg.updSstat, 0x80000000), (Reg.updSrc, 0x10000), (Reg.updLen, 68)], (1, Instr.updVerify .stw 0x10000), by decide +kernel⟩,
   ⟨live, by decide +kernel⟩,
   ⟨3, 1, 0, 0, { live with upd := { live.upd with op := some (3, 1, 0, 0) } }, by decide +kernel⟩,
   ⟨2, 1, 0x10000, 68, { live with upd := { live.upd with op := some (2, 1, 0x10000, 68) } }, by decide +kernel⟩,
   ⟨1, 0, 0x10000, 68, { live with upd := { live.upd with op := some (1, 0, 0x10000, 68) } }, by decide +kernel⟩,
   ⟨1, 0, 0x10000, 68, { staged with upd := { live.upd with op := some (1, 0, 0x10000, 68) } }, by decide +kernel⟩,
   ⟨2, 1, 0x10000, 68, { staged with upd := { live.upd with op := some (2, 1, 0x10000, 68) } }, by decide +kernel⟩⟩

theorem witness_ActivationArmsTriesConfirmsAndFallsBack :
    (∃ (d : Dom) (v : Word) (a : Nat) (s : State), s.takes d Reg.updArm (setBit (setBit v 31 true) 30 false) = true ∧
     s.activeStw = some a) ∧
    (∃ (d : Dom) (v : Word) (s : State), s.takes d Reg.updArm (setBit (setBit v 31 false) 30 true) = true ∧
     (s.actState = 1 ∨ s.actState = 2)) ∧
    (∃ (d : Dom) (v : Word) (s : State), s.takes d Reg.updArm (setBit (setBit v 31 false) 30 true) = true ∧
     s.actState = 3) ∧
    (∃ (d : Dom) (v : Word) (s : State), s.takes d Reg.updArm (setBit (setBit v 31 false) 30 true) = true ∧
     (s.actState = 0 ∨ 4 ≤ s.actState)) ∧
    (∃ (s : State), s.actState = 1) ∧
    (∃ (s : State), s.actState ≠ 1) ∧
    (∃ (s : State), s.actState = 3) ∧
    (∃ (s : State), s.actState ≠ 3) ∧
    (∃ (s : State), s.crosses 0 26 = false) ∧
    (∃ (x : TimeAct) (a : Nat) (pre : List TimeAct) (post : List TimeAct) (s : State), s.crosses 0 26 = true ∧
     s.time.acts = pre ++ x :: post ∧ x.code = 6 ∧ (∀ y ∈ pre, y.code ≠ 6) ∧
     let may := x.arg = s.fld Reg.updAct 15 0 ∧ s.actState = 2 ∧ s.flag Reg.stwRole 9 = true ∧ s.busyStw = false
     s.activeStw = some a ∧ may) ∧
    (∃ (x : TimeAct) (pre : List TimeAct) (post : List TimeAct) (s : State), s.crosses 0 26 = true ∧
     s.time.acts = pre ++ x :: post ∧ x.code = 6 ∧ (∀ y ∈ pre, y.code ≠ 6) ∧
     let may := x.arg = s.fld Reg.updAct 15 0 ∧ s.actState = 2 ∧ s.flag Reg.stwRole 9 = true ∧ s.busyStw = false
     (s.activeStw = none ∨ ¬ may)) ∧
    (∃ (d : Dom) (v : Word) (s : State), s.takes d Reg.updConfirm (setBit v 0 true) = true ∧
     let bank := s.fld Reg.updAct 16 16
     let may := s.actState = 3 ∧ s.runBank 0 = bank ∧ s.runBank 1 = bank ∧ s.flag Reg.stwRole 9 = true
     may) ∧
    (∃ (d : Dom) (v : Word) (s : State), s.takes d Reg.updConfirm (setBit v 0 true) = true ∧
     let bank := s.fld Reg.updAct 16 16
     let may := s.actState = 3 ∧ s.runBank 0 = bank ∧ s.runBank 1 = bank ∧ s.flag Reg.stwRole 9 = true
     ¬ may) ∧
    (∃ (s : State), s.actState ≠ 4 ∨ s.activeStw = none) ∧
    (∃ (a : Nat) (s : State), s.actState = 4 ∧ s.activeStw = some a ∧ s.stwState (1 - a) ≠ 2) ∧
    (∃ (a : Nat) (s : State),
     let c := s.confirmed
     s.actState = 4 ∧ s.activeStw = some a ∧ s.stwState (1 - a) = 2 ∧ s.runBank (1 - a) ≠ c) ∧
    (∃ (a : Nat) (s : State),
     let c := s.confirmed
     s.actState = 4 ∧ s.activeStw = some a ∧ s.stwState (1 - a) = 2 ∧ s.runBank (1 - a) = c ∧
     s.flag Reg.stwRole 9 = true ∧ s.runBank a ≠ c ∧ s.busyStw = false) ∧
    (∃ (a : Nat) (s : State),
     let c := s.confirmed
     s.actState = 4 ∧ s.activeStw = some a ∧ s.stwState (1 - a) = 2 ∧ s.runBank (1 - a) = c ∧
     s.flag Reg.stwRole 9 = true ∧ s.runBank a = c) :=
  ⟨⟨.stw, 0x00010005, 0, st [(Reg.updSstat, 0x80000000)], by decide +kernel⟩,
   ⟨.stw, 0, st [(Reg.updSstat, 0x80000000), (Reg.updAct, 0x10010005)], by decide +kernel⟩,
   ⟨.stw, 0, st [(Reg.updSstat, 0x80000000), (Reg.updAct, 0x30010005)], by decide +kernel⟩,
   ⟨.stw, 0, st [(Reg.updSstat, 0x80000000), (Reg.updAct, 0x40010005)], by decide +kernel⟩,
   ⟨st [(Reg.updAct, 0x10010005)], by decide +kernel⟩,
   ⟨live, by decide +kernel⟩,
   ⟨st [(Reg.updAct, 0x30010005)], by decide +kernel⟩,
   ⟨live, by decide +kernel⟩,
   ⟨islands live 1 0, by decide +kernel⟩,
   ⟨⟨6, 5, 2, 1000, 0, 0⟩, 0, [⟨4, 1, 2, 3, 0, 0⟩], [], { st [(Reg.updAct, 0x20010005)] with time := { live.time with acts := [⟨4, 1, 2, 3, 0, 0⟩, ⟨6, 5, 2, 1000, 0, 0⟩] } }, by decide +kernel⟩,
   ⟨⟨6, 4, 2, 1000, 0, 0⟩, [], [], { st [(Reg.updAct, 0x20010005)] with time := { live.time with acts := [⟨6, 4, 2, 1000, 0, 0⟩] } }, by decide +kernel⟩,
   ⟨.stw, 0x434F0000, st [(Reg.updSstat, 0x80000000), (Reg.updAct, 0x30010005), (Reg.updBanks, 0x30)], by decide +kernel⟩,
   ⟨.stw, 0x434F0000, st [(Reg.updSstat, 0x80000000), (Reg.updAct, 0x30010005), (Reg.updBanks, 0x20)], by decide +kernel⟩,
   ⟨live, by decide +kernel⟩,
   ⟨0, st [(Reg.updAct, 0x40010005), (Reg.stwRole, 0x43)], by decide +kernel⟩,
   ⟨0, st [(Reg.updAct, 0x40010005), (Reg.updBanks, 0x20)], by decide +kernel⟩,
   ⟨0, st [(Reg.updAct, 0x40010005), (Reg.updBanks, 0x10)], by decide +kernel⟩,
   ⟨0, st [(Reg.updAct, 0x40010005)], by decide +kernel⟩⟩

theorem witness_KeysStartupAndAgeing :
    (∃ (d : Dom) (v : Word) (s : State), s.takes d Reg.updKeyFuse v = true ∧
     let k := wfld v 1 0
     let revoke := v.getLsbD 8
     let prog := s.flag Reg.updKeys k
     let fits := if revoke then prog = true ∧ s.flag Reg.updKeys (4 + k) = false else prog = false
     let may := s.flag Reg.guardStatus 0 = true ∧ s.modeNow = 0 ∧ fits ∧ s.flag Reg.updOpres 31 = false
     ¬ may) ∧
    (∃ (d : Dom) (v : Word) (s : State), s.takes d Reg.updKeyFuse v = true ∧
     let k := wfld v 1 0
     let revoke := v.getLsbD 8
     let prog := s.flag Reg.updKeys k
     let fits := if revoke then prog = true ∧ s.flag Reg.updKeys (4 + k) = false else prog = false
     let may := s.flag Reg.guardStatus 0 = true ∧ s.modeNow = 0 ∧ fits ∧ s.flag Reg.updOpres 31 = false
     may ∧ revoke = true) ∧
    (∃ (d : Dom) (v : Word) (s : State), s.takes d Reg.updKeyFuse v = true ∧
     let k := wfld v 1 0
     let revoke := v.getLsbD 8
     let prog := s.flag Reg.updKeys k
     let fits := if revoke then prog = true ∧ s.flag Reg.updKeys (4 + k) = false else prog = false
     let may := s.flag Reg.guardStatus 0 = true ∧ s.modeNow = 0 ∧ fits ∧ s.flag Reg.updOpres 31 = false
     let src := s.nat Reg.updSrc
     may ∧ revoke = false ∧ 0x3000000 < src + 32) ∧
    (∃ (d : Dom) (v : Word) (s : State), s.takes d Reg.updKeyFuse v = true ∧
     let k := wfld v 1 0
     let revoke := v.getLsbD 8
     let prog := s.flag Reg.updKeys k
     let fits := if revoke then prog = true ∧ s.flag Reg.updKeys (4 + k) = false else prog = false
     let may := s.flag Reg.guardStatus 0 = true ∧ s.modeNow = 0 ∧ fits ∧ s.flag Reg.updOpres 31 = false
     let src := s.nat Reg.updSrc
     may ∧ revoke = false ∧ src + 32 ≤ 0x3000000 ∧
     let x := s.smRead 0 src 32
     x.2.2 = true) ∧
    (∃ (d : Dom) (v : Word) (s : State), s.takes d Reg.updKeyFuse v = true ∧
     let k := wfld v 1 0
     let revoke := v.getLsbD 8
     let prog := s.flag Reg.updKeys k
     let fits := if revoke then prog = true ∧ s.flag Reg.updKeys (4 + k) = false else prog = false
     let may := s.flag Reg.guardStatus 0 = true ∧ s.modeNow = 0 ∧ fits ∧ s.flag Reg.updOpres 31 = false
     let src := s.nat Reg.updSrc
     may ∧ revoke = false ∧ src + 32 ≤ 0x3000000 ∧
     let x := s.smRead 0 src 32
     x.2.2 = false) ∧
    (∃ (s : State), s.upd.burn = none) ∧
    (∃ (revoke : Bool) (k : Nat) (start : Nat) (hash : List Byte) (s : State), k < 4 ∧
     s.upd.burn = some (k, revoke, hash, start)) ∧
    (∃ (s : State), s.activeStw = none ∨ s.flag Reg.cfgStatus 31 = true) ∧
    (∃ (x : StartupData) (s : State), s.activeStw.isSome = true ∧ s.flag Reg.cfgStatus 31 = false ∧ x.readOk0 = false ∧
     x.readOk1 = false) ∧
    (∃ (x : StartupData) (s : State) (c : Fin 2), s.activeStw.isSome = true ∧ s.flag Reg.cfgStatus 31 = false ∧
     let idOk := decide (x.flashId ≠ 0) && decide (x.flashId ≠ 0xFFFFFF)
     let cause := fun (c : Nat) => s.cfgCause ((if c = 0 then x.readOk0 else x.readOk1) && idOk) (flashRegion s.upd.flash c) s.runFmt
     cause c = 0 ∧ cause (1 - c.val) ≠ 0 ∧
     let bs := flashRegion s.upd.flash c
     let fmt := s.runFmt.getD 0
     (∀ y ∈ applied bs fmt, y.1 ≠ 2)) ∧
    (∃ (d : Dom) (v : Word) (m : AgeMeas) (s : State),
     let go := setBit v 31 true
     s.takes d Reg.ageCtl go = true ∧ s.age.run = none ∧ 0 < m.ticks.getD 0 0) ∧
    (∃ (d : Dom) (v : Word) (s : State) (y : _),
     let go := setBit v 31 true
     s.takes d Reg.ageCtl go = true ∧ s.age.run = some y ∧ s.time.up < y.due ∧ s.ageWaits = false) ∧
    (∃ (s : State), s.islandLive 27 = false ∨ s.fld Reg.agePeriodD 15 0 = 0 ∨ s.xtimeNow < s.rd64 Reg.ageNextLo) ∧
    (∃ (m : AgeMeas) (s : State), s.islandLive 27 = true ∧ s.fld Reg.agePeriodD 15 0 ≠ 0 ∧
     s.rd64 Reg.ageNextLo ≤ s.xtimeNow ∧ s.age.run = none ∧ 0 < m.ticks.getD 0 0) ∧
    (∃ (s : State) (y : _), s.islandLive 27 = true ∧ s.fld Reg.agePeriodD 15 0 ≠ 0 ∧
     s.rd64 Reg.ageNextLo ≤ s.xtimeNow ∧ s.age.run = some y ∧ s.time.up < y.due ∧ s.ageWaits = false) :=
  ⟨⟨.stw, 0x4B460000, st [(Reg.updSstat, 0x80000000)], by decide +kernel⟩,
   ⟨.stw, 0x4B460100, st [(Reg.updSstat, 0x80000000), (Reg.guardStatus, 1), (Reg.updKeys, 1)], by decide +kernel⟩,
   ⟨.stw, 0x4B460003, st [(Reg.updSstat, 0x80000000), (Reg.guardStatus, 1), (Reg.updSrc, 0x2FFFFE1)], by decide +kernel⟩,
   ⟨.stw, 0x4B460003, st [(Reg.updSstat, 0x80000000), (Reg.guardStatus, 1), (Reg.updSrc, 0x10000)], by decide +kernel⟩,
   ⟨.stw, 0x4B460003, (st [(Reg.updSstat, 0x80000000), (Reg.guardStatus, 1), (Reg.updSrc, 0x2FFFFE0)]).smWrite 0 0x2FFFFE0 (List.replicate 32 7), by decide +kernel⟩,
   ⟨live, by decide +kernel⟩,
   ⟨true, 3, 500, [1], { live with upd := { live.upd with burn := some (3, true, [1], 500) } }, by decide +kernel⟩,
   ⟨st [(Reg.cfgStatus, 0x80000000)], by decide +kernel⟩,
   ⟨{ boot with readOk0 := false, readOk1 := false }, live, by decide +kernel⟩,
   ⟨boot, { st [(Reg.updBanks, 0x200)] with upd := { live.upd with flash := { cfg0 := cfgImg } } }, 0, by decide +kernel⟩,
   ⟨.stw, 0, camp, live, by decide +kernel⟩,
   ⟨.stw, 0, { live with age := { live.age with run := some { meas := camp, xstart := 0, start := 0, due := 1000001 } } }, { meas := camp, xstart := 0, start := 0, due := 1000001 }, by decide +kernel⟩,
   ⟨live, by decide +kernel⟩,
   ⟨camp, st [(Reg.ageNextLo, 0), (Reg.ageNextHi, 0)], by decide +kernel⟩,
   ⟨{ st [(Reg.ageNextLo, 0), (Reg.ageNextHi, 0)] with age := { live.age with run := some { meas := camp, xstart := 0, start := 0, due := 1000001 } } }, { meas := camp, xstart := 0, start := 0, due := 1000001 }, by decide +kernel⟩⟩

theorem witness_CampaignsMeasureAdjustAndReport :
    (∃ (d : Dom) (v : Word) (y : AgeRun) (s : State), s.takes d Reg.ageCtl (setBit v 31 true) = true ∧
     s.age.run = some y ∧ y.ending = false ∧ y.due ≤ s.time.up ∧
     let i := s.fld Reg.ageStat 26 24
     let after : AgeRun := { y with due := y.due + y.meas.ticks.getD i 0 }
     i = 1 ∧ s.time.up < after.due ∧ s.flag Reg.ageCtl 0 = false) ∧
    (∃ (d : Dom) (v : Word) (y : AgeRun) (s : State) (r : Nat × Nat) (e : Int) (read : Nat),
     s.takes d Reg.ageCtl (setBit v 31 true) = true ∧ s.age.run = some y ∧ y.ending = false ∧ y.due ≤ s.time.up ∧
     let i := s.fld Reg.ageStat 26 24
     let after : AgeRun := { y with due := y.due + y.meas.ticks.getD i 0 }
     i = 1 ∧ s.time.up < after.due ∧
     let x0 := s.ageOscs (y.meas.osc.headD [])
     let x1 := x0.1.ageOscs (y.meas.osc.tail.headD [])
     let lo : Int := (s.fld Reg.ageRcfg 7 0 : Nat)
     let hi : Int := (s.fld Reg.ageRcfg 15 8 : Nat)
     let mv := s.age.setpt + s.fld Reg.ageRcfg 31 24
     s.flag Reg.ageCtl 0 = true ∧ y.railCut = none ∧ 1 ≤ s.fld Reg.ageRcfg 23 16 ∧ x0.2 < lo ∧ s.railWindow.1 ≤ mv ∧
     mv ≤ s.railWindow.2 ∧ s.age.rail0 = some r ∧ y.meas.rail.headD none = some (true, e, read) ∧ read ≤ mv + 5 ∧
     mv ≤ read + 5 ∧ lo ≤ x1.2 ∧ x1.2 ≤ hi) ∧
    (∃ (d : Dom) (v : Word) (y : AgeRun) (s : State) (r : Nat × Nat), s.takes d Reg.ageCtl (setBit v 31 true) = true ∧
     s.age.run = some y ∧ y.ending = false ∧ y.due ≤ s.time.up ∧
     let i := s.fld Reg.ageStat 26 24
     let after : AgeRun := { y with due := y.due + y.meas.ticks.getD i 0 }
     i = 1 ∧ s.time.up < after.due ∧
     let x0 := s.ageOscs (y.meas.osc.headD [])
     let lo : Int := (s.fld Reg.ageRcfg 7 0 : Nat)
     let mv := s.age.setpt + s.fld Reg.ageRcfg 31 24
     s.flag Reg.ageCtl 0 = true ∧ y.railCut = none ∧ 1 ≤ s.fld Reg.ageRcfg 23 16 ∧ x0.2 < lo ∧ s.railWindow.1 ≤ mv ∧
     mv ≤ s.railWindow.2 ∧ s.age.rail0 = some r ∧ y.meas.rail.headD none = none) ∧
    (∃ (d : Dom) (v : Word) (y : AgeRun) (s : State), s.takes d Reg.ageCtl (setBit v 31 true) = true ∧
     s.age.run = some y ∧ y.ending = false ∧ y.due ≤ s.time.up ∧
     let i := s.fld Reg.ageStat 26 24
     let after : AgeRun := { y with due := y.due + y.meas.ticks.getD i 0 }
     i = 5 ∧ s.time.up < after.due ∧ s.flag Reg.ageCtl 8 = true ∧ s.flag Reg.clkStatus 6 = true ∧
     s.flag Reg.clkStatus 4 = false ∧
     let adj := (2 * s.nat Reg.clkXratioLo * 500000000 + 2 ^ 32) / 2 ^ 33
     let fits := s.fld Reg.clkXratioHi 7 0 = 40 ∧ adj ≤ 8388607
     fits) ∧
    (∃ (d : Dom) (v : Word) (y : AgeRun) (s : State), s.takes d Reg.ageCtl (setBit v 31 true) = true ∧
     s.age.run = some y ∧ y.ending = false ∧ y.due ≤ s.time.up ∧
     let i := s.fld Reg.ageStat 26 24
     let after : AgeRun := { y with due := y.due + y.meas.ticks.getD i 0 }
     i = 5 ∧ s.time.up < after.due ∧ s.flag Reg.ageCtl 8 = true ∧ s.flag Reg.clkStatus 6 = true ∧
     s.flag Reg.clkStatus 4 = false ∧
     let adj := (2 * s.nat Reg.clkXratioLo * 500000000 + 2 ^ 32) / 2 ^ 33
     let fits := s.fld Reg.clkXratioHi 7 0 = 40 ∧ adj ≤ 8388607
     ¬ fits) ∧
    (∃ (d : Dom) (v : Word) (m : AgeMeas) (y : AgeRun) (s : State), s.takes d Reg.ageCtl (setBit v 31 true) = true ∧
     s.age.run = some y ∧ y.ending = false ∧ y.due ≤ s.time.up ∧
     let i := s.fld Reg.ageStat 26 24
     i = 6 ∧ 0 < m.ticks.getD 0 0) ∧
    (∃ (y : AgeRun) (s : State), s.canonical ∧ s.srst Pg.age = true ∧ sget [] Pg.age s.fab.srstHeld = [] ∧
     s.age.run = some y ∧ s.time.up < y.due ∧ s.ageWaits = false) :=
  ⟨⟨.stw, 0, campRun [], campaigning 1 (campRun []) [(Reg.ageCtl, 0x80000002)], by decide +kernel⟩,
   ⟨.stw, 0, campRun [some (true, -12, 812)], campaigning 1 (campRun [some (true, -12, 812)]) [(Reg.ageCtl, 0x80000001)], (0x40, 0), -12, 812, by decide +kernel⟩,
   ⟨.stw, 0, campRun [], campaigning 1 (campRun []) [(Reg.ageCtl, 0x80000001)], (0x40, 0), by decide +kernel⟩,
   ⟨.stw, 0, campRun [], campaigning 5 (campRun []) [(Reg.ageCtl, 0x80000100), (Reg.clkStatus, 0x45), (Reg.clkXratioHi, 40), (Reg.clkXratioLo, 0x00058149)], by decide +kernel⟩,
   ⟨.stw, 0, campRun [], campaigning 5 (campRun []) [(Reg.ageCtl, 0x80000100), (Reg.clkStatus, 0x45), (Reg.clkXratioHi, 39)], by decide +kernel⟩,
   ⟨.stw, 0, camp, { campRun [] with margin := -3, start := 0 }, campaigning 6 { campRun [] with margin := -3, start := 0 } [(Reg.ageCtl, 0x80000000)], by decide +kernel⟩,
   ⟨{ campRun [] with due := 1000000000000 }, campaigning 2 { campRun [] with due := 1000000000000 } [(Reg.ageCtl, 0x80000000), (Reg.pageCtl Pg.age, 3)], ⟨⟨by decide +kernel, by decide +kernel⟩, by decide +kernel⟩⟩⟩

end Sys2Proof.Tests
end

section
/-!
SUPPORT. What a register write does before its effect: a write that its domain may not make is only entered in the denial log
and counted (R107, R116), a write that is taken has its effect on the state in which an override is counted (R98, R110).
-/
namespace Sys2Proof.Machine

theorem domIdx_lt_four (d : Dom) : domIdx d < 4 := by cases d <;> decide

theorem State.islandLive_iff (s : State) (n : Nat) :
    s.islandLive n = true ↔ s.islandExists n = true ∧ s.fab.stopped.getLsbD n = false ∧ s.fab.inReset.getLsbD n = false := by
  simp [State.islandLive, and_assoc]

/-- Writing a field leaves every field below it alone. -/
theorem wfld_setFld_below (w : Word) (hi lo v hi' lo' : Nat) (h : hi < 32) (hl : lo ≤ hi) (hb : hi' < lo) (hl' : lo' ≤ hi') :
    wfld (setFld w hi lo v) hi' lo' = wfld w hi' lo' := by
  have low : ∀ n : Nat, nfld n hi' lo' = n % 2 ^ lo / 2 ^ lo' % 2 ^ (hi' + 1 - lo') := by
    intro n
    have e : 2 ^ lo = 2 ^ lo' * (2 ^ (hi' + 1 - lo') * 2 ^ (lo - (hi' + 1))) := by
      rw [← pow_add, ← pow_add]
      congr 1
      omega
    rw [nfld, Nat.shiftRight_eq_div_pow, e, Nat.mod_mul_right_div_self, Nat.mod_mul_right_mod]
  have hm : (setFld w hi lo v).toNat % 2 ^ lo = w.toNat % 2 ^ lo := by
    rw [setFld_toNat w hi lo v h hl, ← Nat.add_mul, Nat.mul_add_mod', Nat.mod_mod]
  rw [wfld, wfld, low, low, hm]

/-- Writing a field leaves every field of the register below it alone. -/
theorem State.fld_setF_below (s : State) (k hi lo v hi' lo' : Nat) (h : hi < 32) (hl : lo ≤ hi) (hb : hi' < lo) (hl' : lo' ≤ hi') :
    (s.setF k hi lo v).fld k hi' lo' = s.fld k hi' lo' := by
  rw [State.fld, State.setF, State.rd_wr_same, wfld_setFld_below _ _ _ _ _ _ h hl hb hl', State.fld]

/-- A field of a register reads by the register alone. -/
theorem State.fld_congr {s t : State} {k : Nat} (hi lo : Nat) (h : t.rd k = s.rd k) : t.fld k hi lo = s.fld k hi lo :=
  congrArg (fun w => wfld w hi lo) h

/-- `t` differs from `s` in the register store alone. -/
def sameButRegs (s t : State) : Prop := t = { s with regs := t.regs }

section SameButRegs
variable {s t u : State}

theorem sameButRegs.refl (s : State) : sameButRegs s s := rfl

theorem sameButRegs.trans (h : sameButRegs s t) (k : sameButRegs t u) : sameButRegs s u := by
  rw [sameButRegs, k, h]

/-- A register write, and so every operation on one register, changes the register store alone. -/
theorem State.wr_sameButRegs (s : State) (k : Nat) (w : Word) : sameButRegs s (s.wr k w) := rfl

theorem sameButRegs.variant (h : sameButRegs s t) : t.variant = s.variant := by rw [h]
theorem sameButRegs.mem (h : sameButRegs s t) : t.mem = s.mem := by rw [h]
theorem sameButRegs.fab (h : sameButRegs s t) : t.fab = s.fab := by rw [h]
theorem sameButRegs.mode (h : sameButRegs s t) : t.mode = s.mode := by rw [h]

end SameButRegs

/-! The denial log (R107). -/

section DenyWrite
variable (s : State) (d : Dom) (addr : Nat) (v : Word)

/-- The state in which the entry of a denied write stands in the log, NEXT and the denial count not yet moved on. -/
def State.denyEntry : State :=
  let e := s.fld Reg.ownDenyHead 3 0
  (((s.wr (Reg.ownDenyLog e 0) (word (domIdx d * 2 ^ 30 + (addr / 0x1000 % 0x1000) * 2 ^ 16 + addr % 0x1000))).wr
    (Reg.ownDenyLog e 1) v).wr (Reg.ownDenyLog e 2) (word s.now)).wr (Reg.ownDenyLog e 3) (word (s.now / 2 ^ 32))

theorem State.denyWrite_eq : s.denyWrite d addr v =
    (((s.denyEntry d addr v).setF Reg.ownDenyHead 3 0 (s.fld Reg.ownDenyHead 3 0 + 1)).incF Reg.ownDenyHead 31 4).incFSat
      Reg.ownDenyCount (8 * domIdx d + 7) (8 * domIdx d) := by
  have now : ∀ (t : State) (k : Nat) (w : Word), (t.wr k w).now = t.now := fun _ _ _ => rfl
  simp only [State.denyWrite, State.denyEntry, now]

theorem State.denyEntry_log : let e := s.fld Reg.ownDenyHead 3 0
    (s.denyEntry d addr v).rd (Reg.ownDenyLog e 0) =
      word (domIdx d * 2 ^ 30 + (addr / 0x1000 % 0x1000) * 2 ^ 16 + addr % 0x1000) ∧
    (s.denyEntry d addr v).rd (Reg.ownDenyLog e 1) = v ∧ (s.denyEntry d addr v).rd (Reg.ownDenyLog e 2) = word s.now ∧
    (s.denyEntry d addr v).rd (Reg.ownDenyLog e 3) = word (s.now / 2 ^ 32) := by
  simp [State.denyEntry, Reg.ownDenyLog]

/-- The entry touches the four words of its place in the log. -/
theorem State.denyEntry_rd_other (k : Nat) (h : ∀ j < 4, k ≠ Reg.ownDenyLog (s.fld Reg.ownDenyHead 3 0) j) :
    (s.denyEntry d addr v).rd k = s.rd k := by
  simp only [State.denyEntry]
  rw [State.rd_wr_other _ _ _ _ (h 3 (by omega)), State.rd_wr_other _ _ _ _ (h 2 (by omega)),
    State.rd_wr_other _ _ _ _ (h 1 (by omega)), State.rd_wr_other _ _ _ _ (h 0 (by omega))]

/-- A denied write touches the entry, NEXT and the count alone. -/
theorem State.denyWrite_rd_entry (k : Nat) (hh : k ≠ Reg.ownDenyHead) (hc : k ≠ Reg.ownDenyCount) :
    (s.denyWrite d addr v).rd k = (s.denyEntry d addr v).rd k := by
  rw [State.denyWrite_eq, State.incFSat, State.incFSatBy, State.rd_setF_other _ _ _ _ _ _ hc, State.incF,
    State.rd_setF_other _ _ _ _ _ _ hh, State.rd_setF_other _ _ _ _ _ _ hh]

/-- NEXT moves on modulo 16; TOTAL above it does not disturb it. -/
theorem State.denyWrite_head :
    (s.denyWrite d addr v).fld Reg.ownDenyHead 3 0 = (s.fld Reg.ownDenyHead 3 0 + 1) % 16 := by
  rw [State.denyWrite_eq, State.incFSat, State.incFSatBy,
    State.fld_congr 3 0 (State.rd_setF_other _ _ _ _ _ _ (by decide)), State.incF,
    State.fld_setF_below _ _ _ _ _ _ _ (by decide) (by decide) (by decide) (by decide),
    State.fld_setF_same _ _ _ _ _ (by decide) (by decide), show 2 ^ (3 + 1 - 0) = 16 from rfl]

/-- The count of the writing domain goes up by one and stays at its greatest value. -/
theorem State.denyWrite_count : let k := domIdx d
    (s.denyWrite d addr v).fld Reg.ownDenyCount (8 * k + 7) (8 * k) =
      Nat.min (s.fld Reg.ownDenyCount (8 * k + 7) (8 * k) + 1) 255 := by
  intro k
  have hk : k < 4 := domIdx_lt_four d
  have hw : 8 * k + 7 + 1 - 8 * k = 8 := by omega
  have hr : ((((s.denyEntry d addr v).setF Reg.ownDenyHead 3 0 (s.fld Reg.ownDenyHead 3 0 + 1)).incF Reg.ownDenyHead 31 4).rd
      Reg.ownDenyCount) = s.rd Reg.ownDenyCount := by
    rw [State.incF, State.rd_setF_other _ _ _ _ _ _ (by decide), State.rd_setF_other _ _ _ _ _ _ (by decide)]
    exact s.denyEntry_rd_other d addr v _ (fun j _ => by simp only [Reg.ownDenyLog, Reg.ownDenyCount]; omega)
  rw [State.denyWrite_eq, State.incFSat, State.incFSatBy, State.fld_setF_same _ _ _ _ _ (by omega) (by omega), hw,
    State.fld_congr _ _ hr]
  exact Nat.mod_eq_of_lt (Nat.lt_of_le_of_lt (Nat.min_le_right _ _) (by decide))

/-- A denied write changes the register store alone. -/
theorem State.denyWrite_sameButRegs : sameButRegs s (s.denyWrite d addr v) := by
  have entry : sameButRegs s (s.denyEntry d addr v) :=
    (((State.wr_sameButRegs _ _ _).trans (State.wr_sameButRegs _ _ _)).trans (State.wr_sameButRegs _ _ _)).trans
      (State.wr_sameButRegs _ _ _)
  rw [State.denyWrite_eq]
  exact ((entry.trans (State.wr_sameButRegs _ _ _)).trans (State.wr_sameButRegs _ _ _)).trans (State.wr_sameButRegs _ _ _)

end DenyWrite

/-- A write that reaches the register fabric and that its domain may not make is a denied write, whoever sends it (R107). -/
theorem State.busWrite_denied {s : State} {d : Dom} {addr : Nat} (hl : s.islandLive 26 = true) (hw : s.inWarm = false)
    (hp : s.pageExists (addr / 0x1000) = true) (hm : s.mayWrite d addr = false) (v : Word) (eff : State → State)
    (who : Option Requester) : s.busWrite d addr v eff who = s.denyWrite d addr v := by
  obtain ⟨-, hs, hr⟩ := (s.islandLive_iff 26).1 hl
  simp only [State.busWrite, hs, hr, hw, hp, hm, Bool.false_eq_true, Bool.true_eq_false, if_false, if_true]

/-- A register write of a requester that can send reaches the register fabric and is denied there (R83, R107, R607). -/
theorem State.reqWrite_denied {s : State} {q : Requester} {addr : Nat} (ha : s.asks q = true)
    (hs : ∀ b, q = .steward b → s.activeStw = some b.val) (h4 : addr % 4 = 0) (hx : addr < 0xFFE000)
    (hl : s.islandLive 26 = true) (hw : s.inWarm = false) (hp : s.pageExists (addr / 0x1000) = true)
    (hm : s.mayWrite (s.reqDomain q) addr = false) (v : Word) : s.reqWrite q addr v = s.denyWrite (s.reqDomain q) addr v := by
  have hb := State.busWrite_denied hl hw hp hm v
  have hx' : ¬ (addr / 0x1000 = 0xFFE ∨ addr / 0x1000 = 0xFFF) := by omega
  unfold State.reqWrite
  rw [if_neg (by simp [ha, h4]), if_neg hx']
  cases q with
  | port p => exact hb _ _
  | queue n => exact hb _ _
  | downlink => exact hb _ _
  | steward b =>
    have act : ¬ (addr ≠ Reg.stwKick ∧ addr ≠ Reg.stwAluSig ∧ s.activeStw ≠ some b.val) := fun h => h.2.2 (hs b rfl)
    exact (if_neg act).trans (hb _ _)

/-- Settles O8: the write reaches the register fabric, is denied there, and a denied write is the entry, NEXT and the count. -/
theorem deniedWriteIsLoggedAndCounted : Obligations.DeniedWriteIsLoggedAndCounted := by
  intro q addr v s d e k ha hst h4 hx _ hl hw hp hm
  refine ⟨s.denyWrite d addr v, ?_, ?_⟩
  · exact congrArg Host.Outcome.next (State.reqWrite_denied ha hst h4 hx hl hw hp hm v)
  · have frame := s.denyWrite_sameButRegs d addr v
    obtain ⟨h0, h1, h2, h3⟩ := s.denyEntry_log d addr v
    have log : ∀ j, (s.denyWrite d addr v).rd (Reg.ownDenyLog e j) = (s.denyEntry d addr v).rd (Reg.ownDenyLog e j) :=
      fun j => s.denyWrite_rd_entry d addr v _ (by simp only [Reg.ownDenyLog, Reg.ownDenyHead]; omega)
        (by simp only [Reg.ownDenyLog, Reg.ownDenyCount]; omega)
    refine ⟨(log 0).trans h0, (log 1).trans h1, (log 2).trans h2, (log 3).trans h3, s.denyWrite_head d addr v,
      s.denyWrite_count d addr v, ?_, frame.mem, frame.fab, frame.mode⟩
    intro r hr
    simp only [List.mem_cons, List.not_mem_nil, or_false, not_or] at hr
    obtain ⟨n0, n1, n2, n3, nh, nc⟩ := hr
    rw [s.denyWrite_rd_entry d addr v r nh nc]
    refine s.denyEntry_rd_other d addr v r (fun j hj => ?_)
    interval_cases j <;> assumption

end Sys2Proof.Machine
end

section
/-!
SUPPORT. A write that is taken, and the claims and releases of pages (R102, R103, R110, R733).
-/
namespace Sys2Proof.Machine

/-! A write that is taken has its effect after the override is counted (R98, R110). -/

section CountOverride
variable (s : State) (d : Dom) (addr : Nat)

theorem State.countOverride_cases :
    s.countOverride d addr = s ∨ s.countOverride d addr = s.incSat Reg.ownStwOverride := by
  unfold State.countOverride
  split
  · split
    · exact .inr rfl
    · exact .inl rfl
  · exact .inl rfl

theorem State.countOverride_sameButRegs : sameButRegs s (s.countOverride d addr) := by
  rcases s.countOverride_cases d addr with h | h <;> rw [h]
  · exact sameButRegs.refl s
  · exact s.wr_sameButRegs _ _

/-- Counting an override touches OWN.STW_OVERRIDE alone. -/
theorem State.rd_countOverride_other (k : Nat) (hk : k ≠ Reg.ownStwOverride) : (s.countOverride d addr).rd k = s.rd k := by
  rcases s.countOverride_cases d addr with h | h <;> rw [h]
  exact s.rd_wr_other _ _ _ hk

theorem State.owner_countOverride (p : Nat) : (s.countOverride d addr).owner p = s.owner p := by
  simp only [State.owner, State.ownReset, (s.countOverride_sameButRegs d addr).fab]

theorem State.pageExists_countOverride (p : Nat) : (s.countOverride d addr).pageExists p = s.pageExists p := by
  simp only [State.pageExists, (s.countOverride_sameButRegs d addr).variant]

end CountOverride

/-- A write that is taken has its effect, on the state in which the override is counted. -/
theorem State.hostWrite_of_takes {s : State} {d : Dom} {addr : Nat} {v : Word} (h : s.takes d addr v = true)
    (eff : State → State) : s.hostWrite d addr v eff = eff (s.countOverride d addr) := by
  simp only [State.takes, Bool.and_eq_true, Bool.or_eq_true, Bool.not_eq_true', decide_eq_true_eq] at h
  obtain ⟨⟨⟨⟨⟨⟨⟨⟨⟨⟨hsend, hans⟩, hpage⟩, hmay⟩, hctrl⟩, hlive⟩, hwarm⟩, hreset⟩, hstop⟩, hsrst⟩, hwhole⟩ := h
  obtain ⟨-, hstop26, hreset26⟩ := (s.islandLive_iff 26).1 hlive
  have hstw : ¬ (d = .stw ∧ s.activeStw = none) := by
    rintro ⟨hd, hn⟩
    simp [hd, hn] at hsend
  have hfab := (s.countOverride_sameButRegs d addr).fab
  have hsrst' : (s.countOverride d addr).srst (ownPage (addr / 0x1000)) = false := by
    rw [State.srst, State.flag, s.rd_countOverride_other d addr _ (by simp only [Reg.pageCtl, Reg.ownStwOverride]; omega)]
    exact hsrst
  rw [State.hostWrite, if_neg hstw, if_pos hans]
  simp only [State.busWrite, hstop26, hreset26, hwarm, hpage, hmay, hctrl, hfab, hreset, hstop, hsrst', Bool.false_eq_true,
    Bool.true_eq_false, if_false]
  cases hr : regRow? addr with
  | none => rfl
  | some r =>
    rw [hr] at hwhole
    have hw : discardedWhole r v = false := by simpa using hwhole
    simp only [hw, Bool.false_eq_true, if_false]

/-! Ownership after pages change hands (R97, R102, R103). -/

theorem State.owner_setOwner (s : State) (p q : Nat) (o : Owner) :
    (s.setOwner p o).owner q = if q = p then o else s.owner q := by
  by_cases h : q = p
  · subst h
    rw [if_pos rfl]
    exact sget_sset_same _ _ _ _
  · rw [if_neg h]
    exact sget_sset_other _ _ _ _ _ _ h

/-- The state with every page of a list in ownership state `o`. -/
def State.setOwners (s : State) (ps : List Nat) (o : Owner) : State := ps.foldl (fun s p => s.setOwner p o) s

section SetOwners
variable (s : State) (ps : List Nat) (o : Owner)

theorem State.owner_setOwners (q : Nat) : (s.setOwners ps o).owner q = if q ∈ ps then o else s.owner q := by
  induction ps generalizing s with
  | nil => simp [State.setOwners]
  | cons p r ih =>
    refine (ih (s.setOwner p o)).trans ?_
    rw [State.owner_setOwner]
    by_cases hr : q ∈ r <;> by_cases hp : q = p <;> simp [hr, hp]

theorem State.regs_setOwners : (s.setOwners ps o).regs = s.regs := by
  induction ps generalizing s with
  | nil => rfl
  | cons p r ih => exact ih (s.setOwner p o)

theorem State.mem_setOwners : (s.setOwners ps o).mem = s.mem := by
  induction ps generalizing s with
  | nil => rfl
  | cons p r ih => exact ih (s.setOwner p o)

end SetOwners

section SetOwnResult
variable (s : State) (d : Dom) (code bad : Nat)

/-- Storing the domains' copies of OWN.RESULT leaves ownership, registers and memory alone. -/
theorem State.withResult_frame (x : List (Nat × Word)) : let t := { s with fab := { s.fab with result := x } }
    (∀ q, t.owner q = s.owner q) ∧ (∀ k, t.rd k = s.rd k) ∧ t.mem = s.mem := ⟨fun _ => rfl, fun _ => rfl, rfl⟩

theorem State.setOwnResult_frame : let t := s.setOwnResult d code bad
    (∀ q, t.owner q = s.owner q) ∧ (∀ k, t.rd k = s.rd k) ∧ t.mem = s.mem := s.withResult_frame _

/-- The writer's OWN.RESULT reads as DONE with the code and the page. -/
theorem State.result_setOwnResult : sget (resetOf Reg.ownResult) (domIdx d) (s.setOwnResult d code bad).fab.result =
    word (2 ^ 31 + code * 2 ^ 28 + bad) := sget_sset_same _ _ _ _

end SetOwnResult

/-! The judgement of a claim or release (R733). -/

/-- The policy lets domain `d` claim and release (OWN.POLICY.CLAIM_DOMAINS). -/
def State.mayClaim (s : State) (d : Dom) : Bool := (s.rd Reg.ownPolicy).getLsbD (4 + domIdx d)

/-- Page `p` is reserved for the domain of a port that `d` is not (R733). -/
abbrev reservedFrom (d : Dom) (p : Nat) : Prop := (p = Pg.pcie 0 ∧ d ≠ .pcie0) ∨ (p = Pg.pcie 1 ∧ d ≠ .pcie1)

/-- Nothing about page `p` itself stands against a claim by domain `d` (R733). -/
abbrev State.claimable (s : State) (d : Dom) (p : Nat) : Prop :=
  s.owner p ≠ .fixed ∧ ¬ reservedFrom d p ∧ (s.owner p = .free ∨ s.owner p = .held d)

theorem State.claimFault_eq (s : State) (d : Dom) (p : Nat) : s.claimFault d p =
    if s.owner p = .fixed then 2 else if reservedFrom d p then 5
    else if s.owner p = .free ∨ s.owner p = .held d then 0 else 1 := by
  unfold State.claimFault
  cases s.owner p <;> rfl

theorem State.claimFault_eq_zero_iff (s : State) (d : Dom) (p : Nat) : s.claimFault d p = 0 ↔ s.claimable d p := by
  rw [State.claimFault_eq]
  split_ifs with hx hr ho
  · exact iff_of_false (by decide) (fun h => h.1 hx)
  · exact iff_of_false (by decide) (fun h => h.2.1 hr)
  · exact iff_of_true rfl ⟨hx, hr, ho⟩
  · exact iff_of_false (by decide) (fun h => ho h.2.2)

theorem State.releaseFault_eq_zero_iff (s : State) (d : Dom) (p : Nat) : s.releaseFault d p = 0 ↔ s.owner p = .held d := by
  unfold State.releaseFault
  split <;> simp [*]

section Judge
variable {s : State} {d : Dom} {v : Word} {fault : Nat → Nat} {b : Nat}

theorem State.ownJudge_policy (hp : s.mayClaim d = false) : s.ownJudge d v fault = (5, 0) := if_pos hp

theorem State.ownJudge_count (hp : s.mayClaim d = true) (hc : wfld v 24 12 = 0) :
    s.ownJudge d v fault = (3, wfld v 11 0) := by
  have hp' : ¬ (s.rd Reg.ownPolicy).getLsbD (4 + domIdx d) = false := by simpa [State.mayClaim] using hp
  rw [State.ownJudge, if_neg hp', if_pos hc]

/-- With the policy and the count in order the pages are judged: first that they exist, then each for itself. -/
theorem State.ownJudge_pages (hp : s.mayClaim d = true) (hc : wfld v 24 12 ≠ 0) : s.ownJudge d v fault =
    match (ownRange v).find? (fun p => !s.pageExists p), (ownRange v).find? (fun p => decide (fault p ≠ 0)) with
    | some p, _ => (3, p)
    | none, some p => (fault p, p)
    | none, none => (0, 0) := by
  have hp' : ¬ (s.rd Reg.ownPolicy).getLsbD (4 + domIdx d) = false := by simpa [State.mayClaim] using hp
  rw [State.ownJudge, if_neg hp', if_neg hc]
  cases (ownRange v).find? (fun p => !s.pageExists p) with
  | some p => rfl
  | none => cases (ownRange v).find? (fun p => decide (fault p ≠ 0)) <;> rfl

theorem State.ownJudge_absent (hp : s.mayClaim d = true) (hc : wfld v 24 12 ≠ 0)
    (ha : (ownRange v).find? (fun p => !s.pageExists p) = some b) : s.ownJudge d v fault = (3, b) := by
  rw [State.ownJudge_pages hp hc, ha]

theorem State.ownJudge_fault (hp : s.mayClaim d = true) (hc : wfld v 24 12 ≠ 0)
    (ha : (ownRange v).find? (fun p => !s.pageExists p) = none)
    (hf : (ownRange v).find? (fun p => decide (fault p ≠ 0)) = some b) : s.ownJudge d v fault = (fault b, b) := by
  rw [State.ownJudge_pages hp hc, ha, hf]

theorem State.ownJudge_good (hp : s.mayClaim d = true) (hc : wfld v 24 12 ≠ 0)
    (h : ∀ p ∈ ownRange v, s.pageExists p = true ∧ fault p = 0) : s.ownJudge d v fault = (0, 0) := by
  have ha : (ownRange v).find? (fun p => !s.pageExists p) = none := List.find?_eq_none.2 (fun p hm => by simp [(h p hm).1])
  have hf : (ownRange v).find? (fun p => decide (fault p ≠ 0)) = none :=
    List.find?_eq_none.2 (fun p hm => by simp [(h p hm).2])
  rw [State.ownJudge_pages hp hc, ha, hf]

/-- Only a range whose pages all exist and have no fault is judged to be in order. -/
theorem State.ownJudge_inOrder (h : (s.ownJudge d v fault).1 = 0) :
    s.mayClaim d = true ∧ wfld v 24 12 ≠ 0 ∧ ∀ p ∈ ownRange v, s.pageExists p = true ∧ fault p = 0 := by
  cases hp : s.mayClaim d with
  | false => simp [State.ownJudge_policy hp] at h
  | true =>
    by_cases hc : wfld v 24 12 = 0
    · simp [State.ownJudge_count hp hc] at h
    · cases ha : (ownRange v).find? (fun p => !s.pageExists p) with
      | some p => simp [State.ownJudge_absent hp hc ha] at h
      | none =>
        cases hf : (ownRange v).find? (fun p => decide (fault p ≠ 0)) with
        | some p =>
          rw [State.ownJudge_fault hp hc ha hf] at h
          exact absurd h (by simpa using List.find?_some hf)
        | none =>
          rw [List.find?_eq_none] at ha hf
          exact ⟨rfl, hc, fun p hm => ⟨by simpa using ha p hm, by simpa using hf p hm⟩⟩

/-- The first page of a claim that something stands against gives the code: FIXED, DOMAIN, else BUSY (R733). -/
theorem State.ownJudge_unclaimable (hp : s.mayClaim d = true) (hc : wfld v 24 12 ≠ 0)
    (ha : (ownRange v).find? (fun p => !s.pageExists p) = none)
    (hf : (ownRange v).find? (fun p => decide (¬ s.claimable d p)) = some b) :
    s.ownJudge d v (s.claimFault d) = (if s.owner b = .fixed then 2 else if reservedFrom d b then 5 else 1, b) := by
  have hpred : (fun p => decide (¬ s.claimable d p)) = (fun p => decide (s.claimFault d p ≠ 0)) := by
    funext p
    exact decide_eq_decide.2 (not_congr (s.claimFault_eq_zero_iff d p).symm)
  have hbad : ¬ s.claimable d b := by simpa only [decide_eq_true_eq] using List.find?_some hf
  rw [State.ownJudge_fault hp hc ha (hpred ▸ hf), State.claimFault_eq]
  split_ifs with hx hr ho
  · rfl
  · rfl
  · exact absurd ⟨hx, hr, ho⟩ hbad
  · rfl

end Judge

/-! Claims and releases that are taken (R102, R103, R110). -/

section Override
variable (s : State) (d e : Dom) (addr : Nat) (v : Word) (fault : Nat → Nat)

/-- The count of an override has no part in the judgement. -/
theorem State.ownJudge_countOverride : (s.countOverride e addr).ownJudge d v fault = s.ownJudge d v fault := by
  simp only [State.ownJudge, s.rd_countOverride_other e addr _ (show Reg.ownPolicy ≠ Reg.ownStwOverride by decide),
    s.pageExists_countOverride]

theorem State.claimFault_countOverride : (s.countOverride e addr).claimFault d = s.claimFault d := by
  funext p
  simp only [State.claimFault_eq, s.owner_countOverride]

theorem State.releaseFault_countOverride : (s.countOverride e addr).releaseFault d = s.releaseFault d := by
  funext p
  simp only [State.releaseFault, s.owner_countOverride]

end Override

/-- What a claim or release judged as `r` does: in order it gives every page of the range the ownership state `o`, and either way
the writer's OWN.RESULT shows the judgement. -/
def State.ownDecide (s : State) (d : Dom) (v : Word) (o : Owner) (r : Nat × Nat) : State :=
  (if r.1 = 0 then s.setOwners (ownRange v) o else s).setOwnResult d r.1 r.2

section Taken
variable {s : State} {d : Dom} {v : Word}

theorem exec_claim_of_takes (h : s.takes d Reg.ownClaim v = true) : exec (.claim d v) s =
    .next ((s.countOverride d Reg.ownClaim).ownDecide d v (.held d) (s.ownJudge d v (s.claimFault d))) := by
  refine congrArg Host.Outcome.next ((State.hostWrite_of_takes h _).trans ?_)
  rw [State.claimWrite, State.claimFault_countOverride, State.ownJudge_countOverride]
  rfl

theorem exec_release_of_takes (h : s.takes d Reg.ownRelease v = true) : exec (.release d v) s =
    .next ((s.countOverride d Reg.ownRelease).ownDecide d v .free (s.ownJudge d v (s.releaseFault d))) := by
  refine congrArg Host.Outcome.next ((State.hostWrite_of_takes h _).trans ?_)
  rw [State.releaseWrite, State.releaseFault_countOverride, State.ownJudge_countOverride]
  rfl

end Taken

section Outcome
variable {r : Nat × Nat} (s : State) (d : Dom) (addr : Nat) (v : Word) (o : Owner)

/-- Judged to be in order, all pages of the range change hands, and the writer's OWN.RESULT reads DONE with CODE 0. -/
theorem State.ownDecide_granted (hr : r = (0, 0)) : let t := (s.countOverride d addr).ownDecide d v o r
    (∀ p, t.owner p = if p ∈ ownRange v then o else s.owner p) ∧
    sget (resetOf Reg.ownResult) (domIdx d) t.fab.result = 0x80000000 ∧ sameRegsBut [Reg.ownStwOverride] s t ∧ t.mem = s.mem := by
  subst hr
  obtain ⟨howner, hrd, hmem⟩ := ((s.countOverride d addr).setOwners (ownRange v) o).setOwnResult_frame d 0 0
  rw [State.ownDecide, if_pos rfl]
  refine ⟨fun p => ?_, State.result_setOwnResult _ _ _ _, fun k hk => ?_, ?_⟩
  · rw [howner, State.owner_setOwners, State.owner_countOverride]
  · rw [hrd, State.rd, State.regs_setOwners]
    exact s.rd_countOverride_other d addr k (by simpa using hk)
  · rw [hmem, State.mem_setOwners, (s.countOverride_sameButRegs d addr).mem]

/-- Refused, every page stays as it was, and the writer's OWN.RESULT names the code and the page. -/
theorem State.ownDecide_refused {code bad : Nat} (hr : r = (code, bad)) (hc : code ≠ 0) :
    let t := (s.countOverride d addr).ownDecide d v o r
    (∀ p, t.owner p = s.owner p) ∧
    sget (resetOf Reg.ownResult) (domIdx d) t.fab.result = word (2 ^ 31 + code * 2 ^ 28 + bad) ∧
    sameRegsBut [Reg.ownStwOverride] s t ∧ t.mem = s.mem := by
  subst hr
  obtain ⟨howner, hrd, hmem⟩ := (s.countOverride d addr).setOwnResult_frame d code bad
  rw [State.ownDecide, if_neg hc]
  refine ⟨fun p => ?_, State.result_setOwnResult _ _ _ _, fun k hk => ?_, ?_⟩
  · rw [howner, State.owner_countOverride]
  · rw [hrd]
    exact s.rd_countOverride_other d addr k (by simpa using hk)
  · rw [hmem, (s.countOverride_sameButRegs d addr).mem]

end Outcome

/-- Settles O12: the judgement of R733 decides, and what it grants or refuses is the whole range. -/
theorem claimAndReleaseAreAllOrNone : Obligations.ClaimAndReleaseAreAllOrNone := by
  refine ⟨fun d v s h => ⟨fun hp hc hgood => ?_, fun code bad hbad => ?_⟩, fun d v s h => ⟨fun hw => ?_, fun hw => ?_⟩⟩
  · have hj : s.ownJudge d v (s.claimFault d) = (0, 0) := State.ownJudge_good hp hc
      (fun p hm => ⟨(hgood p hm).1, (s.claimFault_eq_zero_iff d p).2 (hgood p hm).2⟩)
    exact ⟨_, exec_claim_of_takes h, s.ownDecide_granted d _ v _ hj⟩
  · suffices hj : s.ownJudge d v (s.claimFault d) = (code, bad) ∧ code ≠ 0 from
      ⟨_, exec_claim_of_takes h, s.ownDecide_refused d _ v _ hj.1 hj.2⟩
    rcases hbad with ⟨hp, rfl, rfl⟩ | ⟨hp, hc, rfl, rfl⟩ | ⟨hp, hc, ha, rfl⟩ | ⟨hp, hc, ha, hf, rfl⟩
    · exact ⟨State.ownJudge_policy hp, by decide⟩
    · exact ⟨State.ownJudge_count hp hc, by decide⟩
    · exact ⟨State.ownJudge_absent hp hc ha, by decide⟩
    · exact ⟨State.ownJudge_unclaimable hp hc ha hf, by split_ifs <;> decide⟩
  · obtain ⟨hp, hc, hheld⟩ := hw
    have hj : s.ownJudge d v (s.releaseFault d) = (0, 0) := State.ownJudge_good hp hc
      (fun p hm => ⟨(hheld p hm).1, (s.releaseFault_eq_zero_iff d p).2 (hheld p hm).2⟩)
    exact ⟨_, exec_release_of_takes h, s.ownDecide_granted d _ v _ hj⟩
  · have hc : (s.ownJudge d v (s.releaseFault d)).1 ≠ 0 := fun h0 =>
      have ⟨hp, hn, hall⟩ := State.ownJudge_inOrder h0
      hw ⟨hp, hn, fun p hm => ⟨(hall p hm).1, (s.releaseFault_eq_zero_iff d p).1 (hall p hm).2⟩⟩
    obtain ⟨howner, -, hregs, hmem⟩ := s.ownDecide_refused d Reg.ownRelease v .free rfl hc
    exact ⟨_, exec_release_of_takes h, howner, hregs, hmem⟩

end Sys2Proof.Machine
end

section
/-!
SUPPORT. Operations that write registers alone: which they write, and what the others, their bits and their fields then read.
-/
namespace Sys2Proof.Machine

/-! Reads of bits, and of 64-bit values (R21). -/

theorem State.flag_congr {s t : State} {k : Nat} (i : Nat) (h : t.rd k = s.rd k) : t.flag k i = s.flag k i :=
  congrArg (fun w => w.getLsbD i) h

section Value64
variable (s : State)

theorem State.rd_wr64_other (k v j : Nat) (h : j ≠ k) (h4 : j ≠ k + 4) : (s.wr64 k v).rd j = s.rd j := by
  rw [State.wr64, State.rd_wr_other _ _ _ _ h4, State.rd_wr_other _ _ _ _ h]

/-- A 64-bit value reads by its two registers alone. -/
theorem State.rd64_congr {s t : State} {k : Nat} (hlo : t.rd k = s.rd k) (hhi : t.rd (k + 4) = s.rd (k + 4)) :
    t.rd64 k = s.rd64 k := by
  rw [State.rd64, State.nat, State.nat, hlo, hhi, State.rd64, State.nat, State.nat]

theorem State.rd64_wr_other (k j : Nat) (w : Word) (h : j ≠ k) (h4 : j + 4 ≠ k) : (s.wr k w).rd64 j = s.rd64 j :=
  State.rd64_congr (s.rd_wr_other _ _ _ h) (s.rd_wr_other _ _ _ h4)

theorem State.rd64_wr64_other (k v j : Nat) (h : j ≠ k) (h4 : j ≠ k + 4) (h' : j + 4 ≠ k) :
    (s.wr64 k v).rd64 j = s.rd64 j :=
  State.rd64_congr (s.rd_wr64_other _ _ _ h h4) (s.rd_wr64_other _ _ _ h' (by omega))

/-- A 64-bit value just written reads as written, cut to its width. -/
theorem State.rd64_wr64_same (k v : Nat) : (s.wr64 k v).rd64 k = v % 2 ^ 64 := by
  have hlo : (s.wr64 k v).rd k = word v := by
    rw [State.wr64, State.rd_wr_other _ _ _ _ (by omega), State.rd_wr_same]
  rw [State.rd64, State.nat, State.nat, hlo, State.wr64, State.rd_wr_same, BitVec.toNat_ofNat, BitVec.toNat_ofNat]
  omega

end Value64

/-- `t` differs from `s` in registers of `P` alone. -/
def wroteOnly (P : Nat → Prop) (s t : State) : Prop := (∀ k, ¬ P k → t.rd k = s.rd k) ∧ sameButRegs s t

section WroteOnly
variable {P Q : Nat → Prop} {s t u : State}

theorem wroteOnly.refl : wroteOnly P s s := ⟨fun _ _ => rfl, sameButRegs.refl s⟩

theorem wroteOnly.trans (h : wroteOnly P s t) (k : wroteOnly P t u) : wroteOnly P s u :=
  ⟨fun a ha => (k.1 a ha).trans (h.1 a ha), h.2.trans k.2⟩

theorem wroteOnly.mono (h : wroteOnly P s t) (hPQ : ∀ k, P k → Q k) : wroteOnly Q s t :=
  ⟨fun a ha => h.1 a (fun hp => ha (hPQ a hp)), h.2⟩

theorem wroteOnly.rd (h : wroteOnly P s t) {k : Nat} (hk : ¬ P k) : t.rd k = s.rd k := h.1 k hk

theorem wroteOnly.flag (h : wroteOnly P s t) {k : Nat} (hk : ¬ P k) (i : Nat) : t.flag k i = s.flag k i :=
  State.flag_congr i (h.rd hk)

theorem sameButRegs.time (h : sameButRegs s t) : t.time = s.time := by rw [h]
theorem sameButRegs.out (h : sameButRegs s t) : t.out = s.out := by rw [h]

theorem sameButRegs.baseTick (h : sameButRegs s t) (i : Nat) : t.baseTick i = s.baseTick i := by
  rw [State.baseTick, h.time, State.baseTick]

theorem State.wr_wroteOnly (s : State) {k : Nat} (w : Word) (hk : P k) : wroteOnly P s (s.wr k w) :=
  ⟨fun _ ha => s.rd_wr_other _ _ _ (fun e => ha (e ▸ hk)), s.wr_sameButRegs _ _⟩

theorem State.wr64_wroteOnly (s : State) {k : Nat} (v : Nat) (hk : P k) (hk4 : P (k + 4)) : wroteOnly P s (s.wr64 k v) :=
  (s.wr_wroteOnly _ hk).trans (State.wr_wroteOnly _ _ hk4)

theorem State.countOverride_wroteOnly (s : State) (d : Dom) (addr : Nat) (hk : P Reg.ownStwOverride) :
    wroteOnly P s (s.countOverride d addr) :=
  ⟨fun a ha => s.rd_countOverride_other d addr a (fun e => ha (e ▸ hk)), s.countOverride_sameButRegs d addr⟩

theorem wroteOnly.foldl {α : Type} {f : State → α → State} {l : List α} (h : ∀ s, ∀ a ∈ l, wroteOnly P s (f s a))
    (s : State) : wroteOnly P s (l.foldl f s) :=
  List.foldlRecOn l f wroteOnly.refl (fun t ht a ha => ht.trans (h t a ha))

end WroteOnly

/-! Bits and fields of a register beside the one written (R13). -/

/-- A field is its word's bits from `lo` up. -/
theorem wfld_congr {w w' : Word} {hi lo : Nat} (h : ∀ j, lo ≤ j → w.getLsbD j = w'.getLsbD j) : wfld w hi lo = wfld w' hi lo := by
  refine Nat.eq_of_testBit_eq fun j => ?_
  simp only [wfld, nfld, Nat.testBit_mod_two_pow, Nat.testBit_shiftRight]
  exact congrArg _ (h (lo + j) (by omega))

/-- Writing a bit leaves every field above it alone. -/
theorem State.fld_setFlag_above (s : State) (k j hi lo : Nat) (b : Bool) (h : j < lo) :
    (s.setFlag k j b).fld k hi lo = s.fld k hi lo := by
  rw [State.fld, State.setFlag, State.rd_wr_same, State.fld]
  exact wfld_congr (fun n hn => setBit_other _ _ _ _ (by omega))

theorem State.flag_raise (s : State) (p bits i : Nat) :
    (s.raise p bits).flag (Reg.intStat p) i = (s.flag (Reg.intStat p) i || (word bits).getLsbD i) := by
  rw [State.flag, State.rd_raise_same, BitVec.getLsbD_or, State.flag]

theorem State.flag_stick (s : State) (p bits i : Nat) :
    (s.stick p bits).flag (Reg.sticky p) i = (s.flag (Reg.sticky p) i || (word bits).getLsbD i) := by
  rw [State.flag, State.rd_stick_same, BitVec.getLsbD_or, State.flag]

/-! Writes that are taken, with the count of an override before them (R98, R110). -/

theorem completes_mono {c : Instr} {s : State} {P Q : State → Prop} (h : completes c s P) (hPQ : ∀ t, P t → Q t) :
    completes c s Q := h.imp (fun t ht => ⟨ht.1, hPQ t ht.2⟩)

/-- A command whose register write is taken completes with the write's effect. -/
theorem completes_of_takes {c : Instr} {s : State} {d : Dom} {addr : Nat} {v : Word} {eff : State → State} {P : State → Prop}
    (h : s.takes d addr v = true) (hc : exec c s = .next (s.hostWrite d addr v eff)) (hP : P (eff (s.countOverride d addr))) :
    completes c s P := ⟨_, hc.trans (congrArg _ (State.hostWrite_of_takes h eff)), hP⟩
/-- A taken write that has its effect on registers of `P` writes, with the count of an override, registers of `Q` alone. -/
theorem wroteOnly.afterOverride {P Q : Nat → Prop} {s t : State} {d : Dom} {addr : Nat}
    (h : wroteOnly P (s.countOverride d addr) t) (hPQ : ∀ k, P k → Q k) (hk : Q Reg.ownStwOverride) : wroteOnly Q s t :=
  (s.countOverride_wroteOnly d addr hk).trans (h.mono hPQ)

section Taken
variable (s : State) (d : Dom) (addr : Nat)

theorem State.time_countOverride : (s.countOverride d addr).time = s.time := (s.countOverride_sameButRegs d addr).time

theorem State.flag_countOverride {k : Nat} (h : k ≠ Reg.ownStwOverride) (j : Nat) :
    (s.countOverride d addr).flag k j = s.flag k j := State.flag_congr j (s.rd_countOverride_other d addr k h)

theorem State.rd64_countOverride {k : Nat} (h : k ≠ Reg.ownStwOverride) (h4 : k + 4 ≠ Reg.ownStwOverride) :
    (s.countOverride d addr).rd64 k = s.rd64 k :=
  State.rd64_congr (s.rd_countOverride_other d addr _ h) (s.rd_countOverride_other d addr _ h4)

end Taken

end Sys2Proof.Machine
end

section
/-!
SUPPORT. The TIME page: time passing, captures of an event, snapshots and the scheduling of a WTIME step (R168, R169, R176, R186,
R190).
-/
namespace Sys2Proof.Machine

/-! The time bases (R153, R166, R176). -/

section Advance
variable (s : State) (t : Nat)

/-- As time passes the time bases alone change. -/
theorem State.advanceTo_eq : s.advanceTo t = { s with time := (s.advanceTo t).time } := by
  unfold State.advanceTo
  dsimp only
  split <;> rfl

theorem State.rd_advanceTo (k : Nat) : (s.advanceTo t).rd k = s.rd k := by
  rw [State.advanceTo_eq, State.rd, State.rd]

theorem State.mem_advanceTo : (s.advanceTo t).mem = s.mem := by rw [State.advanceTo_eq]

theorem State.out_advanceTo : (s.advanceTo t).out = s.out := by rw [State.advanceTo_eq]

/-- While the bases run, MTIME goes on to the tick, or stays where it has passed it. -/
theorem State.mtime_advanceTo (h : s.time.running = true) : (s.advanceTo t).time.mtime = Nat.max s.time.mtime t := by
  have hx : Nat.max s.time.mtime t = max s.time.mtime t := rfl
  unfold State.advanceTo
  dsimp only
  split
  · next hc =>
    have : t ≤ s.time.mtime := hc.resolve_left (by simp [h])
    omega
  · next hc =>
    have : ¬ t ≤ s.time.mtime := fun hle => hc (.inr hle)
    show t = _
    omega

end Advance

theorem State.le_edgeAt (s : State) (t : Nat) : t ≤ s.edgeAt t := Nat.le_add_right _ _

/-! Capture units (R186 to R188). -/

/-- A register that an event writes: what a capture unit holds, its count of losses, and the page's causes and flags. -/
def captureReg (k : Nat) : Prop :=
  k = Reg.intStat Pg.time ∨ k = Reg.sticky Pg.time ∨ ∃ j < 24, 0x6058 + j * 0x40 ≤ k ∧ k ≤ 0x6064 + j * 0x40

theorem captureReg_page {k : Nat} (h : captureReg k) : k / 0x1000 = Pg.time := by
  rcases h with rfl | rfl | ⟨j, hj, hlo, hhi⟩
  · rfl
  · rfl
  · show k / 0x1000 = 6
    omega

section Capture
variable (s : State) (src at' w x : Nat) (rising : Bool)

/-- A capture unit passes the event over, counts it as lost, or stores its time and raises its cause. -/
theorem State.captureUnit_cases {i : Nat} {t : State} (h : s.captureUnit src at' w x rising i = t) :
    t = s ∨ t = (s.incSat (Reg.timeCapLost i)).stick Pg.time 0x20000 ∨
    ∃ v b, t = ((s.wr (Reg.timeCapStat i) v).wr64 (Reg.timeCapLo i) b).raise Pg.time 0x8 := by
  unfold State.captureUnit at h
  extract_lets c edge fits at h
  split at h
  · split at h
    · exact .inr (.inl h.symm)
    · exact .inr (.inr ⟨_, _, h.symm⟩)
  · exact .inl h.symm

theorem State.captureUnit_wroteOnly {i : Nat} (hi : i < 24) :
    wroteOnly captureReg s (s.captureUnit src at' w x rising i) := by
  have unit : ∀ o ≤ 12, captureReg (0x6058 + o + i * 0x40) := fun o ho => .inr (.inr ⟨i, hi, by omega, by omega⟩)
  have hi4 : captureReg (Reg.timeCapLo i + 4) := .inr (.inr ⟨i, hi, by simp only [Reg.timeCapLo]; omega⟩)
  rcases s.captureUnit_cases src at' w x rising rfl with h | h | ⟨v, b, h⟩ <;> rw [h]
  · exact wroteOnly.refl
  · exact (s.wr_wroteOnly _ (unit 12 (by omega))).trans (State.wr_wroteOnly _ _ (.inr (.inl rfl)))
  · exact ((s.wr_wroteOnly _ (unit 0 (by omega))).trans
      (State.wr64_wroteOnly _ _ (unit 4 (by omega)) hi4)).trans (State.wr_wroteOnly _ _ (.inl rfl))

/-- An event that every capture unit sees writes their registers alone. -/
theorem State.captureAt_wroteOnly : wroteOnly captureReg s (s.captureAt src at' w x rising) :=
  wroteOnly.foldl (fun t _ hi => t.captureUnit_wroteOnly src at' w x rising (List.mem_range.1 hi)) s

theorem State.capture_wroteOnly : wroteOnly captureReg s (s.capture src) := s.captureAt_wroteOnly _ _ _ _ _

/-- A cause of the TIME page that is up stays up. -/
theorem State.captureUnit_cause {i : Nat} (hi : i < 24) {b : Nat} (h : s.flag (Reg.intStat Pg.time) b = true) :
    (s.captureUnit src at' w x rising i).flag (Reg.intStat Pg.time) b = true := by
  have ne : ∀ o, Reg.intStat Pg.time ≠ 0x6058 + o + i * 0x40 := fun o => by simp only [Reg.intStat, Pg.time]; omega
  have hi4 : Reg.intStat Pg.time ≠ Reg.timeCapLo i + 4 := by simp only [Reg.intStat, Pg.time, Reg.timeCapLo]; omega
  rcases s.captureUnit_cases src at' w x rising rfl with e | e | ⟨v, n, e⟩ <;> rw [e]
  · exact h
  · exact (State.flag_congr b ((State.rd_stick_other _ _ _ _ (by decide)).trans (s.rd_wr_other _ _ _ (ne 12)))).trans h
  · have stored := (State.rd_wr64_other _ _ n _ (ne 4) hi4).trans (s.rd_wr_other _ _ v (ne 0))
    rw [State.flag_raise, State.flag_congr b stored, h, Bool.true_or]

theorem State.captureAt_cause {b : Nat} (h : s.flag (Reg.intStat Pg.time) b = true) :
    (s.captureAt src at' w x rising).flag (Reg.intStat Pg.time) b = true :=
  List.foldlRecOn (motive := fun t : State => t.flag (Reg.intStat Pg.time) b = true) (List.range 24) _ h
    (fun t ht _ hi => t.captureUnit_cause src at' w x rising (List.mem_range.1 hi) ht)

end Capture

/-! A snapshot (R190). -/

/-- A register of the snapshot block of domain `d`. -/
def snapReg (d k : Nat) : Prop := 0x6900 + 0x20 * d ≤ k ∧ k < 0x6920 + 0x20 * d

theorem State.snapshot_wroteOnly (s : State) (d : Nat) : wroteOnly (snapReg d) s (s.snapshot d) := by
  simp only [State.snapshot, State.inc, State.incBy, Reg.timeSnapMLo, Reg.timeSnapWLo, Reg.timeSnapXLo, Reg.timeSnapBin,
    Reg.timeSnapSeq]
  refine ((((State.wr64_wroteOnly _ _ ?_ ?_).trans (State.wr64_wroteOnly _ _ ?_ ?_)).trans
    (State.wr64_wroteOnly _ _ ?_ ?_)).trans (State.wr_wroteOnly _ _ ?_)).trans (State.wr_wroteOnly _ _ ?_) <;>
  · unfold snapReg
    omega

/-- The snapshot block of domain `d` holds the bases of `s` with their bins, and its SEQ has gone up by one. -/
def snapHolds (d : Nat) (s t : State) : Prop :=
  t.rd64 (Reg.timeSnapMLo d) = s.time.mtime % 2 ^ 64 ∧ t.rd64 (Reg.timeSnapWLo d) = s.time.wacc / 2 ^ 32 % 2 ^ 64 ∧
  t.rd64 (Reg.timeSnapXLo d) = s.time.xacc / 2 ^ 32 % 2 ^ 64 ∧
  t.nat (Reg.timeSnapBin d) = s.time.wacc / 2 ^ 24 % 256 * 256 + s.time.xacc / 2 ^ 24 % 256 ∧
  t.rd (Reg.timeSnapSeq d) = s.rd (Reg.timeSnapSeq d) + 1

theorem State.snapshot_holds (s : State) (d : Nat) : snapHolds d s (s.snapshot d) := by
  simp (disch := omega) only [snapHolds, State.snapshot, State.inc, State.incBy, State.nat, State.baseTick, State.baseBin,
    State.time_wr64, Reg.timeSnapMLo, Reg.timeSnapWLo, Reg.timeSnapXLo, Reg.timeSnapBin, Reg.timeSnapSeq,
    State.rd64_wr64_same, State.rd64_wr64_other, State.rd64_wr_other, State.rd_wr_same, State.rd_wr_other,
    State.rd_wr64_other, BitVec.toNat_ofNat]
  exact ⟨trivial, rfl, rfl, Nat.mod_eq_of_lt (show s.time.wacc / 2 ^ 24 % 256 * 256 + s.time.xacc / 2 ^ 24 % 256 < 2 ^ 32 by omega), rfl⟩

/-! A step of WTIME is scheduled or refused (R168, R169). -/

/-- A step is refused once one has been used, or where WLOAD_AT is too close. -/
def State.stepRefused (s : State) : Prop := s.flag Reg.timeStatus 1 = true ∨ s.rd64 Reg.timeWloadAtLo < s.time.mtime + 64

theorem State.stepRefused_countOverride (s : State) (d : Dom) (addr : Nat) :
    (s.countOverride d addr).stepRefused ↔ s.stepRefused := by
  rw [State.stepRefused, s.flag_countOverride d addr (by decide), s.rd64_countOverride d addr (by decide) (by decide),
    s.time_countOverride, State.stepRefused]

theorem State.wctlWrite_refused {s : State} {v : Word} (hv : v.getLsbD 0 = true) (h : s.stepRefused) :
    s.wctlWrite v = s.refuse Pg.time := by
  rw [State.wctlWrite, if_neg (by simp [hv])]
  exact if_pos h

theorem State.wctlWrite_scheduled {s : State} {v : Word} (hv : v.getLsbD 0 = true) (h : ¬ s.stepRefused) :
    s.wctlWrite v = (s.setFlag Reg.timeWctl 0 true).setFlag Reg.timeStatus 2 true := by
  rw [State.wctlWrite, if_neg (by simp [hv])]
  exact if_neg h

end Sys2Proof.Machine
end

section
/-!
SUPPORT. The compare units: arming, the WTIME load that may find them late, firing and the actions of a firing (R168, R178 to R185).
-/
namespace Sys2Proof.Machine

/-! The registers of the compare units (R178 to R184). -/

/-- A register that arming, disarming or marking compare `i` LATE writes. -/
def cmpReg (i k : Nat) : Prop := k = Reg.timeCmpCtl i ∨ k = Reg.timeCmpStat i ∨ k = Reg.sticky Pg.time

theorem timeCmpStat_ne_ctl (i j : Nat) : Reg.timeCmpStat i ≠ Reg.timeCmpCtl j := by
  simp only [Reg.timeCmpStat, Reg.timeCmpCtl]
  omega

theorem timeCmpCtl_ne_sticky (i : Nat) : Reg.timeCmpCtl i ≠ Reg.sticky Pg.time := by
  simp only [Reg.timeCmpCtl, Reg.sticky, Pg.time]
  omega

theorem State.setArmed_wroteOnly (s : State) (i : Nat) (b : Bool) :
    wroteOnly (fun k => k = Reg.timeCmpCtl i ∨ k = Reg.timeCmpStat i) s (s.setArmed i b) :=
  (s.wr_wroteOnly _ (.inl rfl)).trans (State.wr_wroteOnly _ _ (.inr rfl))

/-- EN and its copy ARMED read as armed or disarmed. -/
theorem State.setArmed_flags (s : State) (i : Nat) (b : Bool) :
    (s.setArmed i b).flag (Reg.timeCmpCtl i) 0 = b ∧ (s.setArmed i b).flag (Reg.timeCmpStat i) 0 = b := by
  refine ⟨?_, State.flag_setFlag_same _ _ _ _ (by decide)⟩
  rw [State.setArmed, State.flag_congr 0 (State.rd_setFlag_other _ _ _ _ _ (timeCmpStat_ne_ctl i i).symm),
    State.flag_setFlag_same _ _ _ _ (by decide)]

/-- Compare `i` is marked LATE, whatever NOLATE says. -/
def State.cmpMarked (s : State) (i : Nat) : State := (s.setFlag (Reg.timeCmpStat i) 1 true).stick Pg.time 0x10000

theorem State.rd_cmpMarked_ctl (s : State) (i : Nat) :
    (s.cmpMarked i).rd (Reg.timeCmpCtl i) = s.rd (Reg.timeCmpCtl i) :=
  (State.rd_stick_other _ _ _ _ (timeCmpCtl_ne_sticky i)).trans
    (State.rd_setFlag_other _ _ _ _ _ (timeCmpStat_ne_ctl i i).symm)

/-- A compare armed late is marked LATE, and with NOLATE it is disarmed (R182). -/
theorem State.cmpLate_eq (s : State) (i : Nat) : s.cmpLate i =
    if s.flag (Reg.timeCmpCtl i) 8 then (s.cmpMarked i).setArmed i false else s.cmpMarked i := by
  rw [← State.flag_congr 8 (s.rd_cmpMarked_ctl i)]
  rfl

theorem State.cmpMarked_wroteOnly (s : State) (i : Nat) : wroteOnly (cmpReg i) s (s.cmpMarked i) :=
  (s.wr_wroteOnly _ (.inr (.inl rfl))).trans (State.wr_wroteOnly _ _ (.inr (.inr rfl)))

theorem State.cmpLate_wroteOnly (s : State) (i : Nat) : wroteOnly (cmpReg i) s (s.cmpLate i) := by
  rw [State.cmpLate_eq]
  split
  · exact (s.cmpMarked_wroteOnly i).trans ((State.setArmed_wroteOnly _ _ _).mono (fun k hk => hk.imp id .inl))
  · exact s.cmpMarked_wroteOnly i

/-- A base that moves forward marks armed compares LATE and writes nothing else. -/
theorem State.baseMoved_wroteOnly (s : State) (is : List Nat) :
    wroteOnly (fun k => ∃ i ∈ is, cmpReg i k) s (s.baseMoved is) := by
  refine wroteOnly.foldl (fun t i hi => ?_) s
  split
  · exact (t.cmpLate_wroteOnly i).mono (fun k hk => ⟨i, hi, hk⟩)
  · exact wroteOnly.refl

/-! Arming a compare (R182). -/

/-- The access codes of CMP_CTL: all its fields are RW, and ACTION codes above 6 are reserved (R179). -/
def cmpCtlRow : RegRow := { off := 0x4C, n1 := 24, s1 := 0x40, rw := 0xFFFF01F1, enc := [⟨7, 4, [(0, 6)]⟩] }

theorem regRow?_timeCmpCtl : ∀ i : Fin 24, regRow? (Reg.timeCmpCtl i) = some cmpCtlRow := by decide +kernel

/-- A reserved ACTION gives way to the old one and leaves EN and NOLATE as written. -/
theorem keepReserved_action (old v : Word) : let w := keepReserved [⟨7, 4, [(0, 6)]⟩] old v
    w.getLsbD 0 = v.getLsbD 0 ∧ w.getLsbD 8 = v.getLsbD 8 := by
  simp only [keepReserved, List.foldl]
  split
  · exact ⟨rfl, rfl⟩
  · have e := setFld_toNat v 7 4 (wfld old 7 4) (by decide) (by decide)
    simp only [BitVec.getLsbD, Nat.testBit_eq_decide_div_mod_eq]
    exact ⟨decide_eq_decide.2 (by omega), decide_eq_decide.2 (by omega)⟩

section PlainWrite
variable {s : State} {a : Nat} {r : RegRow} (v : Word)

/-- The word that a plain write of `v` leaves in the register at `a`, of row `r` (R18, R20). -/
def State.plainWord (s : State) (r : RegRow) (a : Nat) (v : Word) : Word :=
  let wm := word r.rw ||| word r.rws ||| (if s.locked (ownPage (a / 0x1000)) then 0 else word r.rwl)
  ((s.rd a &&& ~~~wm) ||| (keepReserved r.enc (s.rd a) v &&& wm)) &&& ~~~(v &&& word r.w1c) ||| (v &&& word r.w1s)

theorem State.plainWrite_eq (h : regRow? a = some r) : s.plainWrite a v =
    if r.enc.all (fun e => encOk e v) then s.wr a (s.plainWord r a v)
    else (s.wr a (s.plainWord r a v)).refuse (ownPage (a / 0x1000)) := by
  simp only [State.plainWrite, h, State.plainWord]

/-- A bit that is RW takes what is written, unless its field keeps an old value for a reserved one. -/
theorem State.plainWord_rw (hc : r.w1c = 0) (hs : r.w1s = 0) {j : Nat} (hj : (word r.rw).getLsbD j = true) :
    (s.plainWord r a v).getLsbD j = (keepReserved r.enc (s.rd a) v).getLsbD j := by
  simp only [State.plainWord, hc, hs, BitVec.and_zero, BitVec.or_zero, BitVec.not_zero, BitVec.and_allOnes,
    BitVec.getLsbD_or, BitVec.getLsbD_and, BitVec.getLsbD_not, hj, Bool.true_or, Bool.not_true, Bool.and_false, Bool.false_or,
    Bool.and_true]

end PlainWrite

/-- A write of CMP_CTL sets EN and NOLATE as written; all it may touch besides is STICKY.REFUSED. -/
theorem State.plainWrite_timeCmpCtl (s : State) (i : Fin 24) (v : Word) : let t := s.plainWrite (Reg.timeCmpCtl i) v
    t.flag (Reg.timeCmpCtl i) 0 = v.getLsbD 0 ∧ t.flag (Reg.timeCmpCtl i) 8 = v.getLsbD 8 ∧
    wroteOnly (fun k => k = Reg.timeCmpCtl i ∨ k = Reg.sticky Pg.time) s t := by
  obtain ⟨h0, h8⟩ := keepReserved_action (s.rd (Reg.timeCmpCtl i)) v
  have hrow := regRow?_timeCmpCtl i
  have hpage : ownPage (Reg.timeCmpCtl i / 0x1000) = Pg.time := by
    have : Reg.timeCmpCtl i / 0x1000 = 6 := by simp only [Reg.timeCmpCtl]; omega
    rw [this]
    rfl
  have w0 : (s.plainWord cmpCtlRow (Reg.timeCmpCtl i) v).getLsbD 0 = v.getLsbD 0 :=
    (State.plainWord_rw v rfl rfl (by decide)).trans h0
  have w8 : (s.plainWord cmpCtlRow (Reg.timeCmpCtl i) v).getLsbD 8 = v.getLsbD 8 :=
    (State.plainWord_rw v rfl rfl (by decide)).trans h8
  rw [State.plainWrite_eq v hrow, hpage]
  split
  · simp only [State.flag, State.rd_wr_same]
    exact ⟨w0, w8, s.wr_wroteOnly _ (.inl rfl)⟩
  · simp only [State.flag, State.refuse, State.rd_stick_other _ _ _ _ (timeCmpCtl_ne_sticky i), State.rd_wr_same]
    exact ⟨w0, w8, (s.wr_wroteOnly _ (.inl rfl)).trans (State.wr_wroteOnly _ _ (.inr rfl))⟩

/-- A write of CMP_CTL with EN, before the target is looked at: ARMED copies EN. -/
def State.cmpEnabled (s : State) (i : Nat) (v : Word) : State :=
  (s.plainWrite (Reg.timeCmpCtl i) v).setFlag (Reg.timeCmpStat i) 0 true

section Enabled
variable (s : State) (i : Fin 24) (v : Word)

theorem State.cmpEnabled_wroteOnly : wroteOnly (cmpReg i) s (s.cmpEnabled i v) := by
  obtain ⟨-, -, h⟩ := s.plainWrite_timeCmpCtl i v
  exact (h.mono (fun k hk => hk.imp id .inr)).trans (State.wr_wroteOnly _ _ (.inr (.inl rfl)))

theorem State.cmpEnabled_flags : let t := s.cmpEnabled i v
    t.flag (Reg.timeCmpCtl i) 0 = v.getLsbD 0 ∧ t.flag (Reg.timeCmpCtl i) 8 = v.getLsbD 8 ∧
    t.flag (Reg.timeCmpStat i) 0 = true ∧ t.flag (Reg.timeCmpStat i) 1 = s.flag (Reg.timeCmpStat i) 1 := by
  obtain ⟨h0, h8, h⟩ := s.plainWrite_timeCmpCtl i v
  have ctl : ∀ j, (s.cmpEnabled i v).flag (Reg.timeCmpCtl i) j =
      (s.plainWrite (Reg.timeCmpCtl i) v).flag (Reg.timeCmpCtl i) j :=
    fun j => State.flag_congr j (State.rd_setFlag_other _ _ _ _ _ (timeCmpStat_ne_ctl i i).symm)
  have hstat : ¬ (Reg.timeCmpStat i = Reg.timeCmpCtl i ∨ Reg.timeCmpStat i = Reg.sticky Pg.time) := by
    simp only [Reg.timeCmpStat, Reg.timeCmpCtl, Reg.sticky, Pg.time]
    omega
  exact ⟨(ctl 0).trans h0, (ctl 8).trans h8, State.flag_setFlag_same _ _ _ _ (by decide),
    (State.flag_setFlag_bit _ _ _ _ _ (by decide)).trans (h.flag hstat 1)⟩

/-- Neither the target nor the base is written with CMP_CTL. -/
theorem State.cmpEnabled_target : (s.cmpEnabled i v).cmpTarget i = s.cmpTarget i := by
  have hlo : ¬ cmpReg i (Reg.timeCmpLo i) := by
    simp only [cmpReg, Reg.timeCmpLo, Reg.timeCmpStat, Reg.timeCmpCtl, Reg.sticky, Pg.time]
    omega
  have hhi : ¬ cmpReg i (Reg.timeCmpLo i + 4) := by
    simp only [cmpReg, Reg.timeCmpLo, Reg.timeCmpStat, Reg.timeCmpCtl, Reg.sticky, Pg.time]
    omega
  exact State.rd64_congr ((s.cmpEnabled_wroteOnly i v).rd hlo) ((s.cmpEnabled_wroteOnly i v).rd hhi)

/-- With EN, a write of CMP_CTL arms the compare, late where its target is not in the future (R182). -/
theorem State.cmpCtlWrite_eq (hv : v.getLsbD 0 = true) : s.cmpCtlWrite i v =
    if s.cmpTarget i ≤ s.baseTick i then (s.cmpEnabled i v).cmpLate i else s.cmpEnabled i v := by
  rw [← s.cmpEnabled_target i v, ← (s.cmpEnabled_wroteOnly i v).2.baseTick]
  simp only [State.cmpCtlWrite, State.cmpEnabled, hv, Bool.true_and, decide_eq_true_eq]
  exact if_congr Iff.rfl rfl rfl

end Enabled

/-- A compare that is marked LATE stays armed exactly when NOLATE is 0. -/
theorem State.cmpLate_flags (s : State) (i : Nat) (hctl : s.flag (Reg.timeCmpCtl i) 0 = true)
    (hstat : s.flag (Reg.timeCmpStat i) 0 = true) : let t := s.cmpLate i
    t.flag (Reg.timeCmpStat i) 1 = true ∧ t.flag (Reg.timeCmpCtl i) 0 = !s.flag (Reg.timeCmpCtl i) 8 ∧
    t.flag (Reg.timeCmpStat i) 0 = !s.flag (Reg.timeCmpCtl i) 8 := by
  have ctl : (s.cmpMarked i).flag (Reg.timeCmpCtl i) 0 = true := (State.flag_congr 0 (s.rd_cmpMarked_ctl i)).trans hctl
  have stat : ∀ j, (s.cmpMarked i).flag (Reg.timeCmpStat i) j =
      (s.setFlag (Reg.timeCmpStat i) 1 true).flag (Reg.timeCmpStat i) j :=
    fun j => State.flag_congr j (State.rd_stick_other _ _ _ _ (by simp only [Reg.timeCmpStat, Reg.sticky, Pg.time]; omega))
  have late : (s.cmpMarked i).flag (Reg.timeCmpStat i) 1 = true := (stat 1).trans (State.flag_setFlag_same _ _ _ _ (by decide))
  rw [State.cmpLate_eq]
  split
  · next h =>
    obtain ⟨e, a⟩ := (s.cmpMarked i).setArmed_flags i false
    refine ⟨?_, by rw [e, h]; rfl, by rw [a, h]; rfl⟩
    rw [State.setArmed, State.flag_setFlag_bit _ _ _ _ _ (by decide),
      State.flag_congr 1 (State.rd_setFlag_other _ _ _ _ _ (timeCmpStat_ne_ctl i i))]
    exact late
  · next h =>
    rw [Bool.not_eq_true] at h
    rw [h]
    exact ⟨late, ctl, (stat 0).trans ((State.flag_setFlag_bit _ _ _ _ _ (by decide)).trans hstat)⟩

/-! The WTIME load (R168). -/

/-- WTIME is loaded with `w` at MTIME tick `t`. -/
def State.wtimeSet (s : State) (t w : Nat) : State := (s.advanceTo t).updTime (fun m => { m with wacc := w * 2 ^ 32 })

section WtimeSet
variable (s : State) (t w : Nat)

theorem State.wtimeSet_wacc : (s.wtimeSet t w).time.wacc = w * 2 ^ 32 := rfl

theorem State.wtimeSet_mtime (h : s.time.running = true) : (s.wtimeSet t w).time.mtime = Nat.max s.time.mtime t :=
  s.mtime_advanceTo t h

theorem State.wtimeSet_rd (k : Nat) : (s.wtimeSet t w).rd k = s.rd k := s.rd_advanceTo t k

theorem State.wtimeSet_mem : (s.wtimeSet t w).mem = s.mem := s.mem_advanceTo t

end WtimeSet

/-- STATUS, WCTL and the page's causes tell of a load. -/
def State.reportLoad (s : State) : State :=
  (((s.setFlag Reg.timeStatus 2 false).setFlag Reg.timeStatus 1 true).setFlag Reg.timeWctl 0 false).raise Pg.time 0x10

/-- A register that a base moving forward may write: its compares' CTL and STAT, and STICKY. -/
def lateReg (k : Nat) : Prop := k = Reg.sticky Pg.time ∨ ∃ j < 24, 0x604C + j * 0x40 ≤ k ∧ k ≤ 0x6050 + j * 0x40

/-- The load is due, performed and reported; besides, only compares that WTIME has passed are marked. -/
theorem State.wtimeLoad_wroteOnly (s : State) : wroteOnly lateReg
    (s.wtimeSet (s.rd64 Reg.timeWloadAtLo) (s.rd64 Reg.timeWloadLo)).reportLoad s.wtimeLoad := by
  have hw : (s.advanceTo (s.rd64 Reg.timeWloadAtLo)).rd64 Reg.timeWloadLo = s.rd64 Reg.timeWloadLo :=
    State.rd64_congr (s.rd_advanceTo _ _) (s.rd_advanceTo _ _)
  have moved : ∀ t : State, wroteOnly lateReg t (t.baseMoved ((List.range 8).map (fun i => i + 8))) := by
    refine fun t => (t.baseMoved_wroteOnly _).mono ?_
    rintro k ⟨i, hi, hk⟩
    obtain ⟨j, hj, rfl⟩ := List.mem_map.1 hi
    have hlt : j < 8 := List.mem_range.1 hj
    rcases hk with rfl | rfl | rfl
    · exact .inr ⟨j + 8, by omega, le_refl _, Nat.add_le_add_right (by decide) _⟩
    · exact .inr ⟨j + 8, by omega, Nat.add_le_add_right (by decide) _, le_refl _⟩
    · exact .inl rfl
  rw [State.wtimeLoad, hw]
  split
  · exact moved _
  · exact wroteOnly.refl

section ReportLoad
variable (s : State)

theorem State.reportLoad_wroteOnly :
    wroteOnly (· ∈ [Reg.timeStatus, Reg.timeWctl, Reg.intStat Pg.time]) s s.reportLoad :=
  (((s.wr_wroteOnly _ (.head _)).trans (State.wr_wroteOnly _ _ (.head _))).trans
    (State.wr_wroteOnly _ _ (.tail _ (.head _)))).trans (State.wr_wroteOnly _ _ (.tail _ (.tail _ (.head _))))

/-- WSTEP_USED is set, WSTEP_PEND and STEP are cleared, and the cause is raised. -/
theorem State.reportLoad_flags : let t := s.reportLoad
    t.flag Reg.timeStatus 1 = true ∧ t.flag Reg.timeStatus 2 = false ∧ t.flag Reg.timeWctl 0 = false ∧
    t.flag (Reg.intStat Pg.time) 4 = true := by
  have status : ∀ j, s.reportLoad.flag Reg.timeStatus j =
      ((s.setFlag Reg.timeStatus 2 false).setFlag Reg.timeStatus 1 true).flag Reg.timeStatus j :=
    fun j => State.flag_congr j
      ((State.rd_raise_other _ _ _ _ (by decide)).trans (State.rd_setFlag_other _ _ _ _ _ (by decide)))
  refine ⟨(status 1).trans (State.flag_setFlag_same _ _ _ _ (by decide)), (status 2).trans ?_,
    (State.flag_congr 0 (State.rd_raise_other _ _ _ _ (by decide))).trans (State.flag_setFlag_same _ _ _ _ (by decide)), ?_⟩
  · rw [State.flag_setFlag_bit _ _ _ _ _ (by decide), State.flag_setFlag_same _ _ _ _ (by decide)]
  · rw [State.reportLoad, State.flag_raise]
    exact Bool.or_eq_true_iff.2 (.inr (by decide))

end ReportLoad

theorem lateReg_page {k : Nat} (h : lateReg k) : k / 0x1000 = Pg.time := by
  rcases h with rfl | ⟨j, hj, hlo, hhi⟩
  · rfl
  · show k / 0x1000 = 6
    omega

/-! A compare fires (R178 to R181, R185). -/

/-- What holds from the count of a firing of compare `i` on, its action included, until it is armed again or disarmed: its target,
control, period and firing count, MTIME and its base stay, and a cause that is up stays up. -/
structure keepsCompare (i : Nat) (s t : State) : Prop where
  target : t.cmpTarget i = s.cmpTarget i
  ctl : t.rd (Reg.timeCmpCtl i) = s.rd (Reg.timeCmpCtl i)
  period : t.nat (Reg.timeCmpPeriod i) = s.nat (Reg.timeCmpPeriod i)
  fires : t.fld (Reg.timeCmpStat i) 31 16 = s.fld (Reg.timeCmpStat i) 31 16
  cause : ∀ b, s.flag (Reg.intStat Pg.time) b = true → t.flag (Reg.intStat Pg.time) b = true
  mtime : t.time.mtime = s.time.mtime
  base : t.baseTick i = s.baseTick i
  mem : t.mem = s.mem

section KeepsCompare
variable {i : Nat} {s t u : State}

theorem keepsCompare.trans (h : keepsCompare i s t) (k : keepsCompare i t u) : keepsCompare i s u where
  target := k.target.trans h.target
  ctl := k.ctl.trans h.ctl
  period := k.period.trans h.period
  fires := k.fires.trans h.fires
  cause b hb := k.cause b (h.cause b hb)
  mtime := k.mtime.trans h.mtime
  base := k.base.trans h.base
  mem := k.mem.trans h.mem

/-- A change that spares the registers, the time bases and the memory keeps the compare. -/
theorem keepsCompare.of_regs (hr : t.regs = s.regs) (hm : t.time.mtime = s.time.mtime) (hw : t.time.wacc = s.time.wacc)
    (hx : t.time.xacc = s.time.xacc) (hmem : t.mem = s.mem) : keepsCompare i s t := by
  have rd : ∀ k, t.rd k = s.rd k := fun k => by rw [State.rd, hr, State.rd]
  exact {
    target := State.rd64_congr (rd _) (rd _)
    ctl := rd _
    period := congrArg BitVec.toNat (rd _)
    fires := State.fld_congr _ _ (rd _)
    cause := fun b hb => (State.flag_congr b (rd _)).trans hb
    mtime := hm
    base := by rw [State.baseTick, hm, hw, hx, State.baseTick]
    mem := hmem }

theorem keepsCompare.refl : keepsCompare i s s := .of_regs rfl rfl rfl rfl rfl

/-- A register of the target, period, control or status of compare `i`. -/
def cmpOwnReg (i k : Nat) : Prop := 0x6040 + i * 0x40 ≤ k ∧ k ≤ 0x6050 + i * 0x40

/-- Register writes that spare the compare's own registers keep it, if they keep the page's causes. -/
theorem keepsCompare.of_wroteOnly {P : Nat → Prop} (h : wroteOnly P s t) (hP : ∀ k, cmpOwnReg i k → ¬ P k)
    (hc : ∀ b, s.flag (Reg.intStat Pg.time) b = true → t.flag (Reg.intStat Pg.time) b = true) : keepsCompare i s t := by
  have own : ∀ o ≤ 16, t.rd (0x6040 + o + i * 0x40) = s.rd (0x6040 + o + i * 0x40) :=
    fun o ho => h.rd (hP _ ⟨by omega, by omega⟩)
  have hi4 : t.rd (Reg.timeCmpLo i + 4) = s.rd (Reg.timeCmpLo i + 4) :=
    h.rd (hP _ (by simp only [cmpOwnReg, Reg.timeCmpLo]; omega))
  exact {
    target := State.rd64_congr (own 0 (by decide)) hi4
    ctl := own 12 (by decide)
    period := congrArg BitVec.toNat (own 8 (by decide))
    fires := State.fld_congr _ _ (own 16 (by decide))
    cause := hc
    mtime := congrArg TimeSt.mtime h.2.time
    base := h.2.baseTick i
    mem := h.2.mem }

end KeepsCompare

theorem State.captureAt_keepsCompare (s : State) (src at' w x : Nat) (rising : Bool) {i : Nat} (hi : i < 24) :
    keepsCompare i s (s.captureAt src at' w x rising) := by
  refine .of_wroteOnly (s.captureAt_wroteOnly src at' w x rising) ?_ (fun _ hb => s.captureAt_cause src at' w x rising hb)
  rintro k ⟨hlo, hhi⟩ (rfl | rfl | ⟨j, hj, hjlo, hjhi⟩)
  · simp only [Reg.intStat, Pg.time] at hlo
    omega
  · simp only [Reg.sticky, Pg.time] at hlo
    omega
  · omega

/-- A loss on the TIME island's side of a crossing counts in SYS.ISL_LOST0 (R43). -/
theorem State.crossLost_time_wroteOnly (s : State) (other n : Nat) :
    wroteOnly (fun k => k = Reg.sysIslLost 0) s (s.crossLost 0 other n) := by
  unfold State.crossLost
  split
  · exact wroteOnly.refl
  · rw [if_neg (by decide), if_neg (by decide)]
    exact s.wr_wroteOnly _ rfl

theorem State.crossLost_time_keepsCompare (s : State) (other n i : Nat) : keepsCompare i s (s.crossLost 0 other n) := by
  have h := s.crossLost_time_wroteOnly other n
  refine .of_wroteOnly h ?_ (fun b hb => (h.flag (by decide) b).trans hb)
  rintro k ⟨hlo, -⟩ rfl
  simp only [Reg.sysIslLost] at hlo
  omega

/-- An action not done leaves its mark beside the firing count. -/
theorem State.notDone_keepsCompare (s : State) (i : Nat) : keepsCompare i s (s.notDone i) := by
  have rd : ∀ k, k ≠ Reg.timeCmpStat i → (s.notDone i).rd k = s.rd k := fun k hk => State.rd_setFlag_other _ _ _ _ _ hk
  exact {
    target := State.rd64_congr (rd _ (by simp only [Reg.timeCmpLo, Reg.timeCmpStat]; omega))
      (rd _ (by simp only [Reg.timeCmpLo, Reg.timeCmpStat]; omega))
    ctl := rd _ (timeCmpStat_ne_ctl i i).symm
    period := congrArg BitVec.toNat (rd _ (by simp only [Reg.timeCmpPeriod, Reg.timeCmpStat]; omega))
    fires := s.fld_setFlag_above _ _ _ _ _ (by decide)
    cause := fun b hb => (State.flag_congr b (rd _ (by simp only [Reg.timeCmpStat, Reg.intStat, Pg.time]; omega))).trans hb
    mtime := rfl
    base := rfl
    mem := rfl }

/-- A pulse on TIME_OUT, which capture units may see. -/
theorem State.timeOutPulse_keepsCompare (s : State) {i : Nat} (hi : i < 24) (target : Nat) :
    keepsCompare i s (s.timeOutPulse i target) := by
  unfold State.timeOutPulse
  extract_lets start width u stop on b v
  split
  · exact .of_regs rfl rfl rfl rfl rfl
  · have hv : keepsCompare i s v := .of_regs rfl rfl rfl rfl rfl
    split
    · exact hv
    · exact hv.trans (v.captureAt_keepsCompare _ _ _ _ _ hi)

/-- An alert on its way to the Tail ring, or lost at its crossing. -/
theorem State.sendAlert_keepsCompare (s : State) (i tick code : Nat) : keepsCompare i s (s.sendAlert 1 tick code) := by
  unfold State.sendAlert
  split
  · exact s.crossLost_time_keepsCompare 4 1 i
  · exact .of_regs rfl rfl rfl rfl rfl

/-- What ACTION `code` of a firing does (R178, R179). -/
def State.fireAct (s : State) (code arg i target : Nat) : State :=
  match code with
  | 1 => s.timeOutPulse i target
  | 5 => if s.tailOn then s.sendAlert 1 target (arg % 256) else s.notDone i
  | 0 => s
  | a => if s.sealedOff (actIsland a) then s.crossLost 0 (actIsland a) 1 else s.sendAct a arg i target

theorem State.fireAct_zero (s : State) (arg i target : Nat) : s.fireAct 0 arg i target = s := rfl

theorem State.fireAct_keepsCompare (s : State) (code arg target : Nat) {i : Nat} (hi : i < 24) :
    keepsCompare i s (s.fireAct code arg i target) := by
  unfold State.fireAct
  split
  · exact s.timeOutPulse_keepsCompare hi target
  · split
    · exact s.sendAlert_keepsCompare i _ _
    · exact s.notDone_keepsCompare i
  · exact .refl
  · split
    · exact s.crossLost_time_keepsCompare _ _ i
    · exact .of_regs rfl rfl rfl rfl rfl

/-- A firing counted in FIRES and signalled. -/
def State.cmpCounted (s : State) (i : Nat) : State := (s.incF (Reg.timeCmpStat i) 31 16).raise Pg.time (2 ^ (8 + i))

/-- After a firing a one-shot is disarmed and a periodic target moves past the base (R181). -/
def State.cmpRearm (s : State) (i target : Nat) : State :=
  let p := s.nat (Reg.timeCmpPeriod i)
  if p = 0 then s.setArmed i false
  else s.wr64 (Reg.timeCmpLo i) (target + ((s.baseTick i - target) / p + 1) * p)

/-- A firing with its action done, before the compare is armed again or disarmed. -/
def State.cmpFired (s : State) (i : Nat) : State :=
  ((s.cmpCounted i).capture (16 + i)).fireAct (wfld (s.rd (Reg.timeCmpCtl i)) 7 4) (wfld (s.rd (Reg.timeCmpCtl i)) 31 16) i
    (s.cmpTarget i)

theorem State.cmpFire_eq (s : State) (i : Nat) : s.cmpFire i = (s.cmpFired i).cmpRearm i (s.cmpTarget i) := rfl

section Fire
variable (s : State) {i : Nat}

/-- The count of firings goes up by one and the compare's cause is up. -/
theorem State.cmpCounted_fires :
    (s.cmpCounted i).fld (Reg.timeCmpStat i) 31 16 = (s.fld (Reg.timeCmpStat i) 31 16 + 1) % 65536 := by
  have hne : Reg.timeCmpStat i ≠ Reg.intStat Pg.time := by simp only [Reg.timeCmpStat, Reg.intStat, Pg.time]; omega
  exact (State.fld_congr _ _ (State.rd_raise_other _ _ _ _ hne)).trans (State.fld_setF_same _ _ _ _ _ (by decide) (by decide))

theorem State.cmpCounted_cause (hi : i < 24) : (s.cmpCounted i).flag (Reg.intStat Pg.time) (8 + i) = true := by
  rw [State.cmpCounted, State.flag_raise, getLsbD_pow]
  simp only [show 8 + i < 32 by omega, decide_true, Bool.and_self, Bool.or_true]

theorem State.cmpCounted_wroteOnly :
    wroteOnly (fun k => k = Reg.timeCmpStat i ∨ k = Reg.intStat Pg.time) s (s.cmpCounted i) :=
  (s.wr_wroteOnly _ (.inl rfl)).trans (State.wr_wroteOnly _ _ (.inr rfl))

/-- From the count on, the firing keeps the compare. -/
theorem State.cmpFired_keepsCompare (hi : i < 24) : keepsCompare i (s.cmpCounted i) (s.cmpFired i) :=
  (State.captureAt_keepsCompare _ _ _ _ _ _ hi).trans (State.fireAct_keepsCompare _ _ _ _ hi)

/-- With ACTION 0 a firing writes registers of the TIME page alone. -/
theorem State.cmpFired_wroteOnly (hi : i < 24) (ha : wfld (s.rd (Reg.timeCmpCtl i)) 7 4 = 0) :
    wroteOnly (fun k => k / 0x1000 ∈ [Pg.time]) s (s.cmpFired i) := by
  have page : ∀ k, k / 0x1000 = 6 → k / 0x1000 ∈ [Pg.time] := fun k hk => by rw [hk]; exact .head _
  rw [State.cmpFired, ha, State.fireAct_zero]
  refine (s.cmpCounted_wroteOnly.mono ?_).trans (((s.cmpCounted i).capture_wroteOnly (16 + i)).mono ?_)
  · rintro k (rfl | rfl)
    · exact page _ (by simp only [Reg.timeCmpStat]; omega)
    · exact page _ (by decide)
  · exact fun k hk => page k (captureReg_page hk)

end Fire

section Rearm
variable (s : State) (i target : Nat)

/-- Without a period the compare is a one-shot, which its firing disarms. -/
theorem State.cmpRearm_oneShot (h : s.nat (Reg.timeCmpPeriod i) = 0) : s.cmpRearm i target = s.setArmed i false := if_pos h

/-- With a period the target moves past the base by whole periods. -/
theorem State.cmpRearm_periodic (h : s.nat (Reg.timeCmpPeriod i) ≠ 0) : s.cmpRearm i target = s.wr64 (Reg.timeCmpLo i)
    (target + ((s.baseTick i - target) / s.nat (Reg.timeCmpPeriod i) + 1) * s.nat (Reg.timeCmpPeriod i)) := if_neg h

theorem State.cmpRearm_wroteOnly : wroteOnly (cmpOwnReg i) s (s.cmpRearm i target) := by
  by_cases h : s.nat (Reg.timeCmpPeriod i) = 0
  · rw [s.cmpRearm_oneShot i target h]
    refine (s.setArmed_wroteOnly i false).mono ?_
    rintro k (rfl | rfl)
    · simp only [cmpOwnReg, Reg.timeCmpCtl]
      omega
    · simp only [cmpOwnReg, Reg.timeCmpStat]
      omega
  · rw [s.cmpRearm_periodic i target h]
    refine s.wr64_wroteOnly _ ?_ ?_ <;>
    · simp only [cmpOwnReg, Reg.timeCmpLo]
      omega

theorem State.cmpRearm_fires : (s.cmpRearm i target).fld (Reg.timeCmpStat i) 31 16 = s.fld (Reg.timeCmpStat i) 31 16 := by
  by_cases h : s.nat (Reg.timeCmpPeriod i) = 0
  · rw [s.cmpRearm_oneShot i target h]
    exact (State.fld_setFlag_above _ _ _ _ _ _ (by decide)).trans
      (State.fld_congr _ _ (State.rd_setFlag_other _ _ _ _ _ (timeCmpStat_ne_ctl i i)))
  · rw [s.cmpRearm_periodic i target h]
    have hlo : Reg.timeCmpStat i ≠ Reg.timeCmpLo i := by simp only [Reg.timeCmpStat, Reg.timeCmpLo]; omega
    have hhi : Reg.timeCmpStat i ≠ Reg.timeCmpLo i + 4 := by simp only [Reg.timeCmpStat, Reg.timeCmpLo]; omega
    exact State.fld_congr _ _ (s.rd_wr64_other _ _ _ hlo hhi)

end Rearm

section CmpFire
variable (s : State) {i : Nat} (hi : i < 24)
include hi

/-- A firing counts, signals and leaves the time and the memory as they are. -/
theorem State.cmpFire_counts : let t := s.cmpFire i
    t.time.mtime = s.time.mtime ∧ t.fld (Reg.timeCmpStat i) 31 16 = (s.fld (Reg.timeCmpStat i) 31 16 + 1) % 65536 ∧
    t.flag (Reg.intStat Pg.time) (8 + i) = true ∧ t.mem = s.mem := by
  have kept := s.cmpFired_keepsCompare hi
  have rearm := (s.cmpFired i).cmpRearm_wroteOnly i (s.cmpTarget i)
  have hint : ¬ cmpOwnReg i (Reg.intStat Pg.time) := by
    simp only [cmpOwnReg, Reg.intStat, Pg.time]
    omega
  rw [State.cmpFire_eq]
  refine ⟨(congrArg TimeSt.mtime rearm.2.time).trans kept.mtime, ?_, ?_, rearm.2.mem.trans kept.mem⟩
  · rw [State.cmpRearm_fires, kept.fires, State.cmpCounted_fires]
  · rw [rearm.flag hint]
    exact kept.cause _ (s.cmpCounted_cause hi)

theorem State.cmpFired_period : (s.cmpFired i).nat (Reg.timeCmpPeriod i) = s.nat (Reg.timeCmpPeriod i) := by
  have hp : ¬ (Reg.timeCmpPeriod i = Reg.timeCmpStat i ∨ Reg.timeCmpPeriod i = Reg.intStat Pg.time) := by
    simp only [Reg.timeCmpPeriod, Reg.timeCmpStat, Reg.intStat, Pg.time]
    omega
  exact (s.cmpFired_keepsCompare hi).period.trans (congrArg BitVec.toNat (s.cmpCounted_wroteOnly.rd hp))

/-- A one-shot is disarmed by its firing. -/
theorem State.cmpFire_oneShot (hp : s.nat (Reg.timeCmpPeriod i) = 0) :
    (s.cmpFire i).flag (Reg.timeCmpCtl i) 0 = false ∧ (s.cmpFire i).flag (Reg.timeCmpStat i) 0 = false := by
  rw [State.cmpFire_eq, State.cmpRearm_oneShot _ _ _ ((s.cmpFired_period hi).trans hp)]
  exact State.setArmed_flags _ i false

/-- A periodic compare stays armed, and its target moves past the base. -/
theorem State.cmpFire_periodic (hp : s.nat (Reg.timeCmpPeriod i) ≠ 0) :
    (s.cmpFire i).flag (Reg.timeCmpCtl i) 0 = s.flag (Reg.timeCmpCtl i) 0 ∧
    (s.cmpFire i).rd64 (Reg.timeCmpLo i) = (s.cmpTarget i +
      ((s.baseTick i - s.cmpTarget i) / s.nat (Reg.timeCmpPeriod i) + 1) * s.nat (Reg.timeCmpPeriod i)) % 2 ^ 64 := by
  have kept := s.cmpFired_keepsCompare hi
  have hper := s.cmpFired_period hi
  have hctl : ¬ (Reg.timeCmpCtl i = Reg.timeCmpStat i ∨ Reg.timeCmpCtl i = Reg.intStat Pg.time) := by
    simp only [Reg.timeCmpCtl, Reg.timeCmpStat, Reg.intStat, Pg.time]
    omega
  have hlo : Reg.timeCmpCtl i ≠ Reg.timeCmpLo i := by simp only [Reg.timeCmpCtl, Reg.timeCmpLo]; omega
  have hhi : Reg.timeCmpCtl i ≠ Reg.timeCmpLo i + 4 := by simp only [Reg.timeCmpCtl, Reg.timeCmpLo]; omega
  rw [State.cmpFire_eq, State.cmpRearm_periodic _ _ _ (fun h => hp (hper.symm.trans h)), hper, kept.base,
    s.cmpCounted_wroteOnly.2.baseTick, State.rd64_wr64_same]
  refine ⟨State.flag_congr 0 ?_, rfl⟩
  exact (State.rd_wr64_other _ _ _ _ hlo hhi).trans (kept.ctl.trans (s.cmpCounted_wroteOnly.rd hctl))

/-- With ACTION 0 a firing changes the TIME page alone, and nothing leaves the module. -/
theorem State.cmpFire_frame (ha : wfld (s.rd (Reg.timeCmpCtl i)) 7 4 = 0) :
    samePagesBut [Pg.time] s (s.cmpFire i) ∧ (s.cmpFire i).out = s.out := by
  have rearm : wroteOnly (fun k => k / 0x1000 ∈ [Pg.time]) (s.cmpFired i) (s.cmpFire i) := by
    refine ((s.cmpFired i).cmpRearm_wroteOnly i (s.cmpTarget i)).mono ?_
    rintro k ⟨hlo, hhi⟩
    rw [show k / 0x1000 = 6 by omega]
    exact .head _
  have h := (s.cmpFired_wroteOnly hi ha).trans rearm
  exact ⟨h.1, h.2.out⟩

end CmpFire

/-! The edge at which a compare fires first (R178, R185). -/

/-- A compare whose base has reached its target, or will at a known MTIME tick, fires at the next edge from there. -/
theorem State.cmpEdge_of_reached (s : State) {i : Nat} (h : 8 ≤ i → s.cmpTarget i ≤ s.baseTick i) :
    s.cmpEdge i = s.edgeAt (if i < 8 then Nat.max s.time.mtime (s.cmpTarget i) else s.time.mtime) := by
  unfold State.cmpEdge
  by_cases h8 : i < 8
  · simp only [if_pos h8]
    rfl
  · have hle := h (Nat.le_of_not_lt h8)
    simp only [if_neg h8]
    by_cases h16 : i < 16
    · simp only [State.baseTick, if_neg h8, if_pos h16] at hle
      have hneed : s.cmpTarget i * 2 ^ 32 - s.time.wacc = 0 := by omega
      have hn : (if s.winc = 0 then 0 else (0 + s.winc - 1) / s.winc) = 0 := by
        split
        · rfl
        · exact Nat.div_eq_of_lt (by omega)
      simp only [if_pos h16, hneed, hn, if_true]
      rfl
    · simp only [if_neg h16]
      rfl

/-- Before an edge at which neither a WTIME load nor a mode change is due, nothing takes effect. -/
theorem State.beforeCompares_of_nothingDue (s : State) (e : Nat)
    (hload : s.flag Reg.timeStatus 2 = true → e < s.rd64 Reg.timeWloadAtLo)
    (hmode : s.flag Reg.modePend 31 = true → e < s.changeFrame * 65536) : s.beforeCompares e = s := by
  have h1 : s.loadBy e = s := by
    refine if_neg ?_
    rintro ⟨hp, hle⟩
    exact absurd (hload (Bool.and_eq_true_iff.1 hp).1) (by omega)
  rw [State.beforeCompares, h1]
  refine if_neg ?_
  rintro ⟨hdue, hle⟩
  simp only [State.modeDue, State.pending?, Bool.and_eq_true] at hdue
  exact absurd (hmode hdue.1.1) (by omega)

/-- A compare that is armed and due before all else fires at its edge. -/
theorem State.execCompareFire_first (s : State) (i : Fin 24) (harm : s.flag (Reg.timeCmpCtl i) 0 = true)
    (hrun : s.time.running = true) (hbefore : s.beforeCompares (s.cmpEdge i) = s)
    (hlow : ∀ j < i.val, s.flag (Reg.timeCmpCtl j) 0 = true → s.cmpEdge j ≠ s.cmpEdge i)
    (hreach : s.cmpTarget i ≤ (s.advanceTo (s.cmpEdge i)).baseTick i) :
    execCompareFire i s = .next ((s.advanceTo (s.cmpEdge i)).cmpFire i) := by
  have low : (List.range i.val).filter (fun j => s.flag (Reg.timeCmpCtl j) 0 && decide (s.cmpEdge j = s.cmpEdge i)) = [] := by
    refine List.filter_eq_nil_iff.2 (fun j hj hf => ?_)
    simp only [Bool.and_eq_true, decide_eq_true_eq] at hf
    exact hlow j (List.mem_range.1 hj) hf.1 hf.2
  have htarget : (s.advanceTo (s.cmpEdge i)).cmpTarget i = s.cmpTarget i :=
    State.rd64_congr (s.rd_advanceTo _ _) (s.rd_advanceTo _ _)
  simp only [execCompareFire, harm, hrun, Bool.and_self, if_true, hbefore, low, List.foldl_nil, State.cmpAt, htarget, hreach]

end Sys2Proof.Machine
end

section
/-!
SUPPORT. The commands that take snapshots, step WTIME, arm and fire compares and end a TIME_OUT pulse (R168, R169, R178 to R190).
-/
namespace Sys2Proof.Machine

/-! Writes of SNAP, WCTL and CMP_CTL, and the WTIME load. -/

theorem completes_snap {d : Dom} {v : Word} {s : State} (h : s.takes d Reg.timeSnap v = true) (hv : v.getLsbD 0 = true) :
    completes (.snap d v) s (fun t => snapHolds (domIdx d) s t ∧
      wroteOnly (fun a => snapReg (domIdx d) a ∨ a = Reg.ownStwOverride) s t) := by
  refine completes_of_takes h rfl ?_
  have holds := (s.countOverride d Reg.timeSnap).snapshot_holds (domIdx d)
  have hseq : Reg.timeSnapSeq (domIdx d) ≠ Reg.ownStwOverride := by simp only [Reg.timeSnapSeq, Reg.ownStwOverride]; omega
  rw [snapHolds, s.time_countOverride, s.rd_countOverride_other d _ _ hseq] at holds
  rw [State.snapWrite, if_pos hv]
  exact ⟨holds, (State.snapshot_wroteOnly _ _).afterOverride (fun _ => .inl) (.inr rfl)⟩

theorem completes_snap_withoutGo {d : Dom} {v : Word} {s : State} (h : s.takes d Reg.timeSnap v = true)
    (hv : v.getLsbD 0 = false) : completes (.snap d v) s (wroteOnly (· ∈ [Reg.ownStwOverride]) s) := by
  refine completes_of_takes h rfl ?_
  rw [State.snapWrite, if_neg (Bool.not_eq_true _ ▸ hv)]
  exact s.countOverride_wroteOnly d _ (.head _)

theorem completes_wstepSchedule_refused {d : Dom} {v : Word} {s : State} (h : s.takes d Reg.timeWctl v = true)
    (hv : v.getLsbD 0 = true) (hr : s.stepRefused) : completes (.wstepSchedule d v) s (fun t =>
      t.flag (Reg.sticky Pg.time) 0 = true ∧ wroteOnly (· ∈ [Reg.sticky Pg.time, Reg.ownStwOverride]) s t) := by
  refine completes_of_takes h rfl ?_
  rw [State.wctlWrite_refused hv ((s.stepRefused_countOverride d _).2 hr)]
  refine ⟨?_, (s.countOverride_wroteOnly d _ (.tail _ (.head _))).trans (State.wr_wroteOnly _ _ (.head _))⟩
  rw [State.refuse, State.flag_stick]
  exact Bool.or_eq_true_iff.2 (.inr (by decide))

theorem completes_wstepSchedule {d : Dom} {v : Word} {s : State} (h : s.takes d Reg.timeWctl v = true)
    (hv : v.getLsbD 0 = true) (hr : ¬ s.stepRefused) : completes (.wstepSchedule d v) s (fun t =>
      t.flag Reg.timeWctl 0 = true ∧ t.flag Reg.timeStatus 2 = true ∧
      wroteOnly (· ∈ [Reg.timeWctl, Reg.timeStatus, Reg.ownStwOverride]) s t) := by
  refine completes_of_takes h rfl ?_
  rw [State.wctlWrite_scheduled hv (fun hs => hr ((s.stepRefused_countOverride d _).1 hs))]
  refine ⟨?_, State.flag_setFlag_same _ _ _ _ (by decide), ((s.countOverride_wroteOnly d _ ?_).trans
    (State.wr_wroteOnly _ _ (.head _))).trans (State.wr_wroteOnly _ _ (.tail _ (.head _)))⟩
  · exact (State.flag_congr 0 (State.rd_setFlag_other _ _ _ _ _ (by decide))).trans
      (State.flag_setFlag_same _ _ _ _ (by decide))
  · exact .tail _ (.tail _ (.head _))

theorem completes_wtimeLoad {s : State} (hpend : s.flag Reg.timeStatus 2 = true) (hrun : s.time.running = true) :
    completes .wtimeLoad s (fun t =>
      t.time.wacc = s.rd64 Reg.timeWloadLo * 2 ^ 32 ∧ t.time.mtime = Nat.max s.time.mtime (s.rd64 Reg.timeWloadAtLo) ∧
      t.flag Reg.timeStatus 1 = true ∧ t.flag Reg.timeStatus 2 = false ∧ t.flag Reg.timeWctl 0 = false ∧
      t.flag (Reg.intStat Pg.time) 4 = true ∧ samePagesBut [Pg.time] s t ∧ t.mem = s.mem) := by
  have late := s.wtimeLoad_wroteOnly
  have pends : s.wtimePends = true := by rw [State.wtimePends, hpend, hrun, Bool.and_self]
  generalize ht : s.rd64 Reg.timeWloadAtLo = t, hw : s.rd64 Reg.timeWloadLo = w at late ⊢
  have report := (s.wtimeSet t w).reportLoad_wroteOnly
  obtain ⟨used, pend, step, cause⟩ := (s.wtimeSet t w).reportLoad_flags
  have time : s.wtimeLoad.time = (s.wtimeSet t w).time := late.2.time.trans report.2.time
  have onPage : ∀ k ∈ [Reg.timeStatus, Reg.timeWctl, Reg.intStat Pg.time], k / 0x1000 = Pg.time ∧ ¬ lateReg k := by
    intro k hk
    simp only [List.mem_cons, List.not_mem_nil, or_false, Reg.timeStatus, Reg.timeWctl, Reg.intStat, Pg.time] at hk ⊢
    refine ⟨by omega, ?_⟩
    rintro (rfl | ⟨j, hj, hlo, hhi⟩)
    · simp only [Reg.sticky, Pg.time] at hk
      omega
    · omega
  refine ⟨s.wtimeLoad, congrArg Host.Outcome.next (if_pos pends), ?_⟩
  refine ⟨by rw [time, s.wtimeSet_wacc], by rw [time, s.wtimeSet_mtime t w hrun],
    (late.flag (onPage _ (.head _)).2 1).trans used, (late.flag (onPage _ (.head _)).2 2).trans pend,
    (late.flag (onPage _ (.tail _ (.head _))).2 0).trans step,
    (late.flag (onPage _ (.tail _ (.tail _ (.head _)))).2 4).trans cause, fun k hk => ?_, ?_⟩
  · have hpage : k / 0x1000 ≠ Pg.time := fun e => hk (e ▸ .head _)
    rw [late.rd (fun hl => hpage (lateReg_page hl)), report.rd (fun hm => hpage (onPage k hm).1), s.wtimeSet_rd]
  · rw [late.2.mem, report.2.mem, s.wtimeSet_mem]

/-- The registers that arming compare `i` may write. -/
theorem cmpReg.mem_armRegs {i k : Nat} (h : cmpReg i k) :
    k ∈ [Reg.timeCmpCtl i, Reg.timeCmpStat i, Reg.sticky Pg.time, Reg.ownStwOverride] := by
  rcases h with rfl | rfl | rfl
  · exact .head _
  · exact .tail _ (.head _)
  · exact .tail _ (.tail _ (.head _))

theorem State.cmpTarget_countOverride (s : State) (d : Dom) (addr i : Nat) :
    (s.countOverride d addr).cmpTarget i = s.cmpTarget i :=
  s.rd64_countOverride d addr (by simp only [Reg.timeCmpLo, Reg.ownStwOverride]; omega)
    (by simp only [Reg.timeCmpLo, Reg.ownStwOverride]; omega)

section Arm
variable {d : Dom} {i : Fin 24} {v : Word} {s : State} (h : s.takes d (Reg.timeCmpCtl i) v = true) (hv : v.getLsbD 0 = true)
include h hv

theorem completes_compareArm_future (hfut : s.baseTick i < s.cmpTarget i) : completes (.compareArm d i v) s (fun t =>
      t.flag (Reg.timeCmpCtl i) 0 = true ∧ t.flag (Reg.timeCmpStat i) 0 = true ∧
      t.flag (Reg.timeCmpStat i) 1 = s.flag (Reg.timeCmpStat i) 1 ∧
      wroteOnly (· ∈ [Reg.timeCmpCtl i, Reg.timeCmpStat i, Reg.sticky Pg.time, Reg.ownStwOverride]) s t) := by
  refine completes_of_takes h rfl ?_
  rw [State.cmpCtlWrite_eq _ i v hv, s.cmpTarget_countOverride, (s.countOverride_sameButRegs d _).baseTick,
    if_neg (Nat.not_le_of_lt hfut)]
  obtain ⟨en, -, armed, late⟩ := (s.countOverride d (Reg.timeCmpCtl i)).cmpEnabled_flags i v
  refine ⟨en.trans hv, armed, late.trans (s.flag_countOverride d _ ?_ 1), (State.cmpEnabled_wroteOnly _ i v).afterOverride
    (fun _ => cmpReg.mem_armRegs) (by simp)⟩
  simp only [Reg.timeCmpStat, Reg.ownStwOverride]
  omega

theorem completes_compareArm_late (hlate : s.cmpTarget i ≤ s.baseTick i) : completes (.compareArm d i v) s (fun t =>
      t.flag (Reg.timeCmpStat i) 1 = true ∧ t.flag (Reg.timeCmpCtl i) 0 = !v.getLsbD 8 ∧
      t.flag (Reg.timeCmpStat i) 0 = !v.getLsbD 8 ∧
      wroteOnly (· ∈ [Reg.timeCmpCtl i, Reg.timeCmpStat i, Reg.sticky Pg.time, Reg.ownStwOverride]) s t) := by
  refine completes_of_takes h rfl ?_
  rw [State.cmpCtlWrite_eq _ i v hv, s.cmpTarget_countOverride, (s.countOverride_sameButRegs d _).baseTick, if_pos hlate]
  obtain ⟨en, nolate, armed, -⟩ := (s.countOverride d (Reg.timeCmpCtl i)).cmpEnabled_flags i v
  obtain ⟨late, ctl, stat⟩ := State.cmpLate_flags _ i (en.trans hv) armed
  rw [nolate] at ctl stat
  exact ⟨late, ctl, stat, ((State.cmpEnabled_wroteOnly _ i v).trans (State.cmpLate_wroteOnly _ i)).afterOverride
    (fun _ => cmpReg.mem_armRegs) (by simp)⟩

end Arm

/-- The firing of a compare at tick `e`, once that tick has come (R178 to R181). -/
theorem State.cmpFire_after (s : State) (i : Fin 24) (e : Nat) (hrun : s.time.running = true) (he : s.time.mtime ≤ e)
    (harm : s.flag (Reg.timeCmpCtl i) 0 = true) : let t := (s.advanceTo e).cmpFire i
    let b := (s.advanceTo e).baseTick i
    let p := s.nat (Reg.timeCmpPeriod i)
    t.time.mtime = e ∧ t.fld (Reg.timeCmpStat i) 31 16 = (s.fld (Reg.timeCmpStat i) 31 16 + 1) % 65536 ∧
    t.flag (Reg.intStat Pg.time) (8 + i) = true ∧
    (p = 0 → t.flag (Reg.timeCmpCtl i) 0 = false ∧ t.flag (Reg.timeCmpStat i) 0 = false) ∧
    (p ≠ 0 → t.flag (Reg.timeCmpCtl i) 0 = true ∧
      t.rd64 (Reg.timeCmpLo i) = (s.cmpTarget i + ((b - s.cmpTarget i) / p + 1) * p) % 2 ^ 64) ∧
    (wfld (s.rd (Reg.timeCmpCtl i)) 7 4 = 0 → samePagesBut [Pg.time] s t ∧ t.out = s.out) ∧ t.mem = s.mem := by
  have rd : ∀ k, (s.advanceTo e).rd k = s.rd k := s.rd_advanceTo e
  have hp : (s.advanceTo e).nat (Reg.timeCmpPeriod i) = s.nat (Reg.timeCmpPeriod i) := congrArg BitVec.toNat (rd _)
  have htarget : (s.advanceTo e).cmpTarget i = s.cmpTarget i := State.rd64_congr (rd _) (rd _)
  obtain ⟨hm, hfires, hcause, hmem⟩ := (s.advanceTo e).cmpFire_counts i.isLt
  refine ⟨?_, ?_, hcause, fun h0 => ?_, fun h0 => ?_, fun ha => ?_, hmem.trans (s.mem_advanceTo e)⟩
  · rw [hm, s.mtime_advanceTo e hrun]
    exact Nat.max_eq_right he
  · rw [hfires, State.fld_congr _ _ (rd _)]
  · exact State.cmpFire_oneShot _ i.isLt (hp.trans h0)
  · obtain ⟨hctl, hlo⟩ := (s.advanceTo e).cmpFire_periodic i.isLt (fun h => h0 (hp.symm.trans h))
    rw [hp, htarget] at hlo
    exact ⟨hctl.trans ((State.flag_congr 0 (rd _)).trans harm), hlo⟩
  · obtain ⟨hpages, hout⟩ := (s.advanceTo e).cmpFire_frame i.isLt (by rw [rd]; exact ha)
    exact ⟨fun k hk => (hpages k hk).trans (rd k), hout.trans (s.out_advanceTo e)⟩

/-! The end of a pulse on TIME_OUT (R179, R186). -/

/-- The state at the end of the pulse, before capture units see the pin rise. -/
def State.pulseOver (s : State) (e : Nat) : State := (s.advanceTo e).updTime (fun m => { m with outEnd := none })

section PulseOver
variable (s : State) (e : Nat)

theorem State.pulseOver_outEnd : (s.pulseOver e).time.outEnd = none := rfl

theorem State.pulseOver_mtime (h : s.time.running = true) : (s.pulseOver e).time.mtime = Nat.max s.time.mtime e :=
  s.mtime_advanceTo e h

theorem State.pulseOver_regs : (s.pulseOver e).regs = s.regs := by
  rw [State.pulseOver, State.advanceTo_eq]
  rfl

theorem State.pulseOver_mem : (s.pulseOver e).mem = s.mem := s.mem_advanceTo e

theorem State.execTimeOutPulseEnd_eq (h : s.time.outEnd = some e) : execTimeOutPulseEnd s = .next
    (if s.flag Reg.timeOutCtl 16 then (s.pulseOver e).captureAt 40 (e * 256) ((s.pulseOver e).basesAt e).1
      ((s.pulseOver e).basesAt e).2 true else s.pulseOver e) := by
  have hpol : (s.pulseOver e).flag Reg.timeOutCtl 16 = s.flag Reg.timeOutCtl 16 :=
    State.flag_congr 16 (by rw [State.rd, s.pulseOver_regs, State.rd])
  rw [← hpol, execTimeOutPulseEnd, h]
  rfl

end PulseOver

theorem completes_timeOutPulseEnd {s : State} {e : Nat} (he : s.time.outEnd = some e) (hrun : s.time.running = true) :
    completes .timeOutPulseEnd s (fun t => t.time.outEnd = none ∧ t.time.mtime = Nat.max s.time.mtime e ∧
      samePagesBut [Pg.time] s t ∧ (s.flag Reg.timeOutCtl 16 = false → t.regs = s.regs) ∧ t.mem = s.mem) := by
  have rd : ∀ k, (s.pulseOver e).rd k = s.rd k := fun k => by rw [State.rd, s.pulseOver_regs, State.rd]
  refine ⟨_, s.execTimeOutPulseEnd_eq e he, ?_⟩
  split
  · next hpol =>
    have seen := (s.pulseOver e).captureAt_wroteOnly 40 (e * 256) ((s.pulseOver e).basesAt e).1
      ((s.pulseOver e).basesAt e).2 true
    refine ⟨by rw [seen.2.time, s.pulseOver_outEnd], by rw [seen.2.time, s.pulseOver_mtime e hrun], fun k hk => ?_,
      fun h => absurd (h.symm.trans hpol) (by decide), seen.2.mem.trans (s.pulseOver_mem e)⟩
    have hpage : k / 0x1000 ≠ Pg.time := fun h => hk (h ▸ .head _)
    exact (seen.rd (fun h => hpage (captureReg_page h))).trans (rd k)
  · exact ⟨s.pulseOver_outEnd e, s.pulseOver_mtime e hrun, fun k _ => rd k, fun _ => s.pulseOver_regs e, s.pulseOver_mem e⟩

/-- Settles O23: what each command does to the TIME page's registers, and that the rest stays. -/
theorem snapshotsStepsAndCompares : Obligations.SnapshotsStepsAndCompares := by
  refine ⟨fun d v s h => ⟨fun hv => completes_mono (completes_snap h hv) ?_, completes_snap_withoutGo h⟩,
    fun d v s h hv => ⟨completes_wstepSchedule_refused h hv, completes_wstepSchedule h hv⟩,
    fun s => completes_wtimeLoad, fun d i v s h hv => ⟨completes_compareArm_future h hv, completes_compareArm_late h hv⟩, ?_,
    fun e s => completes_timeOutPulseEnd⟩
  · rintro t ⟨⟨hm, hw, hx, hbin, hseq⟩, hother, hrest⟩
    refine ⟨hm, hw, hx, hbin, hseq, fun a ha hne => hother a ?_, hrest⟩
    rintro (⟨hlo, hhi⟩ | rfl)
    · omega
    · exact hne rfl
  · intro i s harm hrun target at' b p hready hreach hload hmode hlow
    have hedge : s.cmpEdge i = at' := s.cmpEdge_of_reached hready
    have hnow : s.time.mtime ≤ at' := by
      refine le_trans ?_ (s.le_edgeAt _)
      split
      · exact Nat.le_max_left _ _
      · exact le_rfl
    have hexec := s.execCompareFire_first i harm hrun (by rw [hedge]; exact s.beforeCompares_of_nothingDue at' hload hmode)
      (by rw [hedge]; exact hlow) (by rw [hedge]; exact hreach)
    rw [hedge] at hexec
    exact ⟨_, hexec, s.cmpFire_after i at' hrun hnow harm⟩

end Sys2Proof.Machine
end
